-- ==== Sys2Proof/Word.lean ====
section
/-!
DEFINITION. The one word type of the part: a character of the roof link, which is also a byte of the EEPROM image.
-/

namespace Sys2Proof

/-- A character of the roof link (R189) or a byte of the EEPROM image (R197): eight bits. -/
abbrev Byte := BitVec 8

end Sys2Proof
end

