-- ==== Sys2Proof/Syntax.lean ====
section
/-!
DEFINITION. The commands of the part: one constructor of `Instr` for each row of spec/opcode_table.json, in the
table's order, with the operands the row's rule gives it. A command is a request taken on the roof link, a
character or a silence on that link, a reset, a reading, an input change, or the expiry of a timer.
-/

namespace Sys2Proof

/-- The four masters of the roof link (Table 0-1). A frame from any other source reaches no request (R191). -/
inductive Station where
  | vcuA | vcuB | tcc | tool
deriving DecidableEq, Repr

/-- One pantograph position, P1 to P4 (chapter 2). -/
inductive Chan where
  | p1 | p2 | p3 | p4
deriving DecidableEq, Repr

/-- The two breakers: the AC main breaker and the DC line breaker (chapter 6). -/
inductive Brk where
  | bka | bkd
deriving DecidableEq, Repr

/-- An output that has an owner and a handover: a valve, or a heater zone 0 to 15 (R53). -/
inductive Output where
  | valve (ch : Chan)
  | zone (z : Fin 16)
deriving DecidableEq, Repr

/-- The attempts of one read of the EEPROM, in order, each with the bytes that it gave; `none` is an attempt that the
EEPROM does not acknowledge (R174, R197). -/
abbrev Attempts := List (Option (List Byte))

/-- What the two-wire bus shows at the first read of the load (R174): SDA as PST finds it and then after each of its
clock pulses, TRUE being released, and the attempts at bytes 0 to 38. -/
structure HeaderRead where
  sda : List Bool
  attempts : Attempts
deriving DecidableEq, Repr

/-- The commands. A request carries its sending station and its payload as received; the tests of R68 and R192
are part of its meaning. -/
inductive Instr where
  -- requests of the roof link (Table 10-2)
  | statusRead (src : Station) (payload : List Byte)
  | cabTake (src : Station) (payload : List Byte)
  | cabRelease (src : Station) (payload : List Byte)
  | cabPass (src : Station) (payload : List Byte)
  | roofUp (src : Station) (payload : List Byte)
  | roofDown (src : Station) (payload : List Byte)
  | systemSelect (src : Station) (payload : List Byte)
  | breakerClose (src : Station) (payload : List Byte)
  | breakerOpen (src : Station) (payload : List Byte)
  | position (src : Station) (payload : List Byte)
  | sectionLoad (src : Station) (payload : List Byte)
  | sectionClear (src : Station) (payload : List Byte)
  | sectionRead (src : Station) (payload : List Byte)
  | converterReport (src : Station) (payload : List Byte)
  | iceMode (src : Station) (payload : List Byte)
  | parameterSet (src : Station) (payload : List Byte)
  | parameterRead (src : Station) (payload : List Byte)
  | faultRead (src : Station) (payload : List Byte)
  | faultClear (src : Station) (payload : List Byte)
  | thresholdSet (src : Station) (payload : List Byte)
  | lockoutClear (src : Station) (payload : List Byte)
  | outputTake (src : Station) (payload : List Byte)
  | outputDrive (src : Station) (payload : List Byte)
  | outputReturn (src : Station) (payload : List Byte)
  | senseCheckStart (src : Station) (payload : List Byte)
  | senseCheckEnd (src : Station) (payload : List Byte)
  | softReset (src : Station) (payload : List Byte)
  /-- A well-formed frame whose kind code names no request. -/
  | unknownKind (src : Station) (kind : Byte)
  -- the roof link below the requests (R190, R191, R193, R194)
  /-- A complete frame, from its destination to its second CRC character, that fails a check of R191. -/
  | frameDiscarded (frame : List Byte)
  /-- A character that breaks the frame being received; `stopBit` is FALSE for one without its stop bit. -/
  | frameFormatAbort (char : Byte) (stopBit : Bool)
  | frameGapTimeout
  | silenceEnd
  | answerSend
  /-- A character that arrives while an answer waits. -/
  | answerWithdrawn (char : Byte)
  -- resets (R171); the straps are the levels of STRAP4..STRAP0 at the release
  | softResetAction (straps : BitVec 5)
  | powerOnReset
  | pinReset
  | resetRelease (straps : BitVec 5)
  -- the profile store (chapter 9); what its two-wire bus shows
  /-- The bus is freed, or not, and the read of bytes 0 to 38 is attempted (R174). -/
  | profileHeaderRead (read : HeaderRead)
  | segmentRead (attempts : Attempts)
  /-- A segment read fails: none of its three attempts is acknowledged (R177, R197). -/
  | loadEepromNoAnswer
  | winterReadEnd (attempts : Attempts)
  /-- The winter read fails: none of its three attempts is acknowledged (R185, R197). -/
  | winterReadFail
  -- readings, input changes and timers
  | windowPublication
  /-- The readings of one channel: height in mm, force in N, strip temperature in dC. -/
  | channelReading (ch : Chan) (height force strip : Int)
  | ambientReading (temp : Int)
  | heightSensor (ch : Chan)
  | headokLost (ch : Chan)
  | headokRestored (ch : Chan)
  | raiseTimeout (ch : Chan)
  | contactLoss (ch : Chan)
  | lowerTimeout (ch : Chan)
  | forceControlPeriod
  | valvePeriodBoundary
  | heaterPeriodBoundary
  | safePeriodEnd (out : Output)
  | serviceLapse
  | auxokLost
  | auxokReturn
  | cabLapse
  | demandExpiry
  | converterStale
  | odometerPulse
  | positionLapse
  /-- The feedback input of a breaker changes to the level given. -/
  | breakerFeedbackChange (b : Brk) (closed : Bool)
  /-- The level is that of the feedback input at the expiry, whose change may not have been taken yet (R106). -/
  | closeTimeExpiry (b : Brk) (closed : Bool)
  | openTimeExpiry (b : Brk) (closed : Bool)
  | shedTimeout
  | deadRun
  | identifyTimeout
  | converterTimeout
  | settleIntervalEnd
  | iceIndexUpdate
  | slotExpiry
  /-- A sample of the roof voltage divider; in CHECK the pattern generator takes its place (R1). -/
  | roofVoltageSample (code : BitVec 16)
  | characterReceived (char : Byte)
  | answerEnd
deriving DecidableEq, Repr

end Sys2Proof
end

