-- ==== Sys2Proof/Decode.lean ====
section
/-!
DEFINITION. No row of spec/opcode_table.json gives bits ("fields" is empty for every row), so no word spells a
command. What the roof link's characters spell is read by `Machine.frameFate` (R189, R191) and
`Machine.dispatchFrame` (R192), in Machine/Link.lean.
-/

namespace Sys2Proof

/-- The command that a word spells by the table's bits: none, since no row gives any. -/
def decodeTableWord (_nbits _w : Nat) : Option Instr := none

end Sys2Proof
end

