-- ==== Sys2Proof/Config.lean ====
section
/-!
DEFINITION. The values that the manual leaves open. Each is a constant without a body, so that no proof can lean on it.
-/

namespace Sys2Proof.Machine

/-- The bits of a reported byte to which the layouts of chapter 10 (Tables 10-6 to 10-9) give no meaning.
The argument is the byte's place (`spareAt`). Free value: the manual states no value for them (log entry 3). -/
opaque Config.spareBits : Nat → Byte

end Sys2Proof.Machine
end

