-- ==== Sys2Proof/Machine/State.lean ====
section
/-!
DEFINITION. What the part holds, block by block (Table 0-2), as plain data, and its values at the power-on reset.
Times are counts of milliseconds. A field marked MODEL is the model's own and not one the manual names.
-/

namespace Sys2Proof.Machine

/-- Why a step stops the machine. No command of this part stops it: the manual gives every command an effect in
every state, so the type has no constructor. -/
inductive Fault where
deriving DecidableEq, Repr

/-- Why a command has no meaning here. -/
inductive Refusal where
  /-- Raised by `exec` for a command that has no meaning yet. Safe: nothing is claimed of the command. -/
  | notModelled (mnemonic : String)
deriving DecidableEq, Repr

/-! ### Four of a kind -/

/-- One value for each of P1 to P4, or for each of G1 to G4. -/
structure Quad (α : Type) where
  p1 : α
  p2 : α
  p3 : α
  p4 : α
deriving DecidableEq, Repr

namespace Quad

def get {α : Type} (q : Quad α) : Chan → α
  | .p1 => q.p1
  | .p2 => q.p2
  | .p3 => q.p3
  | .p4 => q.p4

def set {α : Type} (q : Quad α) (c : Chan) (a : α) : Quad α :=
  match c with
  | .p1 => { q with p1 := a }
  | .p2 => { q with p2 := a }
  | .p3 => { q with p3 := a }
  | .p4 => { q with p4 := a }

def const {α : Type} (a : α) : Quad α := ⟨a, a, a, a⟩

end Quad

/-! ### Names -/

/-- The four roof states (Table 0-3). -/
inductive RoofState where
  | starting | ready | check | safeHeld
deriving DecidableEq, Repr

/-- The four line systems. -/
inductive Sys where
  | ac25 | ac15 | dc3 | dc15
deriving DecidableEq, Repr

/-- The two classes of line system. -/
inductive Cls where
  | ac | dc
deriving DecidableEq, Repr

/-- The class of a window, and the values of measured_system (R10, R13). -/
inductive LineClass where
  | none
  | sys (s : Sys)
  | invalid
deriving DecidableEq, Repr

/-! ### Line System Identifier (chapter 1) -/

inductive InvalidReason where
  | overRange | negativeDc | unmatched
deriving DecidableEq, Repr

/-- A window buffer: its samples, newest first, and the three sums formed as they arrive (R5). -/
structure Window where
  samples : List Int
  s1 : Int
  s2 : Nat
  sat : Nat
deriving DecidableEq, Repr

/-- The last-window record (Table 1-1). -/
structure WindowRecord where
  count : Nat
  /-- DIVIDER is `none`; PATTERN p is `some p`. -/
  source : Option (Fin 4)
  sat : Nat
  meanV : Int
  rmsV : Nat
  crossings : Nat
  fcHz : Nat
  cls : LineClass
  reason : Option InvalidReason
deriving DecidableEq, Repr

inductive CheckResult where
  | notRun | pending | pass | fail | incomplete
deriving DecidableEq, Repr

structure Lsi where
  filling : Window
  evaluating : Option Window
  record : WindowRecord
  candidate : Option LineClass
  runCount : Nat
  measured : LineClass
  checkPattern : Option (Fin 4)
  checkResult : CheckResult
deriving DecidableEq, Repr

/-! ### Pantograph Control Unit (chapters 2 and 3) -/

inductive ChanState where
  | lowered | raising | inContact | lowering | dropped | lockedOut | stuck | service
deriving DecidableEq, Repr

inductive Role where
  | none | collector | scraper
deriving DecidableEq, Repr

inductive Lockout where
  | headPressure | heightSensor
deriving DecidableEq, Repr

/-- The hold of R26: not running; running for so many milliseconds; ended by a failure that no valid reading has
yet followed. -/
inductive HeightHold where
  | idle
  | running (ms : Nat)
  | failed
deriving DecidableEq, Repr

/-- The channel record (Table 2-1). class and mount_offset_dm are effective parameter values and are read as such
(`chanClass`, `mountOffset`). -/
structure Channel where
  state : ChanState
  role : Role
  heightMm : Nat
  heightValid : Bool
  forceN : Nat
  forceTarget : Int
  integrator : Int
  arcArmed : Bool
  stateTime : Nat
  lowForceTime : Nat
  dumpOn : Bool
  lockout : Option Lockout
  /-- The HEADOK input: TRUE is ACTIVE. -/
  headok : Bool
  /-- The FORCE_RANGE offer is armed (R25, Table 2-14). -/
  forceRangeArmed : Bool
  hold : HeightHold
  /-- MODEL: the latest height reading was invalid (R46). -/
  lastInvalid : Bool
  /-- MODEL: low_force_time is counting: the force is below loss_force in IN_CONTACT (R30). -/
  lowForce : Bool
  /-- MODEL: contact_loss_ms as it stood at the latest force reading (R30: a change applies at the next one). -/
  lossLimit : Nat
deriving DecidableEq, Repr

structure Pcu where
  chans : Quad Channel
  preferred : Option Chan
  collectorHold : Bool
  scraperHold : Bool
deriving DecidableEq, Repr

/-! ### Roof Output Stage (chapter 3) -/

inductive Owner where
  | loop | service
deriving DecidableEq, Repr

inductive Handover where
  | none | toService | toLoop
deriving DecidableEq, Repr

/-- The record of a valve or heater output (R53). -/
structure Out where
  owner : Owner
  handover : Handover
  applied : Nat
  buffered : Nat
  cancelled : Bool
  /-- MODEL: period boundaries still to come before the safe period of the handover ends (R58). -/
  safeLeft : Nat
deriving DecidableEq, Repr

/-- The dump settings are the channels' `dumpOn`: the two names share one setting. -/
structure Ros where
  valves : Quad Out
  /-- The heater zones: for each channel its four zones in zone order. -/
  zones : Quad (Quad Out)
  /-- The AUXOK input: TRUE is active. -/
  auxok : Bool
deriving DecidableEq, Repr

/-! ### Cab Authority Unit (chapter 4) -/

/-- The two vehicle control units. -/
inductive Vcu where
  | a | b
deriving DecidableEq, Repr

/-- A live raise demand (R74). A demand that is not live is `none`. -/
structure Demand where
  origin : Vcu
  refresh : Nat
deriving DecidableEq, Repr

inductive ConvState where
  | off | ready | running | fault
deriving DecidableEq, Repr

/-- The converter record (R79, R80). -/
structure Converter where
  state : ConvState
  sys : Option Sys
  reportTime : Option Nat
  fresh : Bool
deriving DecidableEq, Repr

structure Cau where
  actA : Option Nat
  actB : Option Nat
  actTool : Option Nat
  active : Option Vcu
  /-- The moment at which the active VCU became active (R73). -/
  activeSince : Nat
  demand : Option Demand
  conv : Converter
  /-- MODEL: service_lapse_ms as it stood at the latest Service Tool frame (R61). -/
  serviceLapseMs : Nat
  /-- MODEL: the service lapse since the latest Service Tool frame has been taken (R61: one lapse, one fault). -/
  serviceLapsed : Bool
deriving DecidableEq, Repr

/-! ### Section Map (chapter 5) -/

/-- The kinds of a section entry (Table 5-1). -/
inductive SecKind where
  | sys (s : Sys)
  | neutral | separation | lowerZone | iceWatch
deriving DecidableEq, Repr

/-- The combined kinds (R92, R93). -/
inductive CombKind where
  | unknown
  | sys (s : Sys)
  | neutral | separation | lowerZone
deriving DecidableEq, Repr

/-- A section entry (Table 5-1); track 15 is ANY. -/
structure Entry where
  startM : Nat
  stopM : Nat
  kind : SecKind
  track : Nat
  isFixed : Bool
deriving DecidableEq, Repr

/-- The position record (Table 5-6). -/
structure Position where
  valid : Bool
  positionM : Nat
  remainderMm : Nat
  track : Nat
  minus : Bool
  speed : Nat
  speedClamped : Bool
  reportTime : Option Nat
  stale : Bool
  travelMm : Nat
deriving DecidableEq, Repr

/-- The Section Outlook (Table 5-7). The systems of current_kind and next_kind are read from the kinds. -/
structure Outlook where
  valid : Bool
  kind : CombKind
  conflict : Bool
  iceHere : Bool
  lookaheadM : Nat
  next : Option CombKind
  distance : Option Nat
  following : Option Sys
deriving DecidableEq, Repr

structure Smp where
  table : List Entry
  pos : Position
  outlook : Outlook
  /-- current_conflict of the previous recompute (R101, Table 5-10). -/
  prevConflict : Bool
deriving DecidableEq, Repr

/-! ### Changeover Sequencer (chapter 6) -/

inductive BrkState where
  | opened | closing | closed | opening | failed
deriving DecidableEq, Repr

/-- A breaker record (Table 6-1). -/
structure Breaker where
  state : BrkState
  closeCoil : Bool
  holdCoil : Bool
  /-- The feedback input as last taken: TRUE is CLOSED. -/
  feedback : Bool
  opTime : Nat
deriving DecidableEq, Repr

inductive SeqKind where
  | close | open | roofDown | changeover | neutralPass | lowerPass
deriving DecidableEq, Repr

inductive Origin where
  | vcuA | vcuB | converter | outlook | protection
deriving DecidableEq, Repr

inductive Stage where
  | shed | opening | lowering | waitSection | raising | identify | converter | closing
deriving DecidableEq, Repr

inductive WaitPhase where
  | approach | inside
deriving DecidableEq, Repr

inductive Awaited where
  | neutral | separation | lowerZone
deriving DecidableEq, Repr

/-- The reasons of ABORTED and HALTED, in the order of Table 6-10. -/
inductive Reason where
  | roofDown | cabRelease | cabLapse | demandExpiry | breakerOpen | protection | roofSafe | channelFailed
  | noDemand | noChannel | noTarget | deadRun | systemMismatch | invalidSystem | converterTimeout
  | closeCondition | closeFailed
deriving DecidableEq, Repr

inductive Result where
  | complete
  | aborted (r : Reason)
  | halted (r : Reason)
deriving DecidableEq, Repr

/-- MODEL: how a stage whose work is done within the present event is to be left. -/
inductive StageExit where
  | next
  | lowering
  | halt (r : Reason) (sub : Nat)
deriving DecidableEq, Repr

/-- The sequence record (Table 6-7) of a running sequence. -/
structure Sequence where
  kind : SeqKind
  origin : Origin
  target : Option Sys
  fromSys : Option Sys
  awaited : Option Awaited
  stage : Stage
  phase : Option WaitPhase
  lowerAll : Bool
  stageTime : Nat
  identifyTime : Option Nat
  startTime : BitVec 32
  /-- MODEL: the LOWERING stage has sent its ordinary lower (R120). -/
  lowerSent : Bool
  /-- MODEL: the CONVERTER timer has expired and the stage goes on waiting without it (R125). -/
  convTimerDone : Bool
  /-- MODEL: set and consumed within one event. -/
  exit : Option StageExit
deriving DecidableEq, Repr

/-- An entry of the outcome list (R116, R126). -/
structure Ended where
  kind : SeqKind
  origin : Origin
  target : Option Sys
  result : Result
  stage : Stage
  /-- The sub-reason of HALTED(CLOSE_CONDITION), 0 when there is none. -/
  sub : Nat
  time : BitVec 32
deriving DecidableEq, Repr

structure Chg where
  bka : Breaker
  bkd : Breaker
  target : Option Sys
  inForce : Option Sys
  seq : Option Sequence
  ended : List Ended
  shed : Bool
deriving DecidableEq, Repr

/-! ### Ice Clearing Unit (chapter 7) -/

inductive IceMode where
  | off | auto | forced
deriving DecidableEq, Repr

inductive IceLevel where
  | clear | alert | icing
deriving DecidableEq, Repr

/-- The running slot (Table 7-1). Groups G1 to G4 are named by the `Chan` of the same number. -/
structure Slot where
  group : Chan
  zones : List (Fin 16)
  duty : Nat
  rate2x : Bool
  time : Nat
deriving DecidableEq, Repr

inductive SlotState where
  | idle
  | running (slot : Slot)
  | held
deriving DecidableEq, Repr

structure Ice where
  mode : IceMode
  index : Nat
  level : IceLevel
  arcCount : Nat
  watch : Bool
  ambient : Int
  ambientValid : Bool
  /-- The AMBIENT_SENSOR offer is armed (R134). -/
  ambientArmed : Bool
  strip : Quad Int
  stripHot : Quad Bool
  counters : Quad Nat
  pointer : Option Chan
  slot : SlotState
  scraperRequest : Bool
  winterRequest : Bool
deriving DecidableEq, Repr

/-! ### Fault Banks (chapter 8) -/

inductive BankId where
  | link | panto | line | change | ice | sectionMap | profile
deriving DecidableEq, Repr

/-- The fault kinds (Table 8-3). SYSTEM_MISMATCH is two kinds that share a name (R153). -/
inductive FaultKind where
  | frameCrc | frameFormat | unknownSource | cabLapse | serviceLapse
  | arc | forceRange | raiseTimeout | noWire | heightSensor | autoDrop | lowerTimeout
  | saturation | lossOfLine | invalidSystem | lineMismatch | checkFail
  | shedTimeout | breakerTripped | converterLost | breakerCloseFail | changeMismatch | deadRun
  | converterTimeout | breakerOpenFail | breakerUncommanded
  | stripOvertemp | auxLost | ambientSensor
  | positionJump | positionLapse | sectionConflict
  | segmentSkipped | paramRange | segmentInvalid | winterUnread | eepromNoAnswer | headerMissing
deriving DecidableEq, Repr

/-- Where a fault arose (R153). -/
inductive Ctx where
  | channel (c : Chan)
  | breaker (b : Brk)
  | position (m : Nat)
  | param (n : Nat)
  | station (a : Nat)
deriving DecidableEq, Repr

/-- A valid fault record (Table 8-1). `uncorrected` is read from the kind, context_valid from the context. -/
structure FaultRecord where
  kind : FaultKind
  enabled : Bool
  ctx : Option Ctx
  overflow : Bool
  corrupt : Bool
  stampTime : BitVec 32
  stampPos : Option Nat
deriving DecidableEq, Repr

structure Bank where
  /-- `none` is a record with valid FALSE and every field cleared (R154). -/
  record : Option FaultRecord
  counter : Nat
  counterOverflow : Bool
  countEnable : Bool
  /-- The mask bits of SHED_TIMEOUT and CONVERTER_TIMEOUT; clear in every bank but CHANGE (R157). -/
  maskShed : Bool
  maskConv : Bool
deriving DecidableEq, Repr

structure Flt where
  link : Bank
  panto : Bank
  line : Bank
  change : Bank
  ice : Bank
  sectionMap : Bank
  profile : Bank
deriving DecidableEq, Repr

/-! ### Profile Store (chapter 9) -/

/-- A layer of the parameter table: number and value pairs, numbers rising. -/
abbrev Layer := List (Nat × Int)

inductive WinterState where
  | off | reading | cancelled | pending | active | ending
deriving DecidableEq, Repr

inductive DefaultsReason where
  | strap | noAnswer | header
deriving DecidableEq, Repr

/-- The nine segments, in descriptor order. -/
inductive Segment where
  | common | variant0 | variant1 | variant2 | variant3 | system | sections | ice | winter
deriving DecidableEq, Repr

inductive SegLoad where
  | notRead | loaded | part | skipped | invalid
deriving DecidableEq, Repr

/-- The parameter groups (R180). -/
inductive Group where
  | general | panto | line | change | ice
deriving DecidableEq, Repr

/-- A segment descriptor: first and last byte address (R174). -/
structure Descriptor where
  first : Nat
  last : Nat
deriving DecidableEq, Repr

/-- Where the load stands: not loading, waiting for the header read, or waiting for the read of a segment with
further segments to come. -/
inductive LoadPhase where
  | idle
  | header
  | segment (seg : Segment) (rest : List Segment)
deriving DecidableEq, Repr

structure Pst where
  /-- STRAP4..STRAP0 as sampled at the last release (R172). -/
  straps : BitVec 5
  /-- MODEL: STARTING has ended and the loaded table is the one the blocks run with (R179). -/
  live : Bool
  profile : Layer
  link : Layer
  winter : Layer
  /-- The values taken by a winter read and not yet applied (R186). -/
  winterHeld : Layer
  winterState : WinterState
  /-- profile_source: TRUE is EEPROM. -/
  fromEeprom : Bool
  reason : Option DefaultsReason
  /-- The load states of the nine segments, in descriptor order. -/
  segs : List SegLoad
  reverted : List Group
  descriptors : List Descriptor
  load : LoadPhase
  lastSet : Option Nat
  settle : Bool
deriving DecidableEq, Repr

/-! ### Link Interface (chapter 10) -/

inductive Receiver where
  | silenceWait | idle | receiving
deriving DecidableEq, Repr

/-- An answer frame without marker, source, length and CRC, which `answerFrame` adds (R193). -/
structure Answer where
  dest : Byte
  kind : Byte
  payload : List Byte
deriving DecidableEq, Repr

/-- A soft reset: none asked for; taken, its answer not yet sent or withdrawn; due (R187, R194). -/
inductive SoftPhase where
  | none | answering | due
deriving DecidableEq, Repr

structure Lnk where
  receiver : Receiver
  /-- The characters of the frame being received, after its marker. -/
  buffer : List Byte
  /-- The answer that waits to be sent. -/
  waiting : Option Answer
  /-- The answer being sent. -/
  sending : Option Answer
  soft : SoftPhase
  /-- MODEL: milliseconds since the last character on the line or the last change of the answer. -/
  quietMs : Nat
deriving DecidableEq, Repr

/-! ### The whole part -/

structure State where
  /-- The commands that wait, first in, first out. -/
  pending : List Instr
  /-- A reset is held: no frame is received and nothing but a release acts (R171). -/
  held : Bool
  roofState : RoofState
  /-- Milliseconds since the release of the last reset. Roof time is this in steps of 10 ms (R171). -/
  now : Nat
  /-- Milliseconds since the end of STARTING. -/
  runMs : Nat
  lsi : Lsi
  pcu : Pcu
  ros : Ros
  cau : Cau
  smp : Smp
  chg : Chg
  ice : Ice
  flt : Flt
  pst : Pst
  lnk : Lnk
deriving DecidableEq, Repr

/-! ### Replacing one block -/

namespace State

def withPending (s : State) (q : List Instr) : State := { s with pending := q }
def withHeld (s : State) (b : Bool) : State := { s with held := b }
def withRoof (s : State) (r : RoofState) : State := { s with roofState := r }
def withNow (s : State) (t : Nat) : State := { s with now := t }
def withRun (s : State) (t : Nat) : State := { s with runMs := t }
def withLsi (s : State) (x : Lsi) : State := { s with lsi := x }
def withPcu (s : State) (x : Pcu) : State := { s with pcu := x }
def withRos (s : State) (x : Ros) : State := { s with ros := x }
def withCau (s : State) (x : Cau) : State := { s with cau := x }
def withSmp (s : State) (x : Smp) : State := { s with smp := x }
def withChg (s : State) (x : Chg) : State := { s with chg := x }
def withIce (s : State) (x : Ice) : State := { s with ice := x }
def withFlt (s : State) (x : Flt) : State := { s with flt := x }
def withPst (s : State) (x : Pst) : State := { s with pst := x }
def withLnk (s : State) (x : Lnk) : State := { s with lnk := x }

end State

/-! ### Reset values -/

def Window.empty : Window := ⟨[], 0, 0, 0⟩

/-- Table 1-13. -/
def Lsi.reset : Lsi where
  filling := Window.empty
  evaluating := none
  record := ⟨0, none, 0, 0, 0, 0, 0, .none, none⟩
  candidate := none
  runCount := 0
  measured := .none
  checkPattern := none
  checkResult := .notRun

/-- Table 2-14; `headok` is an input and has no reset value of its own. F_min is 40 N by default, and
contact_loss_ms is 1,000. -/
def Channel.reset (headok : Bool) : Channel where
  state := .lowered
  role := .none
  heightMm := 0
  heightValid := false
  forceN := 0
  forceTarget := 40
  integrator := 0
  arcArmed := false
  stateTime := 0
  lowForceTime := 0
  dumpOn := false
  lockout := none
  headok := headok
  forceRangeArmed := true
  hold := .idle
  lastInvalid := false
  lowForce := false
  lossLimit := 1000

/-- Table 2-14, with the HEADOK inputs as they stand. -/
def Pcu.reset (p : Quad Channel) : Pcu where
  chans := ⟨.reset p.p1.headok, .reset p.p2.headok, .reset p.p3.headok, .reset p.p4.headok⟩
  preferred := none
  collectorHold := false
  scraperHold := false

/-- Table 3-8. -/
def Out.reset : Out := ⟨.loop, .none, 0, 0, false, 0⟩

/-- Table 3-8, with the AUXOK input as it stands. -/
def Ros.reset (auxok : Bool) : Ros where
  valves := .const .reset
  zones := .const (.const .reset)
  auxok := auxok

/-- Table 4-6. service_lapse_ms is 3,000 by default. -/
def Cau.reset : Cau where
  actA := none
  actB := none
  actTool := none
  active := none
  activeSince := 0
  demand := none
  conv := ⟨.off, none, none, false⟩
  serviceLapseMs := 3000
  serviceLapsed := false

/-- The values of an invalid outlook (R98). -/
def Outlook.invalid : Outlook := ⟨false, .unknown, false, false, 0, none, none, none⟩

/-- Table 5-10. -/
def Smp.reset : Smp where
  table := []
  pos := ⟨false, 0, 0, 0, false, 0, false, none, false, 0⟩
  outlook := .invalid
  prevConflict := false

/-- R110: coils OFF; OPEN or OPENING as the feedback input shows. -/
def Breaker.reset (feedback : Bool) : Breaker :=
  ⟨if feedback then .opening else .opened, false, false, feedback, 0⟩

/-- Table 6-11, with the feedback inputs as they stand. -/
def Chg.reset (fbA fbD : Bool) : Chg where
  bka := .reset fbA
  bkd := .reset fbD
  target := none
  inForce := none
  seq := none
  ended := []
  shed := true

/-- Table 7-13. -/
def Ice.reset : Ice where
  mode := .off
  index := 0
  level := .clear
  arcCount := 0
  watch := false
  ambient := 0
  ambientValid := false
  ambientArmed := true
  strip := .const 0
  stripHot := .const false
  counters := .const 0
  pointer := none
  slot := .idle
  scraperRequest := false
  winterRequest := false

/-- Table 8-6, the power-on column. -/
def Bank.reset : Bank := ⟨none, 0, false, false, false, false⟩

/-- Table 8-6, the power-on column. -/
def Flt.reset : Flt := ⟨.reset, .reset, .reset, .reset, .reset, .reset, .reset⟩

/-- Table 9-9; the straps are sampled at the release. -/
def Pst.reset (straps : BitVec 5) : Pst where
  straps := straps
  live := false
  profile := []
  link := []
  winter := []
  winterHeld := []
  winterState := .off
  fromEeprom := false
  reason := none
  segs := List.replicate 9 .notRead
  reverted := []
  descriptors := []
  load := .idle
  lastSet := none
  settle := false

/-- R198. -/
def Lnk.reset : Lnk := ⟨.silenceWait, [], none, none, .none, 0⟩

/-- The part at the power-on reset, which is still held (R171): every block at its reset value. DESIGN CHOICE (log
entry 1): the input levels are HEADOK active, AUXOK active and both feedbacks open, and the straps, which no
release has sampled yet, are 0. -/
def State.reset : State where
  pending := []
  held := true
  roofState := .starting
  now := 0
  runMs := 0
  lsi := .reset
  pcu := .reset (.const (.reset true))
  ros := .reset true
  cau := .reset
  smp := .reset
  chg := .reset false false
  ice := .reset
  flt := .reset
  pst := .reset 0
  lnk := .reset

end Sys2Proof.Machine
end

