-- ==== Sys2Proof/Machine/Operands.lean ====
section
/-!
DEFINITION. The forms of the operands: names and their numbers, numbers on the link (R196), the payloads of the
requests (Table 10-2), the role table (Table 4-1), and the parameter list (Table 9-5).
-/

namespace Sys2Proof.Machine

/-! ### Channels, breakers, zones -/

def allChans : List Chan := [.p1, .p2, .p3, .p4]

/-- P1 to P4 from 0 to 3. -/
def chanIndex : Chan → Nat
  | .p1 => 0
  | .p2 => 1
  | .p3 => 2
  | .p4 => 3

/-- The channel number, 1 to 4. -/
def chanNumber (c : Chan) : Nat := chanIndex c + 1

/-- The channel of an index; an index above 3 names P4 and is not used. -/
def chanAt : Nat → Chan
  | 0 => .p1
  | 1 => .p2
  | 2 => .p3
  | _ => .p4

/-- The channel of a channel number, if the number is 1 to 4. -/
def chanOfNumber (n : Nat) : Option Chan :=
  if 1 ≤ n ∧ n ≤ 4 then some (chanAt (n - 1)) else none

/-- Heater zone z belongs to channel floor(z / 4) + 1 (chapter 3). -/
def zoneHead (z : Fin 16) : Chan := chanAt (z.val / 4)

/-- The place of a zone among the four of its head. -/
def zonePlace (z : Fin 16) : Chan := chanAt (z.val % 4)

def allZones : List (Fin 16) := List.finRange 16

def otherBrk : Brk → Brk
  | .bka => .bkd
  | .bkd => .bka

def classOf : Sys → Cls
  | .ac25 | .ac15 => .ac
  | .dc3 | .dc15 => .dc

/-- BKA serves the AC class, BKD the DC class. -/
def brkOf : Cls → Brk
  | .ac => .bka
  | .dc => .bkd

def otherVcu : Vcu → Vcu
  | .a => .b
  | .b => .a

/-! ### Stations (Table 0-1) -/

def stationAddress : Station → Nat
  | .vcuA => 0x01
  | .vcuB => 0x02
  | .tcc => 0x03
  | .tool => 0x04

def stationOf (a : Byte) : Option Station :=
  match a.toNat with
  | 0x01 => some .vcuA
  | 0x02 => some .vcuB
  | 0x03 => some .tcc
  | 0x04 => some .tool
  | _ => none

def vcuOf : Station → Option Vcu
  | .vcuA => some .a
  | .vcuB => some .b
  | .tcc | .tool => none

def vcuStation : Vcu → Station
  | .a => .vcuA
  | .b => .vcuB

def vcuOrigin : Vcu → Origin
  | .a => .vcuA
  | .b => .vcuB

/-- The origin of a sequence that a station's request starts (R112, R114, R128). -/
def stationOrigin : Station → Origin
  | .vcuA => .vcuA
  | .vcuB => .vcuB
  | .tcc | .tool => .converter

/-! ### Numbers on the link (R196) -/

/-- The number that bytes carry, least significant byte first. -/
def leNat : List Byte → Nat
  | [] => 0
  | b :: bs => b.toNat + 256 * leNat bs

/-- The signed number that bytes carry, least significant byte first, in two's complement. -/
def leInt (bs : List Byte) : Int :=
  let n := leNat bs
  if 2 * n < 256 ^ bs.length then (n : Int) else (n : Int) - (256 ^ bs.length : Nat)

/-- A number in k bytes, least significant byte first. -/
def leBytes : Nat → Nat → List Byte
  | 0, _ => []
  | k + 1, n => BitVec.ofNat 8 n :: leBytes k (n / 256)

/-- A signed number in k bytes, in two's complement. -/
def leBytesInt (k : Nat) (i : Int) : List Byte := leBytes k (i % (256 ^ k : Nat)).toNat

/-- A value in k bytes, all ones when it is absent. -/
def leBytesOpt (k : Nat) : Option Nat → List Byte
  | some n => leBytes k n
  | none => List.replicate k 0xFF#8

/-- A number in w bits, all ones when it is absent. -/
def optBits (w : Nat) : Option Nat → Nat
  | some n => n
  | none => 2 ^ w - 1

def bitOf (b : Bool) : Nat := if b then 1 else 0

/-! ### Codes of the values that requests carry (Tables 10-2 and 10-5) -/

def sysCode : Sys → Nat
  | .ac25 => 1
  | .ac15 => 2
  | .dc3 => 3
  | .dc15 => 4

def sysOfCode : Nat → Option Sys
  | 1 => some .ac25
  | 2 => some .ac15
  | 3 => some .dc3
  | 4 => some .dc15
  | _ => none

def convStateOfCode : Nat → Option ConvState
  | 0 => some .off
  | 1 => some .ready
  | 2 => some .running
  | 3 => some .fault
  | _ => none

/-- The system of a CONVERTER REPORT: NONE 0, or one of the four. -/
def convSysOfCode (n : Nat) : Option (Option Sys) :=
  if n = 0 then some none else (sysOfCode n).map some

def iceModeOfCode : Nat → Option IceMode
  | 0 => some .off
  | 1 => some .auto
  | 2 => some .forced
  | _ => none

def bankOfCode : Nat → Option BankId
  | 0 => some .link
  | 1 => some .panto
  | 2 => some .line
  | 3 => some .change
  | 4 => some .ice
  | 5 => some .sectionMap
  | 6 => some .profile
  | _ => none

def secKindOfCode : Nat → Option SecKind
  | 1 => some (.sys .ac25)
  | 2 => some (.sys .ac15)
  | 3 => some (.sys .dc3)
  | 4 => some (.sys .dc15)
  | 5 => some .neutral
  | 6 => some .separation
  | 7 => some .lowerZone
  | 8 => some .iceWatch
  | _ => none

/-- The output identifiers: 0x01 to 0x04 valves, 0x10 to 0x1F heater zones (R192). -/
def outputOfCode (n : Nat) : Option Output :=
  match chanOfNumber n with
  | some c => some (.valve c)
  | none => if h : 0x10 ≤ n ∧ n ≤ 0x1F then some (.zone ⟨n - 0x10, by omega⟩) else none

/-! ### Section entries (Table 10-10) -/

/-- The eight bytes of an entry as an entry, if its kind and track codes are those of Table 5-1 and its end lies
beyond its start (R86, R87). Bit 7 of the kind byte is ignored. -/
def entryOfBytes (isFixed : Bool) (bs : List Byte) : Option Entry :=
  let startM := leNat (bs.take 3)
  let stopM := leNat ((bs.drop 3).take 3)
  let track := (bs.getD 7 0).toNat
  match secKindOfCode ((bs.getD 6 0).toNat % 128) with
  | some k => if startM < stopM ∧ track ≤ 15 then some ⟨startM, stopM, k, track, isFixed⟩ else none
  | none => none

/-- A list cut into pieces of k, the last of which may be shorter; `fuel` bounds the number of pieces. -/
def pieces {α : Type} (k : Nat) : Nat → List α → List (List α)
  | 0, _ => []
  | _ + 1, [] => []
  | fuel + 1, xs => xs.take k :: pieces k fuel (xs.drop k)

/-! ### Requests (Table 10-2) and roles (Table 4-1) -/

inductive ReqKind where
  | statusRead | cabTake | cabRelease | cabPass | roofUp | roofDown | systemSelect | breakerClose | breakerOpen
  | position | sectionLoad | sectionClear | converterReport | iceMode | parameterSet | parameterRead
  | faultRead | faultClear | thresholdSet | lockoutClear | outputTake | outputDrive | outputReturn
  | senseCheckStart | senseCheckEnd | softReset | sectionRead
deriving DecidableEq, Repr

def reqCode : ReqKind → Nat
  | .statusRead => 0x01
  | .cabTake => 0x02
  | .cabRelease => 0x03
  | .cabPass => 0x04
  | .roofUp => 0x05
  | .roofDown => 0x06
  | .systemSelect => 0x07
  | .breakerClose => 0x08
  | .breakerOpen => 0x09
  | .position => 0x0A
  | .sectionLoad => 0x0B
  | .sectionClear => 0x0C
  | .converterReport => 0x0D
  | .iceMode => 0x0E
  | .parameterSet => 0x0F
  | .parameterRead => 0x10
  | .faultRead => 0x11
  | .faultClear => 0x12
  | .thresholdSet => 0x13
  | .lockoutClear => 0x14
  | .outputTake => 0x15
  | .outputDrive => 0x16
  | .outputReturn => 0x17
  | .senseCheckStart => 0x18
  | .senseCheckEnd => 0x19
  | .softReset => 0x1A
  | .sectionRead => 0x1B

def reqOfCode : Nat → Option ReqKind
  | 0x01 => some .statusRead
  | 0x02 => some .cabTake
  | 0x03 => some .cabRelease
  | 0x04 => some .cabPass
  | 0x05 => some .roofUp
  | 0x06 => some .roofDown
  | 0x07 => some .systemSelect
  | 0x08 => some .breakerClose
  | 0x09 => some .breakerOpen
  | 0x0A => some .position
  | 0x0B => some .sectionLoad
  | 0x0C => some .sectionClear
  | 0x0D => some .converterReport
  | 0x0E => some .iceMode
  | 0x0F => some .parameterSet
  | 0x10 => some .parameterRead
  | 0x11 => some .faultRead
  | 0x12 => some .faultClear
  | 0x13 => some .thresholdSet
  | 0x14 => some .lockoutClear
  | 0x15 => some .outputTake
  | 0x16 => some .outputDrive
  | 0x17 => some .outputReturn
  | 0x18 => some .senseCheckStart
  | 0x19 => some .senseCheckEnd
  | 0x1A => some .softReset
  | 0x1B => some .sectionRead
  | _ => none

/-- The payload lengths of Table 10-2; SECTION LOAD takes any multiple of 8 here (R192). -/
def reqLengthOk : ReqKind → Nat → Bool
  | .cabTake, n | .cabRelease, n | .cabPass, n | .roofDown, n | .breakerClose, n | .breakerOpen, n
  | .senseCheckEnd, n | .softReset, n => n == 0
  | .roofUp, n | .systemSelect, n | .sectionClear, n | .iceMode, n | .parameterRead, n | .faultRead, n
  | .faultClear, n | .lockoutClear, n | .outputTake, n | .outputReturn, n | .senseCheckStart, n
  | .sectionRead, n => n == 1
  | .statusRead, n | .converterReport, n => n == 2
  | .outputDrive, n => n == 3
  | .parameterSet, n | .thresholdSet, n => n == 4
  | .position, n => n == 7
  | .sectionLoad, n => n % 8 == 0

/-- An entry of Table 4-1. -/
inductive Access where
  | yes | active | no
deriving DecidableEq, Repr

/-- Table 4-1. -/
def roleTable (k : ReqKind) (st : Station) : Access :=
  match k with
  | .statusRead | .sectionRead | .parameterRead | .faultRead => .yes
  | .cabTake | .roofDown =>
    match st with
    | .vcuA | .vcuB => .yes
    | .tcc | .tool => .no
  | .cabRelease | .cabPass | .roofUp | .systemSelect | .breakerClose | .position | .iceMode =>
    match st with
    | .vcuA | .vcuB => .active
    | .tcc | .tool => .no
  | .breakerOpen =>
    match st with
    | .vcuA | .vcuB | .tcc => .yes
    | .tool => .no
  | .sectionLoad | .sectionClear | .parameterSet | .faultClear | .thresholdSet | .lockoutClear =>
    match st with
    | .vcuA | .vcuB => .active
    | .tcc => .no
    | .tool => .yes
  | .converterReport =>
    match st with
    | .tcc => .yes
    | .vcuA | .vcuB | .tool => .no
  | .outputTake | .outputDrive | .outputReturn | .senseCheckStart | .senseCheckEnd | .softReset =>
    match st with
    | .tool => .yes
    | .vcuA | .vcuB | .tcc => .no

/-- The kinds that the part takes in CHECK (R18). -/
def takenInCheck : ReqKind → Bool
  | .statusRead | .faultRead | .parameterRead | .senseCheckEnd | .softReset => true
  | _ => false

/-! ### Answers (Table 10-3) -/

inductive AnswerCode where
  | done | role | notActive | cabHeld | starting | notQuiet | settling | busy | range | locked | checkMode
  | safeHeld | noSystem | noChannel | tableFull | duplicate | persists | condition
deriving DecidableEq, Repr

def answerByte : AnswerCode → Byte
  | .done => 0x00#8
  | .role => 0x01#8
  | .notActive => 0x02#8
  | .cabHeld => 0x03#8
  | .starting => 0x04#8
  | .notQuiet => 0x05#8
  | .settling => 0x06#8
  | .busy => 0x07#8
  | .range => 0x08#8
  | .locked => 0x09#8
  | .checkMode => 0x0A#8
  | .safeHeld => 0x0B#8
  | .noSystem => 0x0C#8
  | .noChannel => 0x0D#8
  | .tableFull => 0x0E#8
  | .duplicate => 0x0F#8
  | .persists => 0x10#8
  | .condition => 0x11#8

/-- An answer's payload: its code and what follows the code. -/
structure Reply where
  code : AnswerCode
  rest : List Byte
deriving DecidableEq, Repr

/-- An answer that is its code alone. -/
def plain (c : AnswerCode) : Reply := ⟨c, []⟩

/-- CONDITION followed by its sub-reason byte (R193). -/
def conditionOf (sub : Nat) : Reply := ⟨.condition, [BitVec.ofNat 8 sub]⟩

/-- The sub-reasons that are not close preconditions (R193). -/
def subNotService : Nat := 0x10
def subDumpOn : Nat := 0x11
def subAuxOff : Nat := 0x12
def subNoPosition : Nat := 0x20

/-! ### The parameter list (Table 9-5) -/

structure ParamRow where
  number : Nat
  low : Int
  high : Int
  dflt : Int
deriving DecidableEq, Repr

def paramsGeneral : List ParamRow :=
  [⟨0x01, 200, 5000, 1000⟩, ⟨0x02, 1000, 10000, 3000⟩, ⟨0x03, 200, 5000, 1000⟩, ⟨0x04, 0, 1, 1⟩,
   ⟨0x05, 2, 30, 6⟩, ⟨0x06, 2, 60, 10⟩, ⟨0x07, 10, 5000, 200⟩, ⟨0x08, 100, 2000, 500⟩,
   ⟨0x09, 0, 1, 0⟩, ⟨0x0A, 0, 1, 1⟩, ⟨0x0B, 0, 1, 1⟩, ⟨0x0C, 1000, 10000, 3000⟩]

def paramsPanto : List ParamRow :=
  [⟨0x10, 0, 2, 1⟩, ⟨0x11, 0, 2, 1⟩, ⟨0x12, 0, 2, 2⟩, ⟨0x13, 0, 2, 2⟩,
   ⟨0x14, 0, 4000, 50⟩, ⟨0x15, 0, 4000, 350⟩, ⟨0x16, 0, 4000, 120⟩, ⟨0x17, 0, 4000, 280⟩,
   ⟨0x18, 2000, 20000, 8000⟩, ⟨0x19, 2000, 20000, 6000⟩, ⟨0x1A, 20, 300, 80⟩, ⟨0x1B, 1000, 3200, 2600⟩,
   ⟨0x1C, 10, 80, 30⟩, ⟨0x1D, 0, 60, 15⟩, ⟨0x1E, 40, 150, 70⟩, ⟨0x1F, 40, 150, 90⟩,
   ⟨0x20, 0, 40, 6⟩, ⟨0x21, 20, 100, 40⟩, ⟨0x22, 100, 300, 200⟩, ⟨0x23, 0, 255, 24⟩,
   ⟨0x24, 0, 255, 4⟩, ⟨0x25, 0, 1000, 450⟩, ⟨0x26, 0, 1, 0⟩, ⟨0x27, 0, 60, 20⟩,
   ⟨0x28, 200, 5000, 1000⟩, ⟨0x29, 300, 1000, 700⟩]

def paramsLine : List ParamRow :=
  [⟨0x30, 20, 2000, 250⟩, ⟨0x31, 2, 10, 3⟩, ⟨0x32, 1, 5, 2⟩, ⟨0x33, 2, 20, 5⟩, ⟨0x34, 0, 600, 12⟩,
   ⟨0x35, 0, 65534, 17500⟩, ⟨0x36, 0, 65534, 29000⟩, ⟨0x37, 100, 20000, 4800⟩, ⟨0x38, 100, 20000, 5200⟩,
   ⟨0x39, 0, 65534, 11000⟩, ⟨0x3A, 0, 65534, 18000⟩, ⟨0x3B, 100, 20000, 1570⟩, ⟨0x3C, 100, 20000, 1770⟩,
   ⟨0x3D, 0, 10000, 2000⟩, ⟨0x3E, 0, 10000, 4000⟩, ⟨0x3F, 0, 5000, 600⟩,
   ⟨0x40, 0, 10000, 1000⟩, ⟨0x41, 0, 10000, 1950⟩, ⟨0x42, 0, 5000, 400⟩,
   ⟨0x43, 0, 2000, 300⟩, ⟨0x44, 0, 5000, 1000⟩]

def paramsChange : List ParamRow :=
  [⟨0x50, 50, 2000, 300⟩, ⟨0x51, 20, 500, 100⟩, ⟨0x52, 20, 500, 60⟩, ⟨0x53, 5, 120, 30⟩,
   ⟨0x54, 500, 20000, 5000⟩, ⟨0x55, 500, 10000, 3000⟩]

def paramsIce : List ParamRow :=
  [⟨0x60, -100, 50, 10⟩, ⟨0x61, -400, 0, -200⟩, ⟨0x62, -300, 0, -100⟩, ⟨0x63, 0, 100, 20⟩,
   ⟨0x64, 0, 50, 5⟩, ⟨0x65, 0, 50, 10⟩, ⟨0x66, 1, 50, 8⟩, ⟨0x67, 0, 1000, 200⟩, ⟨0x68, 0, 1000, 150⟩,
   ⟨0x69, 0, 1000, 500⟩, ⟨0x6A, 0, 1000, 400⟩, ⟨0x6B, 1, 16, 4⟩, ⟨0x6C, 500, 10000, 2000⟩,
   ⟨0x6D, 0, 1000, 400⟩, ⟨0x6E, 0, 1, 0⟩, ⟨0x6F, 4, 8, 4⟩, ⟨0x70, 0, 1, 1⟩, ⟨0x71, 0, 1, 0⟩,
   ⟨0x72, 300, 1200, 800⟩, ⟨0x73, 0, 350, 220⟩, ⟨0x74, 0, 1, 1⟩]

def paramTable : List ParamRow := paramsGeneral ++ paramsPanto ++ paramsLine ++ paramsChange ++ paramsIce

def paramRow (n : Nat) : Option ParamRow := paramTable.find? fun r => r.number == n

/-- A value in the range of its parameter. group_size takes 4 or 8 and nothing between. -/
def paramInRange (n : Nat) (v : Int) : Bool :=
  match paramRow n with
  | some r => decide (r.low ≤ v) && decide (v ≤ r.high) && (n != 0x6F || v == 4 || v == 8)
  | none => false

/-- The default of a parameter; 0 for a number that names none, which no block reads. -/
def paramDefault (n : Nat) : Int :=
  match paramRow n with
  | some r => r.dflt
  | none => 0

def groupOf (n : Nat) : Group :=
  if n ≤ 0x0C then .general else if n ≤ 0x29 then .panto else if n ≤ 0x44 then .line
  else if n ≤ 0x55 then .change else .ice

/-- The parameters that the winter overlay may carry (chapter 9.4). -/
def winterCarries (n : Nat) : Bool := (0x1E ≤ n && n ≤ 0x29) || (0x60 ≤ n && n ≤ 0x74)

end Sys2Proof.Machine
end

