-- ==== Sys2Proof/Machine/Ops.lean ====
section
/-!
DEFINITION. The named operations over the part's state: reading effective parameter values, and reading and writing
channels, outputs, breakers and fault banks. The families' meanings are built from these.
-/

namespace Sys2Proof.Machine

/-! ### Parameter numbers (Table 9-5) -/

abbrev Par.demandLifetimeMs : Nat := 0x01
abbrev Par.cabLapseMs : Nat := 0x02
abbrev Par.converterLapseMs : Nat := 0x03
abbrev Par.autoChangeover : Nat := 0x04
abbrev Par.lookaheadS : Nat := 0x05
abbrev Par.positionLapseS : Nat := 0x06
abbrev Par.jumpToleranceM : Nat := 0x07
abbrev Par.odometerMm : Nat := 0x08
abbrev Par.defaultSection : Nat := 0x09
abbrev Par.mapEnable : Nat := 0x0A
abbrev Par.fixedEnable : Nat := 0x0B
abbrev Par.serviceLapseMs : Nat := 0x0C
abbrev Par.chanClass : Nat := 0x10
abbrev Par.mountOffset : Nat := 0x14
abbrev Par.raiseTimeoutMs : Nat := 0x18
abbrev Par.lowerTimeoutMs : Nat := 0x19
abbrev Par.restHeight : Nat := 0x1A
abbrev Par.maxHeight : Nat := 0x1B
abbrev Par.contactForce : Nat := 0x1C
abbrev Par.lossForce : Nat := 0x1D
abbrev Par.fBaseAc : Nat := 0x1E
abbrev Par.fBaseDc : Nat := 0x1F
abbrev Par.kv : Nat := 0x20
abbrev Par.fMin : Nat := 0x21
abbrev Par.fMax : Nat := 0x22
abbrev Par.kp : Nat := 0x23
abbrev Par.ki : Nat := 0x24
abbrev Par.dHold : Nat := 0x25
abbrev Par.dutyImmediate : Nat := 0x26
abbrev Par.scraperAdd : Nat := 0x27
abbrev Par.contactLossMs : Nat := 0x28
abbrev Par.raiseDuty : Nat := 0x29
abbrev Par.hysteresis : Nat := 0x30
abbrev Par.qualifyWindows : Nat := 0x31
abbrev Par.noneWindows : Nat := 0x32
abbrev Par.invalidWindows : Nat := 0x33
abbrev Par.saturationLimit : Nat := 0x34
abbrev Par.ac25RmsLo : Nat := 0x35
abbrev Par.ac25RmsHi : Nat := 0x36
abbrev Par.ac25FLo : Nat := 0x37
abbrev Par.ac25FHi : Nat := 0x38
abbrev Par.ac15RmsLo : Nat := 0x39
abbrev Par.ac15RmsHi : Nat := 0x3A
abbrev Par.ac15FLo : Nat := 0x3B
abbrev Par.ac15FHi : Nat := 0x3C
abbrev Par.dc3Lo : Nat := 0x3D
abbrev Par.dc3Hi : Nat := 0x3E
abbrev Par.dc3Ripple : Nat := 0x3F
abbrev Par.dc15Lo : Nat := 0x40
abbrev Par.dc15Hi : Nat := 0x41
abbrev Par.dc15Ripple : Nat := 0x42
abbrev Par.noneLimit : Nat := 0x43
abbrev Par.acOffsetMax : Nat := 0x44
abbrev Par.shedTimeout : Nat := 0x50
abbrev Par.closeTime : Nat := 0x51
abbrev Par.openTime : Nat := 0x52
abbrev Par.deadRunS : Nat := 0x53
abbrev Par.converterTimeout : Nat := 0x54
abbrev Par.identifyTimeout : Nat := 0x55
abbrev Par.tIce : Nat := 0x60
abbrev Par.tLowLimit : Nat := 0x61
abbrev Par.tCold2x : Nat := 0x62
abbrev Par.wArc : Nat := 0x63
abbrev Par.wCold : Nat := 0x64
abbrev Par.wWatch : Nat := 0x65
abbrev Par.decay : Nat := 0x66
abbrev Par.alertOn : Nat := 0x67
abbrev Par.alertOff : Nat := 0x68
abbrev Par.icingOn : Nat := 0x69
abbrev Par.icingOff : Nat := 0x6A
abbrev Par.heaterBudget : Nat := 0x6B
abbrev Par.slotMs : Nat := 0x6C
abbrev Par.baseDuty : Nat := 0x6D
abbrev Par.order : Nat := 0x6E
abbrev Par.groupSize : Nat := 0x6F
abbrev Par.rateTrack : Nat := 0x70
abbrev Par.rateFixed2x : Nat := 0x71
abbrev Par.stripMax : Nat := 0x72
abbrev Par.scraperSpeedMax : Nat := 0x73
abbrev Par.scraperEnable : Nat := 0x74

/-! ### Layers and effective values (R180) -/

/-- The value a layer holds for a parameter, if any. -/
def layerGet (l : Layer) (n : Nat) : Option Int :=
  match l with
  | [] => none
  | (m, v) :: rest => if m = n then some v else layerGet rest n

/-- Writes a parameter's value into a layer, replacing an earlier one; the numbers stay rising. -/
def layerSet (l : Layer) (n : Nat) (v : Int) : Layer :=
  match l with
  | [] => [(n, v)]
  | (m, w) :: rest =>
    if n < m then (n, v) :: (m, w) :: rest
    else if n = m then (n, v) :: rest
    else (m, w) :: layerSet rest n v

/-- The first of the values present, or the default. -/
def firstPresent (ls : List (Option Int)) (n : Nat) : Int :=
  match ls with
  | [] => paramDefault n
  | some v :: _ => v
  | none :: rest => firstPresent rest n

/-- The winter layer decides while winter_state is ACTIVE or ENDING (R180). -/
def winterInForce (p : Pst) : Bool := p.winterState == .active || p.winterState == .ending

/-- The value of the winter layer, if it is in force and carries the parameter. -/
def winterValue (p : Pst) (n : Nat) : Option Int := if winterInForce p then layerGet p.winter n else none

/-- The effective value of a parameter (R180). Until the end of STARTING the defaults are in force (R188). -/
def pstEff (p : Pst) (n : Nat) : Int :=
  if p.live then firstPresent [winterValue p n, layerGet p.link n, layerGet p.profile n] n else paramDefault n

def eff (s : State) (n : Nat) : Int := pstEff s.pst n

/-- The effective value as a natural number, for a parameter whose range has none below 0. -/
def effNat (s : State) (n : Nat) : Nat := (eff s n).toNat

/-- The layer of the effective value: DEFAULT 0, PROFILE 1, LINK 2, WINTER 3 (R180, R192). -/
def layerOf (p : Pst) (n : Nat) : Nat :=
  if !p.live then 0
  else if (winterValue p n).isSome then 3
  else if (layerGet p.link n).isSome then 2
  else if (layerGet p.profile n).isSome then 1
  else 0

/-! ### Time -/

/-- Roof time: steps of 10 ms in 32 bits (R171). -/
def roofTime (s : State) : BitVec 32 := BitVec.ofNat 32 (s.now / 10)

/-! ### Channels -/

def chan (s : State) (c : Chan) : Channel := s.pcu.chans.get c

def putChan (s : State) (c : Chan) (r : Channel) : State :=
  s.withPcu { s.pcu with chans := s.pcu.chans.set c r }

/-- The class a channel is fitted for; `none` is ABSENT (R23). -/
def chanClass (s : State) (c : Chan) : Option Cls :=
  match eff s (Par.chanClass + chanIndex c) with
  | 1 => some .ac
  | 2 => some .dc
  | _ => none

def fitted (s : State) (c : Chan) : Bool := (chanClass s c).isSome

def mountOffset (s : State) (c : Chan) : Int := eff s (Par.mountOffset + chanIndex c)

def clampInt (lo hi x : Int) : Int := max lo (min hi x)

/-- The force target of a channel in a role (R48). -/
def forceTargetOf (s : State) (c : Chan) (role : Role) : Int :=
  match chanClass s c with
  | none => eff s Par.fMin
  | some k =>
    let base := match k with
      | .ac => eff s Par.fBaseAc
      | .dc => eff s Par.fBaseDc
    let v : Int := s.smp.pos.speed
    let add := if role = .scraper then eff s Par.scraperAdd else 0
    clampInt (eff s Par.fMin) (eff s Par.fMax) (base + eff s Par.kv * (v * v) / 10000 + add)

/-- Recomputes the force target of one channel (R48, R49). -/
def retarget (s : State) (c : Chan) : State :=
  putChan s c { chan s c with forceTarget := forceTargetOf s c (chan s c).role }

def retargetAll (s : State) : State := allChans.foldl retarget s

/-- A channel in a new state: state_time starts at 0 and low_force_time stops counting. The model's reading (log entry
21): low_force_time and arc_armed keep their values, which the next entry to IN_CONTACT sets. -/
def inState (r : Channel) (st : ChanState) : Channel :=
  { r with state := st, stateTime := 0, lowForce := false }

/-! ### Outputs (R53 to R56) -/

def valve (s : State) (c : Chan) : Out := s.ros.valves.get c

def putValve (s : State) (c : Chan) (o : Out) : State :=
  s.withRos { s.ros with valves := s.ros.valves.set c o }

def zoneOut (s : State) (z : Fin 16) : Out := (s.ros.zones.get (zoneHead z)).get (zonePlace z)

def putZone (s : State) (z : Fin 16) (o : Out) : State :=
  let head := (s.ros.zones.get (zoneHead z)).set (zonePlace z) o
  s.withRos { s.ros with zones := s.ros.zones.set (zoneHead z) head }

/-- The loop owns the output and no handover runs: its writes are taken (R55). -/
def loopOwns (o : Out) : Bool := o.owner == .loop && o.handover == .none

/-- Applied and buffered duty 0 at once (R56). -/
def cut (o : Out) : Out := { o with applied := 0, buffered := 0 }

/-- The PCU writes a valve duty (R55): into the buffered duty, and into the applied duty too while duty_immediate
is 1; discarded where the loop does not own the valve. -/
def writeValve (s : State) (c : Chan) (duty : Nat) : State :=
  let o := valve s c
  if loopOwns o then
    putValve s c { o with buffered := duty, applied := if eff s Par.dutyImmediate = 1 then duty else o.applied }
  else s

/-- How many heater zones have a buffered duty above 0 (R63). -/
def zonesBuffered (s : State) : Nat := (allZones.filter fun z => 0 < (zoneOut s z).buffered).length

/-- The heater budget is full: the count, which never exceeds it, has reached heater_budget (R63). -/
def budgetFull (s : State) : Bool := decide (effNat s Par.heaterBudget ≤ zonesBuffered s)

/-- ICE writes a heater duty: discarded where the loop does not own the zone (R55), and, above 0, while AUXOK is
inactive (R64) or where the zone was at 0 and the budget is full (R63). -/
def writeZone (s : State) (z : Fin 16) (duty : Nat) : State :=
  let o := zoneOut s z
  if !loopOwns o || (0 < duty && (!s.ros.auxok || (o.buffered == 0 && budgetFull s))) then s
  else putZone s z { o with buffered := duty }

/-- A handover starts: duty 0 at once, and a safe period to the end of the first whole period that begins after
it, which is the second boundary to come (R58, R60). -/
def startHandover (o : Out) (h : Handover) : Out :=
  { cut o with handover := h, cancelled := false, safeLeft := 2 }

/-- OUTPUT RETURN of one output (Table 3-6). -/
def returnOut (o : Out) : Out :=
  match o.owner, o.handover with
  | .loop, .toService => { o with cancelled := true }
  | .service, .none => startHandover o .toLoop
  | _, _ => o

/-- A period boundary at one output: the applied duty becomes the buffered duty (R55), and a safe period runs on
(R58). -/
def atBoundary (o : Out) : Out :=
  { o with applied := o.buffered, safeLeft := if o.handover = .none then o.safeLeft else o.safeLeft - 1 }

def quadMap {α : Type} (f : α → α) (q : Quad α) : Quad α := ⟨f q.p1, f q.p2, f q.p3, f q.p4⟩

def mapValves (s : State) (f : Out → Out) : State := s.withRos { s.ros with valves := quadMap f s.ros.valves }

def mapZones (s : State) (f : Out → Out) : State :=
  s.withRos { s.ros with zones := quadMap (quadMap f) s.ros.zones }

/-- R62: the dump of a channel in SERVICE turns on, and its valve is cut. -/
def dumpInService (s : State) (c : Chan) : State :=
  let s1 := putChan s c { chan s c with dumpOn := true }
  putValve s1 c (cut (valve s1 c))

/-! ### Breakers -/

def brk (s : State) : Brk → Breaker
  | .bka => s.chg.bka
  | .bkd => s.chg.bkd

def putBrk (s : State) (b : Brk) (r : Breaker) : State :=
  match b with
  | .bka => s.withChg { s.chg with bka := r }
  | .bkd => s.withChg { s.chg with bkd := r }

/-- The breaker is CLOSED or CLOSING. -/
def brkMade (r : Breaker) : Bool := r.state == .closed || r.state == .closing

def setShed (s : State) : State := s.withChg { s.chg with shed := true }

/-- An open, or the cancelling of a close (R106, R107). Whenever a breaker leaves CLOSED, shed_request becomes
TRUE (R82, R107). -/
def openBrk (s : State) (b : Brk) : State :=
  let r := brk s b
  if brkMade r then
    setShed (putBrk s b { r with state := .opening, closeCoil := false, holdCoil := false, opTime := 0 })
  else s

/-- The close of R105: both coils ON and the state CLOSING. -/
def closeBrk (s : State) (b : Brk) : State :=
  putBrk s b { brk s b with state := .closing, closeCoil := true, holdCoil := true, opTime := 0 }

/-- The breaker that is CLOSED, if one is. -/
def closedBrk (s : State) : Option Brk :=
  if s.chg.bka.state = .closed then some .bka else if s.chg.bkd.state = .closed then some .bkd else none

/-- The breaker that is CLOSED or CLOSING, if one is. -/
def madeBrk (s : State) : Option Brk :=
  if brkMade s.chg.bka then some .bka else if brkMade s.chg.bkd then some .bkd else none

/-! ### Fault banks -/

def bank (f : Flt) : BankId → Bank
  | .link => f.link
  | .panto => f.panto
  | .line => f.line
  | .change => f.change
  | .ice => f.ice
  | .sectionMap => f.sectionMap
  | .profile => f.profile

def putBank (f : Flt) (b : BankId) (r : Bank) : Flt :=
  match b with
  | .link => { f with link := r }
  | .panto => { f with panto := r }
  | .line => { f with line := r }
  | .change => { f with change := r }
  | .ice => { f with ice := r }
  | .sectionMap => { f with sectionMap := r }
  | .profile => { f with profile := r }

def allBanks : List BankId := [.link, .panto, .line, .change, .ice, .sectionMap, .profile]

/-- The record holds roof_corrupt TRUE. -/
def bankCorrupt (b : Bank) : Bool :=
  match b.record with
  | some r => r.corrupt
  | none => false

end Sys2Proof.Machine
end

