-- ==== Sys2Proof/Machine/Flags.lean ====
section
/-!
DEFINITION. The conditions and output lines that the part computes from what it holds: roof quiet, roof down, at
rest, READY(S), the raise conditions, the close preconditions, the SHED, FAULT and LDE lines, and the output levels.
-/

namespace Sys2Proof.Machine

/-! ### Channels -/

/-- At rest: the height is usable and below rest_height (chapter 2.1). -/
def atRest (s : State) (c : Chan) : Bool :=
  (chan s c).heightValid && decide (((chan s c).heightMm : Int) < eff s Par.restHeight)

/-- Away from rest: any state but LOWERED and LOCKED_OUT (chapter 2.1). -/
def awayFromRest (s : State) (c : Chan) : Bool :=
  (chan s c).state != .lowered && (chan s c).state != .lockedOut

/-- In SERVICE, or counted so because its valve is being taken (R58). -/
def inService (s : State) (c : Chan) : Bool :=
  (chan s c).state == .service || (valve s c).handover == .toService

def anyService (s : State) : Bool := allChans.any (inService s)

def isCollector (s : State) (c : Chan) : Bool := (chan s c).role == .collector
def isScraper (s : State) (c : Chan) : Bool := (chan s c).role == .scraper

/-- The channel with role COLLECTOR, if there is one. -/
def collector (s : State) : Option Chan := allChans.find? (isCollector s)

def hasScraper (s : State) : Bool := allChans.any (isScraper s)

/-- The COLLECTOR, if it is IN_CONTACT (R44). -/
def collectorInContact (s : State) : Option Chan :=
  allChans.find? fun c => isCollector s c && (chan s c).state == .inContact

/-- The roof is down: every fitted channel is LOWERED, LOCKED_OUT or in SERVICE (R44). -/
def roofDown (s : State) : Bool :=
  allChans.all fun c => !fitted s c || !awayFromRest s c || (chan s c).state == .service

/-- END2 leads while active_vcu is B (R69). -/
def leadingEnd2 (s : State) : Bool := s.cau.active == some .b

/-- a is nearer the leading end than b (R39). -/
def nearer (s : State) (a b : Chan) : Bool :=
  if leadingEnd2 s then decide (mountOffset s b < mountOffset s a)
  else decide (mountOffset s a < mountOffset s b)

/-- Available for selection (R39, R58). -/
def available (s : State) (c : Chan) : Bool :=
  fitted s c && (chan s c).state == .lowered && !inService s c

/-- The first channel that no other of the list betters. -/
def bestOf (better : Chan → Chan → Bool) : List Chan → Option Chan
  | [] => none
  | c :: rest =>
    match bestOf better rest with
    | some d => if better d c then some d else some c
    | none => some c

/-- The collector choice of a class (R39). -/
def collectorChoice (s : State) (k : Cls) : Option Chan :=
  let ok := fun c => available s c && chanClass s c == some k
  match s.pcu.preferred with
  | some p => if ok p then some p else bestOf (fun a b => nearer s b a) (allChans.filter ok)
  | none => bestOf (fun a b => nearer s b a) (allChans.filter ok)

/-- The scraper choice: of the collector's class and nearer the leading end than the collector (R39). -/
def scraperChoice (s : State) : Option Chan :=
  match collector s with
  | none => none
  | some p =>
    bestOf (nearer s) (allChans.filter fun c =>
      c != p && available s c && chanClass s c == chanClass s p && nearer s c p)

/-! ### Roof quiet (R24) -/

def bothOpen (s : State) : Bool := s.chg.bka.state == .opened && s.chg.bkd.state == .opened

def noValveTaken (s : State) : Bool := allChans.all fun c => (valve s c).handover != .toService

def roofQuiet (s : State) : Bool :=
  (allChans.all fun c => !fitted s c || !awayFromRest s c)
    && (allChans.all fun c => (chan s c).state != .service) && noValveTaken s
    && bothOpen s && s.chg.seq.isNone && s.roofState == .ready

/-- Roof quiet as a service output request counts it: a channel in SERVICE, or whose valve has a handover in
progress, is at rest. -/
def roofQuietService (s : State) : Bool :=
  (allChans.all fun c => !fitted s c || !awayFromRest s c || (chan s c).state == .service
      || (valve s c).handover != .none)
    && bothOpen s && s.chg.seq.isNone && s.roofState == .ready

/-! ### Raising -/

/-- The sequence that runs is in its RAISING stage, or none runs (raise condition 7). -/
def raiseWindow (s : State) : Bool :=
  match s.chg.seq with
  | none => true
  | some q => q.stage == .raising

/-- The channel whose raise as collector the raise conditions of Table 2-10 allow now, if all ten hold. -/
def raiseCandidate (s : State) : Option Chan :=
  match s.chg.target with
  | none => none
  | some t =>
    if s.cau.demand.isSome && s.roofState == .ready && !anyService s && !s.pst.settle
        && (allChans.all fun c => !fitted s c || chanClass s c == some (classOf t) || !awayFromRest s c)
        && raiseWindow s && (collector s).isNone && !s.pcu.collectorHold
    then collectorChoice s (classOf t) else none

/-- The channel whose raise as scraper R40 allows now, if its conditions hold. -/
def scraperCandidate (s : State) : Option Chan :=
  if s.ice.scraperRequest && s.roofState == .ready && (collectorInContact s).isSome && !hasScraper s
      && !s.pcu.scraperHold
  then scraperChoice s else none

/-! ### Converter and breakers -/

/-- READY(S): the converter record is fresh, READY and of system S (R80). -/
def converterReady (s : State) (t : Sys) : Bool :=
  s.cau.conv.fresh && s.cau.conv.state == .ready && s.cau.conv.sys == some t

/-- The converter record is fresh with a state other than RUNNING (R118). -/
def loadOff (s : State) : Bool := s.cau.conv.fresh && s.cau.conv.state != .running

/-- The number of the first close precondition of Table 6-5 that fails, among the first six, which are those that a
CLOSING stage tests (R126) and those that a BREAKER CLOSE past its rows 1 to 5 can fail (R113). -/
def closeFailing (s : State) : Option Nat :=
  match s.chg.target with
  | none => some 1
  | some t =>
    if !(match collectorInContact s with
        | some c => chanClass s c == some (classOf t)
        | none => false) then some 2
    else if s.lsi.measured != .sys t then some 3
    else if !converterReady s t then some 4
    else if !bothOpen s then some 5
    else if s.roofState != .ready then some 6
    else none

/-! ### Lines and levels -/

/-- The SHED output follows shed_request (R82). -/
def shedLine (s : State) : Bool := s.chg.shed

/-- The bank asserts the FAULT output (R168). -/
def bankAsserts (uncorrected : FaultKind → Bool) (b : Bank) : Bool :=
  b.counterOverflow || (match b.record with
    | some r => uncorrected r.kind || r.corrupt
    | none => false)

/-- LDE is asserted only while an answer is sent (chapter 10). -/
def ldeLine (s : State) : Bool := s.lnk.sending.isSome

/-- The level of a modulated output, `phase` microseconds after the boundary of a period of `period` microseconds:
on for applied duty times period / 1000 (R54). -/
def pwmLevel (o : Out) (period phase : Nat) : Bool := decide (phase * 1000 < o.applied * period)

/-- An output is energized while its applied duty is above 0 (R54). -/
def energized (o : Out) : Bool := decide (0 < o.applied)

end Sys2Proof.Machine
end

