-- ==== Sys2Proof/Machine/Faults.lean ====
section
/-!
DEFINITION. The fault kinds (Table 8-3) and the taking of an offer into its bank: counting, logging by priority and
the marking of roof_corrupt (R153 to R158). The protection actions are in Machine/Protection.lean.
-/

namespace Sys2Proof.Machine

/-- The action column of Table 8-3. -/
inductive Action where
  | log | lower | opens | halt | opensElseHalt | roofSafe
deriving DecidableEq, Repr

/-- The bank of a kind (Table 8-3). -/
def kindBank : FaultKind → BankId
  | .frameCrc | .frameFormat | .unknownSource | .cabLapse | .serviceLapse => .link
  | .arc | .forceRange | .raiseTimeout | .noWire | .heightSensor | .autoDrop | .lowerTimeout => .panto
  | .saturation | .lossOfLine | .invalidSystem | .lineMismatch | .checkFail => .line
  | .shedTimeout | .breakerTripped | .converterLost | .breakerCloseFail | .changeMismatch | .deadRun
  | .converterTimeout | .breakerOpenFail | .breakerUncommanded => .change
  | .stripOvertemp | .auxLost | .ambientSensor => .ice
  | .positionJump | .positionLapse | .sectionConflict => .sectionMap
  | .segmentSkipped | .paramRange | .segmentInvalid | .winterUnread | .eepromNoAnswer | .headerMissing => .profile

/-- The severity of a kind: TRUE for uncorrected (Table 8-3). -/
def kindUncorrected : FaultKind → Bool
  | .raiseTimeout | .noWire | .heightSensor | .autoDrop | .lowerTimeout | .invalidSystem | .lineMismatch
  | .checkFail | .breakerCloseFail | .changeMismatch | .deadRun | .converterTimeout | .breakerOpenFail
  | .breakerUncommanded | .eepromNoAnswer | .headerMissing => true
  | .frameCrc | .frameFormat | .unknownSource | .cabLapse | .serviceLapse | .arc | .forceRange | .saturation
  | .lossOfLine | .shedTimeout | .breakerTripped | .converterLost | .stripOvertemp | .auxLost
  | .ambientSensor | .positionJump | .positionLapse | .sectionConflict | .segmentSkipped | .paramRange
  | .segmentInvalid | .winterUnread => false

/-- The kinds marked roof_corrupt (Table 8-3). -/
def kindCorrupt : FaultKind → Bool
  | .lowerTimeout | .breakerOpenFail | .breakerUncommanded => true
  | _ => false

/-- The action of a kind (Table 8-3). AUTO_DROP adds its OPEN where it is marked collector. -/
def kindAction : FaultKind → Action
  | .raiseTimeout | .noWire | .heightSensor | .autoDrop => .lower
  | .lowerTimeout | .breakerOpenFail | .breakerUncommanded => .roofSafe
  | .lossOfLine | .invalidSystem | .converterLost | .breakerCloseFail => .opens
  | .lineMismatch | .changeMismatch => .opensElseHalt
  | .deadRun | .converterTimeout => .halt
  | .frameCrc | .frameFormat | .unknownSource | .cabLapse | .serviceLapse | .arc | .forceRange | .saturation
  | .checkFail | .shedTimeout | .breakerTripped | .stripOvertemp | .auxLost | .ambientSensor | .positionJump
  | .positionLapse | .sectionConflict | .segmentSkipped | .paramRange | .segmentInvalid | .winterUnread
  | .eepromNoAnswer | .headerMissing => .log

/-- The kinds of class E (R157). -/
def kindClassE : FaultKind → Bool
  | .shedTimeout | .converterTimeout => true
  | _ => false

/-- The kind's actions are taken: class D, or class E with its mask bit set (R157). -/
def kindEnabled (b : Bank) : FaultKind → Bool
  | .shedTimeout => b.maskShed
  | .converterTimeout => b.maskConv
  | _ => true

/-- An offer (R153). `collector` is the mark of AUTO_DROP. -/
structure Offer where
  kind : FaultKind
  ctx : Option Ctx
  collector : Bool
deriving DecidableEq, Repr

/-- The offer is counted while count_enable is TRUE and its kind is correctable; the counter saturates (R158). -/
def countOffer (b : Bank) (k : FaultKind) : Bank :=
  if b.countEnable && !kindUncorrected k && decide (b.counter < 4095) then
    { b with counter := b.counter + 1, counterOverflow := b.counterOverflow || b.counter == 4094 }
  else b

/-- Writing an offer to an empty record, or over a correctable fault (R155). -/
def writeRecord (b : Bank) (k : FaultKind) (ctx : Option Ctx) (lost : Bool) (time : BitVec 32)
    (pos : Option Nat) : FaultRecord :=
  { kind := k, enabled := kindEnabled b k, ctx := ctx, overflow := lost, corrupt := kindCorrupt k,
    stampTime := time, stampPos := pos }

/-- The record of a bank after an offer reaches it (Table 8-2). -/
def logRecord (b : Bank) (k : FaultKind) (ctx : Option Ctx) (time : BitVec 32) (pos : Option Nat) :
    FaultRecord :=
  match b.record with
  | none => writeRecord b k ctx false time pos
  | some r =>
    if !kindUncorrected k then { r with overflow := true }
    else if !kindUncorrected r.kind then writeRecord b k ctx true time pos
    else if r.kind = k ∧ r.ctx = ctx then { r with overflow := true }
    else { r with overflow := true, corrupt := true }

/-- A class E kind whose mask bit is clear and whose action is LOG alone does not reach the record (R157). -/
def reachesRecord (b : Bank) (k : FaultKind) : Bool := !(kindAction k == .log && !kindEnabled b k)

/-- The bank after an offer: counted, then logged (R155, R158). -/
def bankOffer (b : Bank) (k : FaultKind) (ctx : Option Ctx) (time : BitVec 32) (pos : Option Nat) : Bank :=
  let c := countOffer b k
  if reachesRecord b k then { c with record := some (logRecord c k ctx time pos) } else c

/-- The position of a fault's stamp: position_m while the position record is valid (R154). -/
def stampPos (s : State) : Option Nat := if s.smp.pos.valid then some s.smp.pos.positionM else none

/-- Takes an offer into its bank. This is all that an offer of action LOG does, save that an uncorrected one can
set roof_corrupt (R156). -/
def logOffer (s : State) (k : FaultKind) (ctx : Option Ctx) : State :=
  let b := bank s.flt (kindBank k)
  s.withFlt (putBank s.flt (kindBank k) (bankOffer b k ctx (roofTime s) (stampPos s)))

/-- Some bank's record holds roof_corrupt TRUE. -/
def anyCorrupt (f : Flt) : Bool := allBanks.any fun b => bankCorrupt (bank f b)

/-- The FAULT output (R168). -/
def faultLine (s : State) : Bool := allBanks.any fun b => bankAsserts kindUncorrected (bank s.flt b)

end Sys2Proof.Machine
end

