-- ==== Sys2Proof/Machine/SectionMap.lean ====
section
/-!
DEFINITION. Chapter 5: the section table, its lookup, the Section Outlook and the movement of the position.
-/

namespace Sys2Proof.Machine

/-! ### The table (R85) -/

/-- Equal in start, end, kind and track; origin takes no part (R85). -/
def sameEntry (a b : Entry) : Bool :=
  a.startM == b.startM && a.stopM == b.stopM && a.kind == b.kind && a.track == b.track

/-- A new entry goes after every entry whose start is less than or equal to its own (R85). -/
def placeEntry (t : List Entry) (e : Entry) : List Entry :=
  match t with
  | [] => [e]
  | f :: rest => if f.startM ≤ e.startM then f :: placeEntry rest e else e :: f :: rest

def fixedCount (t : List Entry) : Nat := (t.filter fun e => e.isFixed).length
def routeCount (t : List Entry) : Nat := (t.filter fun e => !e.isFixed).length

/-! ### Lookup (R91 to R93) -/

/-- FIXED entries are considered only while fixed_enable is 1 (R91). -/
def considered (s : State) : List Entry :=
  if eff s Par.fixedEnable = 1 then s.smp.table else s.smp.table.filter fun e => !e.isFixed

/-- The covering entries at a position on a track (R91); track 15 is ANY. -/
def covering (s : State) (p track : Nat) : List Entry :=
  (considered s).filter fun e =>
    decide (e.startM ≤ p) && decide (p < e.stopM) && (e.track == track || e.track == 15)

/-- The deciding set: the fixed entries where there are any, else the route entries; no ICE_WATCH entry (R91). -/
def decidingSet (cov : List Entry) : List Entry :=
  let deciding := cov.filter fun e => e.kind != .iceWatch
  let fixed := deciding.filter fun e => e.isFixed
  if fixed.isEmpty then deciding else fixed

/-- The systems of the energized entries. -/
def energizedSystems (es : List Entry) : List Sys :=
  es.filterMap fun e => match e.kind with
    | .sys t => some t
    | .neutral | .separation | .lowerZone | .iceWatch => none

/-- The default section (R93): HOLD gives system_in_force, or UNKNOWN when that is NONE. -/
def defaultKind (s : State) : CombKind :=
  if eff s Par.defaultSection = 0 then
    match s.chg.inForce with
    | some t => .sys t
    | none => .unknown
  else .unknown

/-- The result of a lookup (chapter 5.2). -/
structure Lookup where
  kind : CombKind
  ice : Bool
  conflict : Bool
deriving DecidableEq, Repr

/-- The combined kind and the conflict mark of a deciding set (Table 5-3). -/
def combine (dflt : CombKind) (es : List Entry) : CombKind × Bool :=
  if es.any fun e => e.kind == .lowerZone then (.lowerZone, false)
  else if es.any fun e => e.kind == .separation then (.separation, false)
  else if es.any fun e => e.kind == .neutral then (.neutral, false)
  else match energizedSystems es with
    | [] => (dflt, false)
    | t :: rest => if rest.all fun u => u == t then (.sys t, false) else (.separation, true)

def lookup (s : State) (p track : Nat) : Lookup :=
  let cov := covering s p track
  let k := combine (defaultKind s) (decidingSet cov)
  ⟨k.1, cov.any fun e => e.kind == .iceWatch, k.2⟩

/-- The system of a combined kind: its own when it is energized, else NONE (R92). -/
def kindSystem : CombKind → Option Sys
  | .sys t => some t
  | .unknown | .neutral | .separation | .lowerZone => none

/-! ### The outlook (R98 to R101) -/

/-- d = max(100, floor(speed × lookahead_s × 1,000 / 3,600)) (R99). -/
def lookahead (s : State) : Nat := max 100 (s.smp.pos.speed * effNat s Par.lookaheadS * 1000 / 3600)

/-- The distance and the combined kind at a candidate point, if it lies ahead within `range` (Table 5-8). -/
def pointAhead (s : State) (range b : Nat) : Option (Nat × CombKind) :=
  let p := s.smp.pos.positionM
  let track := s.smp.pos.track
  if s.smp.pos.minus then
    if 0 < b ∧ b < p ∧ p ≤ b + range then some (p - b, (lookup s (b - 1) track).kind) else none
  else
    if p < b ∧ b ≤ p + range then some (b - p, (lookup s b track).kind) else none

/-- The candidate points within `range`, in no order. -/
def pointsAhead (s : State) (range : Nat) : List (Nat × CombKind) :=
  ((considered s).map (·.startM) ++ (considered s).map (·.stopM)).filterMap (pointAhead s range)

/-- The nearest of the points that satisfy a condition. -/
def nearestPoint (ok : Nat × CombKind → Bool) : List (Nat × CombKind) → Option (Nat × CombKind)
  | [] => none
  | x :: xs =>
    match nearestPoint ok xs with
    | some y => if ok x && decide (x.1 ≤ y.1) then some x else some y
    | none => if ok x then some x else none

/-- following_system (R100), after a next change at `dist` with kind `kind`. -/
def followingSystem (s : State) (d dist : Nat) (kind : CombKind) : Option Sys :=
  match kindSystem kind with
  | some t => some t
  | none =>
    match nearestPoint (fun x => decide (dist < x.1) && (kindSystem x.2).isSome) (pointsAhead s (2 * d)) with
    | some y => kindSystem y.2
    | none => none

/-- The outlook computed afresh (R98 to R100). -/
def computeOutlook (s : State) : Outlook :=
  if eff s Par.mapEnable = 1 ∧ s.smp.pos.valid = true ∧ s.smp.pos.stale = false then
    let here := lookup s s.smp.pos.positionM s.smp.pos.track
    let d := lookahead s
    match nearestPoint (fun x => x.2 != here.kind) (pointsAhead s d) with
    | some x => ⟨true, here.kind, here.conflict, here.ice, d, some x.2, some x.1, followingSystem s d x.1 x.2⟩
    | none => ⟨true, here.kind, here.conflict, here.ice, d, none, none, none⟩
  else .invalid

/-- A recompute of the outlook (R101): the new record, the conflict fault on entry into a conflict, and the ice-watch
flag handed to ICE. CHG's part is `handOutlook`. The model's choice (log entry 47): a recompute leaves travel_mm as it is;
a POSITION sets it to 0 and the pulse that brings it to 10,000 takes 10,000 off (R95, R96). -/
def recompute (s : State) : State :=
  let o := computeOutlook s
  let s1 := s.withSmp { s.smp with outlook := o, prevConflict := o.conflict }
  let s2 := s1.withIce { s1.ice with watch := o.iceHere }
  if o.conflict && !s.smp.prevConflict then
    logOffer s2 .sectionConflict (some (.position s.smp.pos.positionM))
  else s2

/-- A change of system_in_force reaches the map while default_section is HOLD (R101). -/
def forceChanged (before : Option Sys) (s : State) : State :=
  if s.chg.inForce ≠ before ∧ eff s Par.defaultSection = 0 then recompute s else s

/-! ### Movement (R96) -/

/-- The highest position, 16,777,215 m 0 mm, in millimetres. -/
def positionTopMm : Nat := 16777215 * 1000

/-- The position after an odometer pulse of `mm`, in millimetres, clamped at both ends (R96). -/
def movedMm (p : Position) (mm : Nat) : Nat :=
  let at0 := p.positionM * 1000 + p.remainderMm
  if p.minus then at0 - mm else min positionTopMm (at0 + mm)

/-- The position record after an odometer pulse; travel_mm grows by the distance actually moved. -/
def movePosition (p : Position) (mm : Nat) : Position :=
  let at0 := p.positionM * 1000 + p.remainderMm
  let at1 := movedMm p mm
  let moved := (at0 - at1) + (at1 - at0)
  { p with positionM := at1 / 1000, remainderMm := at1 % 1000, travelMm := p.travelMm + moved }

end Sys2Proof.Machine
end

