-- ==== Sys2Proof/Machine/Channels.lean ====
section
/-!
DEFINITION. Chapter 2 without its reports to the sequencer: lowering, raising, coming to rest, leaving SERVICE and
the initial states; and the force loop of chapter 3.
-/

namespace Sys2Proof.Machine

/-- A channel with another role. A change of role recomputes its force target (R49). -/
def giveRole (s : State) (c : Chan) (role : Role) : State :=
  putChan s c { chan s c with role := role, forceTarget := forceTargetOf s c role }

/-- RAISING or IN_CONTACT. -/
def raised (r : Channel) : Bool := r.state == .raising || r.state == .inContact

/-- The ordinary lower of one channel (R31). -/
def ordinaryLower (s : State) (c : Chan) : State :=
  if raised (chan s c) then
    writeValve (putChan s c { inState (chan s c) .lowering with dumpOn := false }) c 0
  else s

/-- CHG's lowering request: an ordinary lower of every fitted channel (R44). -/
def lowerAllFitted (s : State) : State :=
  allChans.foldl (fun s c => if fitted s c then ordinaryLower s c else s) s

/-- The SCRAPER's ordinary lower (R31). -/
def lowerScraper (s : State) : State :=
  allChans.foldl (fun s c => if isScraper s c then ordinaryLower s c else s) s

/-- R38: when no COLLECTOR is IN_CONTACT, the SCRAPER gets an ordinary lower. -/
def dropScraper (s : State) : State := if (collectorInContact s).isNone then lowerScraper s else s

/-- The failure hold of a channel that leaves RAISING or IN_CONTACT by a failure (R43). -/
def noteFailure (s : State) (role : Role) : State :=
  match role with
  | .none => s
  | .collector => s.withPcu { s.pcu with collectorHold := true }
  | .scraper => s.withPcu { s.pcu with scraperHold := true }

/-- A channel goes to RAISING in a role with valve raise_duty (R40, R41). -/
def startRaise (s : State) (c : Chan) (role : Role) : State :=
  let s1 := putChan s c { inState (chan s c) .raising with dumpOn := false }
  writeValve (giveRole s1 c role) c (effNat s Par.raiseDuty)

/-- The collector raise, if all ten raise conditions hold (R41). preferred_channel becomes none. -/
def collectorRaise (s : State) : State :=
  match raiseCandidate s with
  | some c => let s1 := startRaise s c .collector; s1.withPcu { s1.pcu with preferred := none }
  | none => s

/-- The scraper raise, if the conditions of R40 hold. -/
def scraperRaise (s : State) : State :=
  match scraperCandidate s with
  | some c => startRaise s c .scraper
  | none => s

/-- A channel comes to rest (R33, R35): LOWERED or LOCKED_OUT, dump off, role NONE. -/
def reachRest (s : State) (c : Chan) : State :=
  let r := chan s c
  let settle (st : ChanState) (lock : Option Lockout) :=
    giveRole (putChan s c { inState r st with dumpOn := false, lockout := lock }) c .none
  match r.state with
  | .lowering => settle .lowered none
  | .dropped => settle .lockedOut (some .headPressure)
  | .stuck => if r.headok then settle .lowered none else settle .lockedOut (some .headPressure)
  | .lowered | .raising | .inContact | .lockedOut | .service => s

/-- A channel takes its state from its readings: at the end of SERVICE (Table 2-7), at the end of STARTING and
when it becomes fitted (Table 2-15). `dump` is the dump's setting in the row "not at rest, ACTIVE". -/
def stateFromReadings (s : State) (c : Chan) (dump : Bool) : State :=
  let r := { chan s c with lockout := none }
  let r1 :=
    if atRest s c then
      if r.headok then { inState r .lowered with dumpOn := false }
      else { inState r .lockedOut with dumpOn := false, lockout := some .headPressure }
    else if r.headok then { inState r .lowering with dumpOn := dump }
    else { inState r .dropped with dumpOn := true }
  writeValve (putChan s c r1) c 0

/-- The end of SERVICE (R36): the dump is kept in the row "not at rest, ACTIVE". -/
def leaveService (s : State) (c : Chan) : State :=
  if (chan s c).state = .service then stateFromReadings s c (chan s c).dumpOn else s

/-- A channel whose latest height reading is invalid starts its hold (R46). The model's choice (log entry 40): one that
already ran, or failed, while the channel was ABSENT is kept, so that after a failure no HEIGHT_SENSOR follows. -/
def startHold (s : State) (c : Chan) : State :=
  if (chan s c).lastInvalid ∧ (chan s c).hold = .idle then
    putChan s c { chan s c with hold := .running 0 }
  else s

/-- The initial state of a fitted channel (R46), without its offer. -/
def initialState (s : State) (c : Chan) : State :=
  if fitted s c then startHold (stateFromReadings s c false) c else s

/-- R46: AUTO_DROP is offered at the initial state where HEADOK is INACTIVE. -/
def initialDrops (s : State) : List Chan := allChans.filter fun c => fitted s c && !(chan s c).headok

/-! ### The force loop (R50 to R52) -/

/-- trunc(a / b): division rounding towards zero. -/
def truncDiv (a b : Int) : Int := Int.tdiv a b

/-- u = D_hold + trunc(Kp × e / 16) + trunc(I / 256) (R51). -/
def loopU (s : State) (r : Channel) : Int :=
  let e := r.forceTarget - (r.forceN : Int)
  eff s Par.dHold + truncDiv (eff s Par.kp * e) 16 + truncDiv r.integrator 256

/-- The integrator after a period (R52). -/
def loopIntegrator (s : State) (r : Channel) : Int :=
  let e := r.forceTarget - (r.forceN : Int)
  let u := loopU s r
  if 1000 < u ∧ 0 < e then r.integrator
  else if u < 0 ∧ e < 0 then r.integrator
  else clampInt (-256000) 256000 (r.integrator + eff s Par.ki * e)

/-- The duty that the loop writes: u clamped to 0–1000 (R51). -/
def loopDuty (s : State) (r : Channel) : Nat := (clampInt 0 1000 (loopU s r)).toNat

/-- One channel's part of a force control period: the loop of a channel in IN_CONTACT, and the writing of raise_duty
to a channel in RAISING (R27). -/
def forceLoop (s : State) (c : Chan) : State :=
  let r := chan s c
  match r.state with
  | .inContact =>
    putChan (writeValve s c (loopDuty s r)) c { r with integrator := loopIntegrator s r }
  | .raising => writeValve s c (effNat s Par.raiseDuty)
  | .lowered | .lowering | .dropped | .lockedOut | .stuck | .service => s

end Sys2Proof.Machine
end

