-- ==== Sys2Proof/Machine/Ice.lean ====
section
/-!
DEFINITION. Chapter 7: eligibility, slots and rotation, the ice index and level, and the scraper request; and the
heater budget of R63.
-/

namespace Sys2Proof.Machine

/-! ### Eligibility (R139, R140) -/

/-- Table 7-6. -/
def headEligible (s : State) (c : Chan) : Bool :=
  fitted s c && !s.ice.stripHot.get c &&
    match s.ice.mode with
    | .off => false
    | .auto => raised (chan s c) && (chan s c).role != .none && s.ice.level != .clear
    | .forced => (chan s c).state == .lowered || raised (chan s c)

def zoneEligible (s : State) (z : Fin 16) : Bool :=
  headEligible s (zoneHead z) && s.ros.auxok && loopOwns (zoneOut s z)

def eligibleZones (s : State) : List (Fin 16) := allZones.filter (zoneEligible s)

/-- Over-temperature (R140): above strip_max, or not valid, which is outside −600 to 1,500 dC (R134). -/
def overTemperature (s : State) (t : Int) : Bool :=
  decide (t < -600) || decide (1500 < t) || decide (eff s Par.stripMax < t)

/-- Re-tests strip_hot of a channel against its latest reading; a fitted channel that becomes hot offers
STRIP_OVERTEMP (R140). -/
def testStrip (s : State) (c : Chan) : State :=
  let hot := overTemperature s (s.ice.strip.get c)
  let s1 := s.withIce { s.ice with stripHot := s.ice.stripHot.set c hot }
  if hot && !s.ice.stripHot.get c && fitted s c then logOffer s1 .stripOvertemp (some (.channel c)) else s1

/-- Re-tests every strip. The model's choice (log entry 48): in the order P1 to P4, which is that of their offers. -/
def testAllStrips (s : State) : State := allChans.foldl testStrip s

/-! ### Slots (R141 to R145) -/

/-- The number of zones in a group, 4 or 8 (R141). -/
def groupSize (s : State) : Nat := effNat s Par.groupSize

/-- Zone number of position j of a group, by the group's index from 0 (Table 7-7). -/
def zoneAt (size g j : Nat) : Fin 16 := ⟨(size * g + j) % 16, Nat.mod_lt _ (by decide)⟩

/-- The position that step k examines (R143). -/
def examined (interleaved : Bool) (size c k : Nat) : Nat :=
  if interleaved then c ^^^ k else (c + k) % size

/-- The take limit L: heater_budget less the energized zones that the loop does not own (R143). -/
def takeLimit (s : State) : Nat :=
  effNat s Par.heaterBudget -
    (allZones.filter fun z => !loopOwns (zoneOut s z) && decide (0 < (zoneOut s z).buffered)).length

/-- The steps of R143 from step k on: the zones taken, in order, and the number of steps made in all. -/
def takeSteps (zone : Nat → Fin 16) (ok : Fin 16 → Bool) (pos : Nat → Nat) (limit : Nat) :
    Nat → Nat → List (Fin 16) → List (Fin 16) × Nat
  | 0, k, taken => (taken, k)
  | fuel + 1, k, taken =>
    if taken.length < limit then
      let z := zone (pos k)
      takeSteps zone ok pos limit fuel (k + 1) (if ok z then taken ++ [z] else taken)
    else (taken, k)

/-- The groups in the order of R142: from the one after group_pointer to group_pointer itself. -/
def groupOrder (s : State) : List Nat :=
  let n := 16 / groupSize s
  let start := match s.ice.pointer with
    | some g => chanIndex g + 1
    | none => 0
  (List.range n).map fun i => (start + i) % n

/-- The first group with an eligible zone (R142). -/
def chosenGroup (s : State) : Option Nat :=
  (groupOrder s).find? fun g =>
    (List.range (groupSize s)).any fun j => zoneEligible s (zoneAt (groupSize s) g j)

/-- 2X by rate_fixed2x, or by rate_track in the cold (R144). -/
def slotRate2x (s : State) : Bool :=
  eff s Par.rateFixed2x == 1 ||
    (eff s Par.rateTrack == 1 && s.ice.ambientValid && decide (s.ice.ambient ≤ eff s Par.tCold2x))

/-- base_duty, or twice it clamped to 1000 (R144). -/
def slotDuty (s : State) : Nat :=
  if slotRate2x s then min 1000 (2 * effNat s Par.baseDuty) else effNat s Par.baseDuty

/-- ICE writes every LOOP zone in one event, zeros and slot duties together (R145). -/
def writeSlot (s : State) (zones : List (Fin 16)) (duty : Nat) : State :=
  let s1 := allZones.foldl (fun s z => if zones.contains z then s else writeZone s z 0) s
  zones.foldl (fun s z => writeZone s z duty) s1

/-- A slot start (R142 to R145). While slot_state is HELD no slot starts. -/
def slotStart (s : State) : State :=
  if s.ice.slot = .held then s else
  match chosenGroup s with
  | none => writeSlot (s.withIce { s.ice with slot := .idle }) [] 0
  | some g =>
    let size := groupSize s
    let gc := chanAt g
    let c := s.ice.counters.get gc
    let t := takeSteps (zoneAt size g) (zoneEligible s) (examined (eff s Par.order == 1) size c)
      (takeLimit s) size 0 []
    let slot : Slot := ⟨gc, t.1, slotDuty s, slotRate2x s, 0⟩
    let ice := { s.ice with
      pointer := some gc
      counters := s.ice.counters.set gc ((c + t.2) % size)
      slot := .running slot }
    writeSlot (s.withIce ice) t.1 slot.duty

/-! ### The heater budget (R63) -/

/-- The zones to cut, in order: loop zones from the highest number downward, then SERVICE zones. The model's choice (log
entry 42): a zone with applied duty above 0 and buffered duty 0 is none of them, and is on until its boundary. -/
def cutOrder (s : State) : List (Fin 16) :=
  let on := allZones.reverse.filter fun z => decide (0 < (zoneOut s z).buffered)
  on.filter (fun z => (zoneOut s z).owner == .loop) ++ on.filter (fun z => (zoneOut s z).owner == .service)

/-- Cuts zones until the count of zones with a buffered duty above 0 fits heater_budget; the applied duties are not
counted (log entry 42). -/
def budgetCut (s : State) : State :=
  ((cutOrder s).take (zonesBuffered s - effNat s Par.heaterBudget)).foldl
    (fun s z => putZone s z (cut (zoneOut s z))) s

/-! ### Index and level (R136 to R138) -/

/-- The sum of Table 7-2, clamped to 0–1000. -/
def nextIndex (s : State) : Nat :=
  let arcs := (s.ice.arcCount : Int) * eff s Par.wArc
  let cold := if s.ice.ambientValid ∧ eff s Par.tLowLimit ≤ s.ice.ambient ∧ s.ice.ambient ≤ eff s Par.tIce
    then eff s Par.wCold else 0
  let watch := if s.ice.watch then eff s Par.wWatch else 0
  (clampInt 0 1000 ((s.ice.index : Int) + arcs + cold + watch - eff s Par.decay)).toNat

/-- Table 7-3, for the level before and the new index. -/
def nextLevel (s : State) (level : IceLevel) (index : Nat) : IceLevel :=
  let i : Int := index
  match level with
  | .clear => if eff s Par.icingOn ≤ i then .icing else if eff s Par.alertOn ≤ i then .alert else .clear
  | .alert => if eff s Par.icingOn ≤ i then .icing else if i < eff s Par.alertOff then .clear else .alert
  | .icing => if i < eff s Par.alertOff then .clear else if i < eff s Par.icingOff then .alert else .icing

/-! ### The scraper request (R148 to R150) -/

/-- The conditions that setting and keeping share (Table 7-10). -/
def scraperCommon (s : State) : Bool :=
  (match s.ice.mode with
    | .off => false
    | .auto => s.ice.level == .icing
    | .forced => s.ice.level != .clear)
    && eff s Par.scraperEnable == 1 && (collectorInContact s).isSome && s.chg.seq.isNone
    && s.smp.outlook.valid && (kindSystem s.smp.outlook.kind).isSome && s.smp.outlook.next.isNone

def scraperKeep (s : State) : Bool :=
  scraperCommon s && decide ((s.smp.pos.speed : Int) ≤ eff s Par.scraperSpeedMax)

def scraperSet (s : State) : Bool :=
  scraperCommon s && decide ((s.smp.pos.speed : Int) ≤ eff s Par.scraperSpeedMax - 10)
    && (scraperChoice s).isSome

/-- ICE withdraws its request: the SCRAPER gets an ordinary lower and scraper_hold becomes FALSE (R149). -/
def withdrawScraper (s : State) : State :=
  let s1 := lowerScraper (s.withIce { s.ice with scraperRequest := false })
  s1.withPcu { s1.pcu with scraperHold := false }

/-- A test of the scraper conditions (R148, R150). -/
def scraperTest (s : State) : State :=
  if s.ice.scraperRequest then (if scraperKeep s then s else withdrawScraper s)
  else if scraperSet s then s.withIce { s.ice with scraperRequest := true }
  else s

end Sys2Proof.Machine
end

