-- ==== Sys2Proof/Machine/Changeover.lean ====
section
/-!
DEFINITION. Chapter 6: sequences, their stages, automatic starts, aborts and the protection OPEN. A stage that is done
is left by `stageStep`; `progress` repeats it, so that stages whose work is done are passed within one event (R117).
-/

namespace Sys2Proof.Machine

/-! ### The sequence record -/

def putSeq (s : State) (q : Sequence) : State := s.withChg { s.chg with seq := some q }

/-- The stage that follows, of a kind and origin, or none after the last (Table 6-6, R122). -/
def nextStage (k : SeqKind) (o : Origin) : Stage → Option Stage
  | .shed => some .opening
  | .opening =>
    match k with
    | .close | .open => none
    | .roofDown | .changeover | .lowerPass => some .lowering
    | .neutralPass => some .waitSection
  | .lowering =>
    match k with
    | .close | .open | .roofDown | .neutralPass => none
    | .changeover => if o = .outlook then some .waitSection else some .raising
    | .lowerPass => some .waitSection
  | .waitSection =>
    match k with
    | .neutralPass => some .identify
    | .close | .open | .roofDown | .changeover | .lowerPass => some .raising
  | .raising => some .identify
  | .identify => some .converter
  | .converter => some .closing
  | .closing => none

/-- No breaker is CLOSED. -/
def noneClosed (s : State) : Bool := (closedBrk s).isNone

/-- No breaker is CLOSING, CLOSED or OPENING (R119). -/
def noneMoving (s : State) : Bool :=
  (madeBrk s).isNone && s.chg.bka.state != .opening && s.chg.bkd.state != .opening

/-- A channel away from rest is of a class other than that of the system (R120, R128). -/
def otherClassUp (s : State) (t : Sys) : Bool :=
  allChans.any fun c => fitted s c && awayFromRest s c && chanClass s c != some (classOf t)

/-- The decision of R120: an ordinary lower is sent to every fitted channel. -/
def lowersNow (s : State) (q : Sequence) : Bool :=
  q.lowerAll || (q.kind == .changeover &&
    match q.target with
    | none => true
    | some t => otherClassUp s t)

/-- The outlook shows LOWER_ZONE as current_kind or next_kind. -/
def lowerZoneShown (o : Outlook) : Bool := o.kind == .lowerZone || o.next == some .lowerZone

def awaitedKind : Awaited → CombKind
  | .neutral => .neutral
  | .separation => .separation
  | .lowerZone => .lowerZone

/-- R121 (3): current_kind has left the awaited section. -/
def sectionLeft (k : SeqKind) (c : CombKind) : Bool :=
  if k = .lowerPass then c != .lowerZone else c != .neutral && c != .separation

/-- R121: the test of an outlook in WAIT_SECTION of a NEUTRAL_PASS or LOWER_PASS. A NEUTRAL_PASS that meets a lower
zone becomes a LOWER_PASS (log entry 11). -/
def waitPass (q : Sequence) (o : Outlook) : Sequence :=
  if !o.valid then { q with exit := some .next }
  else if q.kind = .neutralPass ∧ lowerZoneShown o = true then
    { q with kind := .lowerPass, awaited := some .lowerZone, lowerAll := true, exit := some .lowering }
  else
    let await := q.awaited.map awaitedKind
    let inside := q.phase = some .inside ∨ some o.kind = await
    let q1 := if inside then { q with phase := some .inside } else q
    if inside then (if sectionLeft q.kind o.kind then { q1 with exit := some .next } else q1)
    else if o.next = await ∧ await.isSome = true then q1
    else { q1 with exit := some .next }

/-- R122: the test of an outlook in WAIT_SECTION of a CHANGEOVER. The model's choice (log entry 11): the return to LOWERING
at a lower zone comes before the tests that end the stage or fix the target. -/
def waitChangeover (s : State) (q : Sequence) (o : Outlook) : Sequence :=
  if !o.valid then
    { q with exit := if q.target.isSome then some .next else some (.halt .noTarget 0) }
  else if lowerZoneShown o = true ∧ roofDown s = false then
    { q with lowerAll := true, exit := some .lowering }
  else
    let here := kindSystem o.kind
    match q.target with
    | some t => if here = some t then { q with exit := some .next } else q
    | none =>
      match here with
      | none => { q with phase := some .inside }
      | some t =>
        if q.phase = some .inside ∨ q.fromSys ≠ some t then { q with target := some t, exit := some .next }
        else q

/-- CHG tests the present outlook in WAIT_SECTION; a target fixed there is system_target too (R111, R122). -/
def waitTest (s : State) : State :=
  match s.chg.seq with
  | none => s
  | some q =>
    if q.stage = .waitSection then
      if q.kind = .changeover then
        let q1 := waitChangeover s q s.smp.outlook
        let s1 := putSeq s q1
        if q1.target = q.target then s1 else s1.withChg { s1.chg with target := q1.target }
      else putSeq s (waitPass q s.smp.outlook)
    else s

/-- R124: the identify timer starts when the outlook is invalid or current_system equals sequence_target. -/
def identifyStart (q : Sequence) (o : Outlook) : Sequence :=
  if q.identifyTime.isNone ∧ (o.valid = false ∨ kindSystem o.kind = q.target) then
    { q with identifyTime := some 0 }
  else q

/-- The outlook's effect on an IDENTIFY stage. -/
def identifyTest (s : State) : State :=
  match s.chg.seq with
  | some q => if q.stage = .identify then putSeq s (identifyStart q s.smp.outlook) else s
  | none => s

/-- The COLLECTOR is IN_CONTACT and of the class of a sequence's target. -/
def targetInContact (s : State) (q : Sequence) : Bool :=
  match collectorInContact s, q.target with
  | some c, some t => chanClass s c == some (classOf t)
  | _, _ => false

/-- measured_system equals the target of a sequence. -/
def identified (s : State) (q : Sequence) : Bool :=
  match q.target with
  | some t => s.lsi.measured == .sys t
  | none => false

/-- No channel can be chosen as collector of the class given. -/
def noChoice (s : State) (k : Option Cls) : Bool :=
  match k with
  | some k => (collectorChoice s k).isNone
  | none => true

/-- R123: what the entry to RAISING finds. -/
def raisingEntry (s : State) (q : Sequence) : Option StageExit :=
  if targetInContact s q then some .next
  else if s.cau.demand.isNone then some (.halt .noDemand 0)
  else if (collector s).isNone &&
      (s.pcu.collectorHold || anyService s || noChoice s (q.target.map classOf)) then some (.halt .noChannel 0)
  else none

/-- The work of a stage at its entry (chapter 6.5). The model's choice (log entry 43): WAIT_SECTION of a CHANGEOVER tests
the outlook as it stands at the entry, as R121 has that of a NEUTRAL_PASS or LOWER_PASS do. -/
def enterWork (st : Stage) (s : State) : State :=
  match s.chg.seq with
  | none => s
  | some q =>
    match st with
    | .shed => setShed (if noneClosed s || loadOff s then putSeq s { q with exit := some .next } else s)
    | .opening => openBrk (openBrk s .bka) .bkd
    | .lowering =>
      let sends := lowersNow s q
      let s1 := putSeq s { q with lowerSent := sends }
      if sends then lowerAllFitted s1 else s1
    | .waitSection => waitTest (putSeq s { q with phase := some .approach })
    | .raising => putSeq s { q with exit := raisingEntry s q }
    | .identify =>
      if identified s q then putSeq s { q with exit := some .next }
      else putSeq s (identifyStart q s.smp.outlook)
    | .converter => s
    | .closing =>
      match closeFailing s, s.chg.target with
      | some n, _ => putSeq s { q with exit := some (.halt .closeCondition n) }
      | none, some t => closeBrk s (brkOf (classOf t))
      | none, none => s

/-- A stage is entered: stage_time starts at 0, and its work at entry is done. -/
def enterStage (st : Stage) (s : State) : State :=
  match s.chg.seq with
  | none => s
  | some q =>
    enterWork st (putSeq s { q with
      stage := st, stageTime := 0, phase := none, identifyTime := none, lowerSent := false, exit := none })

/-! ### Starts and ends (R116, R117) -/

/-- Ends the running sequence: its entry heads the outcome list, and the record returns to NONE. A close in progress
is cancelled (R129). -/
def recordEnd (s : State) (res : Result) (sub : Nat) : State :=
  match s.chg.seq with
  | none => s
  | some q =>
    let e : Ended := ⟨q.kind, q.origin, q.target, res, q.stage, sub, roofTime s⟩
    s.withChg { s.chg with seq := none, ended := (e :: s.chg.ended).take 4 }

/-- A close in progress is cancelled at an abort (R106, R129). -/
def cancelClose (s : State) : State :=
  let s1 := if s.chg.bka.state = .closing then openBrk s .bka else s
  if s1.chg.bkd.state = .closing then openBrk s1 .bkd else s1

/-- Ends a running sequence ABORTED, for the sequence that the aborting event starts. -/
def abortSeq (s : State) (r : Reason) : State :=
  if s.chg.seq.isSome then cancelClose (recordEnd s (.aborted r) 0) else s

/-- A start reaches ICE, whose test then finds a sequence running (R117, R150). -/
def startReported (s : State) : State := if s.ice.scraperRequest then withdrawScraper s else s

/-- A sequence starts (R117). `first` is its first stage. -/
def startSeq (s : State) (kind : SeqKind) (origin : Origin) (target : Option Sys) (awaited : Option Awaited)
    (first : Stage) : State :=
  let q : Sequence :=
    { kind := kind, origin := origin, target := target, fromSys := s.chg.inForce, awaited := awaited,
      stage := first, phase := none, lowerAll := kind == .roofDown || kind == .lowerPass, stageTime := 0,
      identifyTime := none, startTime := roofTime s, lowerSent := false, convTimerDone := false, exit := none }
  enterStage first (startReported (putSeq s q))

/-- The row of Table 6-8 that holds: the kind, the target and the awaited kind. -/
def automaticRow (o : Outlook) (inForce : Option Sys) : Option (SeqKind × Option Sys × Option Awaited) :=
  if lowerZoneShown o then some (.lowerPass, inForce, some .lowerZone)
  else match o.kind with
    | .neutral => some (.neutralPass, inForce, some .neutral)
    | .separation => some (.changeover, o.following, none)
    | .sys t =>
      if some t ≠ inForce then some (.changeover, some t, none) else automaticNext o inForce
    | .unknown | .lowerZone => automaticNext o inForce
where
  /-- Rows 5 to 9, which look at the next change. -/
  automaticNext (o : Outlook) (inForce : Option Sys) : Option (SeqKind × Option Sys × Option Awaited) :=
    match o.next with
    | some .neutral => some (.neutralPass, inForce, some .neutral)
    | some .separation =>
      if o.following.isSome ∧ o.following = inForce then some (.neutralPass, inForce, some .separation)
      else some (.changeover, o.following, none)
    | some (.sys t) => if some t ≠ inForce then some (.changeover, some t, none) else none
    | some .unknown | some .lowerZone | none => none

/-- The test for an automatic start (R127). -/
def automaticStart (s : State) : State :=
  if eff s Par.autoChangeover = 1 ∧ s.smp.outlook.valid = true ∧ noneClosed s = false ∧ s.chg.seq = none
      ∧ s.roofState = .ready then
    match automaticRow s.smp.outlook s.chg.inForce with
    | some (k, t, a) => startSeq s k .outlook t a .shed
    | none => s
  else s

/-- Ends the running sequence with nothing to follow it; CHG then re-tests its automatic starts (R117). -/
def endSeq (s : State) (res : Result) (sub : Nat) : State :=
  if s.chg.seq.isSome then automaticStart (recordEnd s res sub) else s

/-- The Section Map hands CHG an outlook (R101): the WAIT_SECTION test, the identify timer, the automatic starts. -/
def handOutlook (s : State) : State := automaticStart (identifyTest (waitTest s))

/-- A recompute handed on (R101). -/
def newOutlook (s : State) : State := handOutlook (recompute s)

/-! ### Passing through stages -/

/-- The stage's work is done as the roof stands (R118 to R120, R123, R125). -/
def stageDone (s : State) (q : Sequence) : Bool :=
  match q.stage with
  | .shed => noneClosed s
  | .opening => noneMoving s
  | .lowering => !q.lowerSent || roofDown s
  | .raising => targetInContact s q
  | .converter =>
    match q.target with
    | some t => converterReady s t
    | none => false
  | .waitSection | .identify | .closing => false

/-- What the end of the OPENING stage of a CHANGEOVER changes (R111, R119). -/
def openingEnds (s : State) (q : Sequence) : State :=
  if q.kind = .changeover ∧ q.stage = .opening then
    let before := s.chg.inForce
    forceChanged before (s.withChg { s.chg with inForce := none, target := q.target })
  else s

/-- A stage ends: the next one of its kind is entered, or the sequence ends COMPLETE (R115, R117). -/
def leaveStage (s : State) (q : Sequence) : State :=
  let s1 := openingEnds s q
  match nextStage q.kind q.origin q.stage with
  | some st => enterStage st s1
  | none => endSeq s1 .complete 0

/-- One stage left, if the running one is done. -/
def stageStep (s : State) : Option State :=
  match s.chg.seq with
  | none => none
  | some q =>
    match q.exit with
    | some .next => some (leaveStage s q)
    | some .lowering => some (enterStage .lowering s)
    | some (.halt r sub) => some (endSeq s (.halted r) sub)
    | none => if stageDone s q then some (leaveStage s q) else none

/-- Leaves stages until the running one is not done. The fuel bounds the stages passed in one event (log entry 12). -/
def progressFuel : Nat → State → State
  | 0, s => s
  | n + 1, s =>
    match stageStep s with
    | some s1 => progressFuel n s1
    | none => s

def progress (s : State) : State := progressFuel 32 s

/-! ### Preemption and protection (chapter 6.7) -/

/-- A roof-down request at CHG (R129). -/
def roofDownSeq (s : State) (r : Reason) (o : Origin) : State :=
  startSeq (abortSeq s r) .roofDown o none none .shed

/-- A protection OPEN joins an OPEN of origin PROTECTION and a ROOF_DOWN (R130). -/
def joins (s : State) : Bool :=
  match s.chg.seq with
  | some q => (q.kind == .open && q.origin == .protection) || q.kind == .roofDown
  | none => false

/-- A protection OPEN of a breaker (R130). -/
def protectionOpen (s : State) (b : Brk) : State :=
  if joins s then openBrk s b
  else startSeq (abortSeq s .protection) .open .protection none none .opening

/-- A collector failure reported to CHG (R129). -/
def collectorFailed (s : State) : State :=
  let made := madeBrk s
  let s1 := match s.chg.seq with
    | some q => if q.kind = .open ∨ q.kind = .roofDown then s else abortSeq s .channelFailed
    | none => s
  match made with
  | some b => protectionOpen s1 b
  | none => s1

/-- CHG's part of ROOF SAFE (R130): the running sequence ends ABORTED(ROOF_SAFE), and, outside STARTING, an OPEN of
origin PROTECTION opens both breakers. -/
def roofSafeSeq (s : State) : State :=
  let s1 := abortSeq s .roofSafe
  if s.roofState = .starting then s1 else startSeq s1 .open .protection none none .opening

/-- The HALT action (R130, R162). -/
def haltSeq (s : State) (r : Reason) : State := endSeq s (.halted r) 0

end Sys2Proof.Machine
end

