-- ==== Sys2Proof/Machine/LineSystem.lean ====
section
/-!
DEFINITION. Chapter 1 up to classification: sampling, the window arithmetic, the classes, qualification, the restart
of identification and the patterns of the sense check. The publication is in Machine/Identification.lean.
-/

namespace Sys2Proof.Machine

/-! ### Windows (R1, R2, R5) -/

/-- N: the samples of a window (R2). -/
def windowLength : Nat := 1200

/-- A sample whose voltage may lie beyond the converter's range (R1). -/
def saturated (x : Int) : Bool := x == 32767 || x == -32767 || x == -32768

/-- A sample joins a window: the three sums are formed as the samples arrive (R5). -/
def Window.add (w : Window) (x : Int) : Window where
  samples := x :: w.samples
  s1 := w.s1 + x
  s2 := w.s2 + x.natAbs ^ 2
  sat := w.sat + bitOf (saturated x)

/-! ### Figures (R6 to R9) -/

/-- M: the integer nearest to S1/1,200; of two equally near, the one farther from zero (R6). -/
def meanM (s1 : Int) : Int :=
  let m : Nat := (2 * s1.natAbs + 1200) / 2400
  if s1 < 0 then -(m : Int) else m

/-- V = floor((1,200 × S2 − S1²) / 1,440,000) (R7). -/
def varianceV (w : Window) : Nat := (1200 * w.s2 - w.s1.natAbs ^ 2) / 1440000

/-- The bits of a square root from bit k − 1 down, on top of r. -/
def rootBits (v : Nat) : Nat → Nat → Nat
  | 0, r => r
  | k + 1, r => rootBits v k (if (r + 2 ^ k) ^ 2 ≤ v then r + 2 ^ k else r)

/-- The integer square root of a number below 2^32 (R7). -/
def rootOf (v : Nat) : Nat := rootBits v 16 0

/-- The crossing detector (Table 1-2). `level` is UNSET, LOW (`some false`) or HIGH (`some true`). -/
structure Detector where
  level : Option Bool
  index : Nat
  count : Nat
  first : Nat
  last : Nat
deriving DecidableEq, Repr

/-- The detector examines one sample, against the mean and the hysteresis (R8). -/
def Detector.examine (m h : Int) (d : Detector) (x : Int) : Detector :=
  if x ≤ m - h then { d with level := some false, index := d.index + 1 }
  else if m + h ≤ x then
    if d.level = some false then
      { level := some true, index := d.index + 1, count := d.count + 1,
        first := if d.count = 0 then d.index else d.first, last := d.index }
    else { d with level := some true, index := d.index + 1 }
  else { d with index := d.index + 1 }

/-- The detector after a window; the window holds its samples newest first. -/
def crossings (m h : Int) (w : Window) : Detector :=
  w.samples.reverse.foldl (Detector.examine m h) ⟨none, 0, 0, 0, 0⟩

/-- f_cHz (R9). -/
def frequency (d : Detector) : Nat :=
  if d.count < 2 then 0
  else (1200000 * (d.count - 1) + (d.last - d.first)) / (2 * (d.last - d.first))

/-! ### Classification (R10) -/

/-- A band includes both of its ends. -/
def inBand (lo hi x : Int) : Bool := decide (lo ≤ x) && decide (x ≤ hi)

/-- Table 1-3: the class and, of an INVALID window, its reason. -/
def classify (s : State) (sat : Nat) (meanV : Int) (rmsV fcHz : Nat) : LineClass × Option InvalidReason :=
  let none_limit := eff s Par.noneLimit
  let offset := decide ((meanV.natAbs : Int) ≤ eff s Par.acOffsetMax)
  if eff s Par.saturationLimit < sat then (.invalid, some .overRange)
  else if (meanV.natAbs : Int) ≤ none_limit ∧ (rmsV : Int) ≤ none_limit then (.none, none)
  else if inBand (eff s Par.dc3Lo) (eff s Par.dc3Hi) meanV = true ∧ (rmsV : Int) ≤ eff s Par.dc3Ripple then
    (.sys .dc3, none)
  else if inBand (eff s Par.dc15Lo) (eff s Par.dc15Hi) meanV = true ∧ (rmsV : Int) ≤ eff s Par.dc15Ripple then
    (.sys .dc15, none)
  else if (offset && inBand (eff s Par.ac25FLo) (eff s Par.ac25FHi) fcHz
      && inBand (eff s Par.ac25RmsLo) (eff s Par.ac25RmsHi) rmsV) = true then (.sys .ac25, none)
  else if (offset && inBand (eff s Par.ac15FLo) (eff s Par.ac15FHi) fcHz
      && inBand (eff s Par.ac15RmsLo) (eff s Par.ac15RmsHi) rmsV) = true then (.sys .ac15, none)
  else if meanV < -none_limit then (.invalid, some .negativeDc)
  else (.invalid, some .unmatched)

/-! ### Qualification (R12, R13) -/

/-- The run requirement of a class (Table 1-5). -/
def runRequirement (s : State) : LineClass → Nat
  | .sys _ => effNat s Par.qualifyWindows
  | .none => effNat s Par.noneWindows
  | .invalid => effNat s Par.invalidWindows

/-- The run count after a window of a class (R12). -/
def nextRun (candidate : Option LineClass) (run : Nat) (cls : LineClass) : Nat :=
  if candidate = some cls then min 255 (run + 1) else 1

/-- window_count counts 1 to 65,535 and continues at 1 (Table 1-1). -/
def nextCount (n : Nat) : Nat := if n = 65535 then 1 else n + 1

/-! ### Restart and sense check (R4, R17) -/

/-- A restart of identification (R4). -/
def restartIdent (s : State) : State :=
  s.withLsi { s.lsi with
    filling := Window.empty, evaluating := none, candidate := none, runCount := 0, measured := .none }

/-- Sample i of a window of a pattern (Table 1-11). -/
def patternSample (p : Fin 4) (i : Nat) : Int :=
  match p with
  | 0 => if i / 60 % 2 = 0 then 12500 else -12500
  | 1 => if i < 60 then 7500 else if (i - 60) % 359 < 179 then -7500 else 7500
  | 2 => 1500
  | 3 => 0

/-- The class a pattern stands for (Table 1-11). -/
def expectedClass (p : Fin 4) : LineClass :=
  match p with
  | 0 => .sys .ac25
  | 1 => .sys .ac15
  | 2 => .sys .dc3
  | 3 => .none

/-- The source of the window in progress: the pattern in CHECK, the divider else (R1). -/
def sampleSource (s : State) : Option (Fin 4) := if s.roofState = .check then s.lsi.checkPattern else none

/-- The identifier leaves the sense check (R20, R21): a PENDING result becomes INCOMPLETE, and identification
restarts. -/
def leaveCheck (s : State) : State :=
  let r := if s.lsi.checkResult = .pending then CheckResult.incomplete else s.lsi.checkResult
  restartIdent (s.withLsi { s.lsi with checkResult := r })

end Sys2Proof.Machine
end

