-- ==== Sys2Proof/Machine/Protection.lean ====
section
/-!
DEFINITION. The taking of an offer with its actions (R160 to R163): LOWER, OPEN, HALT and ROOF SAFE. This is what
stands in this part where a processor takes an exception: one shared operation, `offer`.
-/

namespace Sys2Proof.Machine

/-! ### Lowering by protection (R32) -/

/-- A channel that holds COLLECTOR has left RAISING or IN_CONTACT by a failure: the holds of R43 and the report to
CHG of R44 (2). -/
def failed (s : State) (role : Role) : State :=
  let s1 := noteFailure s role
  if role = .collector then collectorFailed s1 else s1

/-- A channel leaves RAISING or IN_CONTACT by a failure, with valve 0 and dump on, for LOWERING or DROPPED. -/
def failInto (s : State) (c : Chan) (st : ChanState) : State :=
  let r := chan s c
  failed (writeValve (putChan s c { inState r st with dumpOn := true }) c 0) r.role

/-- A protection lower (Table 2-5). -/
def protLower (s : State) (c : Chan) : State :=
  match (chan s c).state with
  | .raising | .inContact => failInto s c .lowering
  | .lowering => putChan s c { chan s c with dumpOn := true }
  | .service => dumpInService s c
  | .dropped | .stuck | .lowered | .lockedOut => s

/-- ROOF SAFE's protection lower of every fitted channel (R162). -/
def protLowerAll (s : State) : State :=
  allChans.foldl (fun s c => if fitted s c then protLower s c else s) s

/-! ### ROOF SAFE (R162, R163) -/

/-- The raise demand stops being live: collector_hold becomes FALSE in the same event (R74, R43). -/
def endDemand (s : State) : State :=
  if s.cau.demand.isSome then
    let s1 := s.withCau { s.cau with demand := none }
    s1.withPcu { s1.pcu with collectorHold := false }
  else s

/-- roof_state enters SAFE_HELD from READY or CHECK (R163). -/
def enterSafeHeld (s : State) : State :=
  match s.roofState with
  | .ready =>
    let s1 := endDemand (s.withRoof .safeHeld)
    s1.withPcu { s1.pcu with collectorHold := false }
  | .check => leaveCheck (s.withRoof .safeHeld)
  | .starting | .safeHeld => s

/-- The ROOF SAFE action (R162): to CHG, to the PCU and to the roof state. -/
def roofSafe (s : State) : State := enterSafeHeld (protLowerAll (roofSafeSeq s))

/-! ### The actions of an offer (R160 to R162) -/

/-- The OPEN action of a named breaker: a protection OPEN when it is CLOSED or CLOSING, else nothing (R161). -/
def openAction (s : State) (b : Brk) : State := if brkMade (brk s b) then protectionOpen s b else s

/-- The reason that a HALT carries (R130, Table 6-10). -/
def haltReason : FaultKind → Reason
  | .converterTimeout => .converterTimeout
  | .deadRun => .deadRun
  | _ => .systemMismatch

/-- The actions of an offer, but for ROOF SAFE. `made` is the breaker CLOSED or CLOSING when the offer is taken. -/
def takeAction (s : State) (o : Offer) (made : Option Brk) : State :=
  match kindAction o.kind, o.ctx with
  | .lower, some (.channel c) =>
    let s1 := protLower s c
    match o.collector, made with
    | true, some b => openAction s1 b
    | _, _ => s1
  | .opens, some (.breaker b) => openAction s b
  | .halt, _ => haltSeq s (haltReason o.kind)
  | .opensElseHalt, some (.breaker b) =>
    if brkMade (brk s b) then protectionOpen s b else haltSeq s (haltReason o.kind)
  | _, _ => s

/-- The offer calls for ROOF SAFE: by its kind's action, or by roof_corrupt of its bank's record going from FALSE to
TRUE (R156). -/
def callsRoofSafe (before after : Bank) (k : FaultKind) : Bool :=
  kindAction k == .roofSafe || (!bankCorrupt before && bankCorrupt after)

/-- An offer is taken whole (R153, R160): it is counted and logged; the actions of its kind follow, unless it is a
class E kind whose mask bit is clear (R157); and then, where called for, ROOF SAFE, once. -/
def offer (s : State) (o : Offer) : State :=
  let before := bank s.flt (kindBank o.kind)
  let s1 := logOffer s o.kind o.ctx
  let s2 := if kindEnabled before o.kind then takeAction s1 o (madeBrk s) else s1
  if callsRoofSafe before (bank s1.flt (kindBank o.kind)) o.kind then roofSafe s2 else s2

/-- An offer without a context. -/
def offerPlain (s : State) (k : FaultKind) : State := offer s ⟨k, none, false⟩

/-- An offer with a channel as context. -/
def offerChan (s : State) (k : FaultKind) (c : Chan) : State := offer s ⟨k, some (.channel c), false⟩

/-- An offer with a breaker as context. -/
def offerBrk (s : State) (k : FaultKind) (b : Brk) : State := offer s ⟨k, some (.breaker b), false⟩

/-- A sequence that a fault leaves HALTED with a reason: it ends, and the fault is offered (R106, R124). -/
def haltThenOffer (s : State) (r : Reason) (k : FaultKind) (b : Brk) : State :=
  offerBrk (endSeq s (.halted r) 0) k b

end Sys2Proof.Machine
end

