-- ==== Sys2Proof/Machine/Request.lean ====
section
/-!
DEFINITION. What every request has in common: hearing its frame, the refresh of its station's activity (R66), the four
steps of R68, the length test of R192 and the answer that then waits (R193, R194).
-/

namespace Sys2Proof.Machine

/-! ### Hearing a frame -/

/-- A frame can be received: no reset is held, no answer is being sent (R190), the line has been silent since the
reset or the broken frame (R198), and no soft reset is due. -/
def hears (s : State) : Bool :=
  !s.held && s.lnk.sending.isNone && s.lnk.receiver != .silenceWait && s.lnk.soft != .due

/-- The phase of a soft reset whose answer is withdrawn (R194). -/
def softWithdrawn (l : Lnk) : SoftPhase :=
  if l.waiting.isSome ∧ l.soft = .answering then .due else l.soft

/-- A whole frame has been received: its characters have withdrawn a waiting answer (R194), and the receiver is IDLE
(R190). -/
def hearFrame (s : State) : State :=
  s.withLnk { s.lnk with
    receiver := .idle, buffer := [], waiting := none, soft := softWithdrawn s.lnk, quietMs := 0 }

/-! ### Activity (R66, R61) -/

/-- The activity time of a station is refreshed; the TCC has none. A Service Tool frame also fixes the lapse time
that the next service lapse is measured against (R61). -/
def refreshActivity (st : Station) (s : State) : State :=
  match st with
  | .vcuA => s.withCau { s.cau with actA := some s.now }
  | .vcuB => s.withCau { s.cau with actB := some s.now }
  | .tcc => s
  | .tool => s.withCau { s.cau with
      actTool := some s.now, serviceLapseMs := effNat s Par.serviceLapseMs, serviceLapsed := false }

/-! ### Acceptance (R68, R192) -/

/-- The four steps of Table 4-2: the answer of the first whose condition holds. -/
def refusal (k : ReqKind) (st : Station) (s : State) : Option AnswerCode :=
  if roleTable k st = .no then some .role
  else if s.roofState = .starting ∧ k ≠ .statusRead then some .starting
  else if s.roofState = .check ∧ takenInCheck k = false then some .checkMode
  else if roleTable k st = .active ∧ (vcuOf st).isSome = true ∧ s.cau.active ≠ vcuOf st then some .notActive
  else none

/-- The refusal of a wrong payload length; a SECTION LOAD refused RANGE carries an entry number (R193). -/
def lengthRefusal (k : ReqKind) : Reply := if k = .sectionLoad then ⟨.range, [0#8]⟩ else plain .range

/-- What a request does, given its own rule `body`, once its frame is well formed. -/
def decideRequest (k : ReqKind) (st : Station) (payload : List Byte) (body : State → State × Reply) (s : State) :
    State × Reply :=
  match refusal k st s with
  | some c => (s, plain c)
  | none => if reqLengthOk k payload.length then body s else (s, lengthRefusal k)

/-- An answer waits to be sent (R193, R194). -/
def putAnswer (st : Station) (code : Byte) (r : State × Reply) : State :=
  r.1.withLnk { r.1.lnk with
    waiting := some ⟨BitVec.ofNat 8 (stationAddress st), code + 0x80#8, answerByte r.2.code :: r.2.rest⟩
    quietMs := 0 }

/-- A request is taken (R192): heard, its station's activity refreshed, tested, carried out and answered. Where the
frame's first character withdraws the answer of a SOFT RESET, that reset is due and the frame is lost (R194). -/
def takeRequest (k : ReqKind) (st : Station) (payload : List Byte) (body : State → State × Reply) (s : State) :
    State :=
  if hears s then
    let s1 := hearFrame s
    if s1.lnk.soft = .due then s1
    else putAnswer st (BitVec.ofNat 8 (reqCode k)) (decideRequest k st payload body (refreshActivity st s1))
  else s

/-- A request that changes nothing and is answered DONE. -/
def done (s : State) : State × Reply := (s, plain .done)

/-- A refusal: nothing changes. -/
def refuse (c : AnswerCode) (s : State) : State × Reply := (s, plain c)

/-- The byte of a payload at an offset. -/
def byteAt (p : List Byte) (i : Nat) : Nat := (p.getD i 0#8).toNat

/-- The bytes of a payload from an offset on. -/
def bytesAt (p : List Byte) (i n : Nat) : List Byte := (p.drop i).take n

end Sys2Proof.Machine
end

