-- ==== Sys2Proof/Machine/Cab.lean ====
section
/-!
DEFINITION. Chapter 4: the cab, the raise demand, the converter record, and the answer to ROOF UP (R42).
-/

namespace Sys2Proof.Machine

/-! ### The cab (R69 to R73) -/

/-- A roof-down request: the demand is cleared and CHG starts a ROOF_DOWN (R78). -/
def roofDownRequest (s : State) (r : Reason) (o : Origin) : State := roofDownSeq (endDemand s) r o

/-- active_vcu changes; the cab lapse of a new holder is measured from this event (R70, R72). -/
def setActive (s : State) (v : Option Vcu) : State :=
  s.withCau { s.cau with active := v, activeSince := s.now }

/-- CAB TAKE (R70). -/
def cabTake (st : Station) (s : State) : State × Reply :=
  match s.cau.active with
  | none => done (setActive s (vcuOf st))
  | some v => if vcuOf st = some v then done s else refuse .cabHeld s

/-- CAB RELEASE (R71). -/
def cabRelease (st : Station) (s : State) : State × Reply :=
  done (roofDownRequest (setActive s none) .cabRelease (stationOrigin st))

/-- CAB PASS (R72): a live demand passes to the new holder with its refresh time. -/
def cabPass (s : State) : State × Reply :=
  match s.cau.active with
  | some v =>
    let s1 := setActive s (some (otherVcu v))
    done (s1.withCau { s1.cau with demand := s1.cau.demand.map fun d => { d with origin := otherVcu v } })
  | none => done s

/-- The activity time of a VCU. -/
def activityOf (c : Cau) : Vcu → Option Nat
  | .a => c.actA
  | .b => c.actB

/-- The moment the cab lapse of a VCU is measured from (R73). -/
def lapseFrom (c : Cau) (v : Vcu) : Nat :=
  match activityOf c v with
  | some t => max t c.activeSince
  | none => c.activeSince

/-- The VCU whose cab lapse has come (R73). -/
def cabLapseDue (s : State) : Option Vcu :=
  match s.cau.active with
  | some v => if effNat s Par.cabLapseMs ≤ s.now - lapseFrom s.cau v then some v else none
  | none => none

/-- A cab lapse (R73). -/
def cabLapse (s : State) : State :=
  match cabLapseDue s with
  | some v =>
    let s1 := offer s ⟨.cabLapse, some (.station (stationAddress (vcuStation v))), false⟩
    roofDownRequest (setActive s1 none) .cabLapse (vcuOrigin v)
  | none => s

/-! ### The raise demand (R42, R74 to R77) -/

/-- A ROOF UP answered DONE makes the demand live or refreshes it (R75). -/
def refreshDemand (s : State) : State :=
  match s.cau.demand, s.cau.active with
  | some d, _ => s.withCau { s.cau with demand := some { d with refresh := s.now } }
  | none, some v => s.withCau { s.cau with demand := some ⟨v, s.now⟩ }
  | none, none => s

def setPreferred (s : State) (p : Option Chan) : State := s.withPcu { s.pcu with preferred := p }

/-- No channel of a class could be raised: each of its fitted channels is LOCKED_OUT, DROPPED or STUCK, or it has
none (Table 2-11, row 10). -/
def classUnusable (s : State) (k : Cls) : Bool :=
  allChans.all fun c => chanClass s c != some k ||
    (chan s c).state == .lockedOut || (chan s c).state == .dropped || (chan s c).state == .stuck

/-- Rows 6 to 11 of Table 2-11, for a preference that is none or a channel. -/
def roofUpChoice (s : State) (t : Sys) (p : Option Chan) : State × Reply :=
  if (collector s).isSome then done (refreshDemand s)
  else match p with
    | some c =>
      if chanClass s c ≠ some (classOf t) then refuse .noChannel s
      else if (chan s c).state = .lockedOut then refuse .locked s
      else if (chan s c).state ≠ .lowered then refuse .noChannel s
      else done (setPreferred (refreshDemand s) (some c))
    | none =>
      if classUnusable s (classOf t) then refuse .noChannel s
      else done (setPreferred (refreshDemand s) none)

/-- ROOF UP (Table 2-11). -/
def roofUp (payload : List Byte) (s : State) : State × Reply :=
  let n := byteAt payload 0
  if s.roofState = .safeHeld then refuse .safeHeld s
  else if s.pst.settle then refuse .settling s
  else if anyService s then refuse .busy s
  else match s.chg.target with
    | none => refuse .noSystem s
    | some t => if 4 < n then refuse .range s else roofUpChoice s t (chanOfNumber n)

/-- ROOF DOWN (R77). -/
def roofDownReq (st : Station) (s : State) : State × Reply :=
  done (roofDownRequest s .roofDown (stationOrigin st))

/-- The demand has reached the end of its lifetime (R76). -/
def demandDue (s : State) : Option Demand :=
  match s.cau.demand with
  | some d => if effNat s Par.demandLifetimeMs ≤ s.now - d.refresh then some d else none
  | none => none

/-- The expiry of the demand (R76). -/
def demandExpiry (s : State) : State :=
  match demandDue s with
  | some d => roofDownRequest s .demandExpiry (vcuOrigin d.origin)
  | none => s

/-! ### The converter (R79 to R81) -/

/-- The CAU examines the breaker records (Table 4-4). -/
def examineConverter (s : State) : State :=
  match closedBrk s with
  | none => s
  | some b =>
    if s.cau.conv.fresh = false ∨ s.cau.conv.state = .fault then offerBrk s .converterLost b
    else if s.cau.conv.state = .running ∧ s.cau.conv.sys ≠ s.chg.inForce then offerBrk s .changeMismatch b
    else s

/-- A report reaches a waiting SHED stage (R118 (1)). -/
def shedReport (c : ConvState) (s : State) : State :=
  match s.chg.seq with
  | some q => if q.stage = .shed ∧ c ≠ .running then putSeq s { q with exit := some .next } else s
  | none => s

/-- A report is taken: stored, handed to CHG, and the breakers examined (R79). -/
def takeReport (c : ConvState) (t : Option Sys) (s : State) : State :=
  let s1 := s.withCau { s.cau with conv := ⟨c, t, some s.now, true⟩ }
  examineConverter (progress (shedReport c s1))

/-- CONVERTER REPORT (R79). -/
def converterReport (payload : List Byte) (s : State) : State × Reply :=
  match convStateOfCode (byteAt payload 0), convSysOfCode (byteAt payload 1) with
  | some c, some t => done (takeReport c t s)
  | _, _ => refuse .range s

/-- The age of the record has reached converter_lapse_ms (R80). -/
def converterDue (s : State) : Bool :=
  s.cau.conv.fresh && match s.cau.conv.reportTime with
    | some t => decide (effNat s Par.converterLapseMs ≤ s.now - t)
    | none => true

/-- The converter record becomes stale, and the breakers are examined (R80). -/
def converterStale (s : State) : State :=
  if converterDue s then
    examineConverter (s.withCau { s.cau with conv := { s.cau.conv with fresh := false } })
  else s

/-- The age of the record is less than converter_lapse_ms (R80). -/
def converterYoung (s : State) : Bool :=
  match s.cau.conv.reportTime with
  | some t => decide (s.now - t < effNat s Par.converterLapseMs)
  | none => false

/-- A change of converter_lapse_ms applies at once, in both directions (R80): a record younger than the new value is
fresh, and one that is not becomes stale. -/
def converterRetest (s : State) : State :=
  if converterYoung s then s.withCau { s.cau with conv := { s.cau.conv with fresh := true } } else converterStale s

end Sys2Proof.Machine
end

