-- ==== Sys2Proof/Machine/Breakers.lean ====
section
/-!
DEFINITION. Chapter 6 at its edges: the feedback changes and expiries of the breakers, the stage timers, and the requests
BREAKER CLOSE, BREAKER OPEN and SYSTEM SELECT.
-/

namespace Sys2Proof.Machine

/-! ### Breakers (R105 to R110) -/

/-- A breaker in a state, with both coils OFF and op_time 0. -/
def restBrk (r : Breaker) (st : BrkState) : Breaker :=
  { r with state := st, closeCoil := false, holdCoil := false, opTime := 0 }

/-- The completing of a close (R105). The running sequence is recorded COMPLETE before the breakers are examined and
the automatic starts re-tested. -/
def closeCompletes (s : State) (b : Brk) : State :=
  let before := s.chg.inForce
  let s1 := putBrk s b { brk s b with state := .closed, closeCoil := false, holdCoil := true, opTime := 0 }
  let s2 := s1.withChg { s1.chg with inForce := s1.chg.target, shed := false }
  let s3 := recordEnd s2 .complete 0
  automaticStart (examineConverter (forceChanged before s3))

/-- A trip (Table 6-2). -/
def trips (s : State) (b : Brk) : State :=
  offerBrk (setShed (putBrk s b (restBrk (brk s b) .opened))) .breakerTripped b

/-- An uncommanded closure (Table 6-2): the other breaker is opened in the same event. -/
def closesUncommanded (s : State) (b : Brk) : State :=
  offerBrk (openBrk (putBrk s b (restBrk (brk s b) .failed)) (otherBrk b)) .breakerUncommanded b

/-- A breaker whose feedback changes, the new level being recorded already (R105 to R108). -/
def feedbackTaken (s : State) (b : Brk) (closed : Bool) : State :=
  match (brk s b).state, closed with
  | .closing, true => closeCompletes s b
  | .closed, false => trips s b
  | .opened, true => closesUncommanded s b
  | .opening, false | .failed, false => putBrk s b (restBrk (brk s b) .opened)
  | .closing, false | .closed, true | .opened, false | .opening, true | .failed, true => s

/-- A change of a feedback input. While roof_state is STARTING it moves the breaker between OPEN and OPENING and
offers nothing (R110). A level that the record already holds is no change. -/
def feedbackChange (b : Brk) (closed : Bool) (s : State) : State :=
  if (brk s b).feedback = closed then s
  else if s.roofState = .starting then putBrk s b (Breaker.reset closed)
  else feedbackTaken (putBrk s b { brk s b with feedback := closed }) b closed

/-- op_time of a CLOSING breaker has reached close_time (R106). -/
def closeDue (s : State) (b : Brk) : Bool :=
  (brk s b).state == .closing && decide (effNat s Par.closeTime ≤ (brk s b).opTime)

/-- A close fails (R106). `closed` is the level of the input at the expiry. -/
def closeExpiry (b : Brk) (closed : Bool) (s : State) : State :=
  if closeDue s b then
    haltThenOffer (putBrk s b (restBrk (brk s b) (if closed then .failed else .opened)))
      .closeFailed .breakerCloseFail b
  else s

/-- op_time of an OPENING breaker has reached open_time (R107). During STARTING op_time stays 0 (R110). -/
def openDue (s : State) (b : Brk) : Bool :=
  (brk s b).state == .opening && s.roofState != .starting && decide (effNat s Par.openTime ≤ (brk s b).opTime)

/-- The end of open_time (R107 (3) and (4)). `closed` is the level of the input at the expiry. -/
def openExpiry (b : Brk) (closed : Bool) (s : State) : State :=
  if openDue s b then
    if closed then offerBrk (putBrk s b (restBrk (brk s b) .failed)) .breakerOpenFail b
    else putBrk s b (restBrk (brk s b) .opened)
  else s

/-! ### Stage timers (R118, R121, R124, R125) -/

/-- stage_time of a SHED stage has reached shed_timeout (R118). -/
def shedDue (s : State) (q : Sequence) : Bool :=
  q.stage == .shed && decide (effNat s Par.shedTimeout ≤ q.stageTime)

/-- SHED_TIMEOUT: the fault is offered, and the stage ends all the same (R118 (3)). -/
def shedExpiry (s : State) : State :=
  match s.chg.seq with
  | some q =>
    if shedDue s q then
      putSeq (offer s ⟨.shedTimeout, (closedBrk s).map .breaker, false⟩) { q with exit := some .next }
    else s
  | none => s

/-- The breaker that a DEAD_RUN names: of the class of sequence_target or, while that is absent, of from_system (R121,
R122). -/
def deadRunCtx (q : Sequence) : Option Ctx :=
  match q.target, q.fromSys with
  | some t, _ | none, some t => some (.breaker (brkOf (classOf t)))
  | none, none => none

/-- stage_time has reached dead_run_s in WAIT_SECTION or IDENTIFY (R121, R124). -/
def deadRunDue (s : State) (q : Sequence) : Bool :=
  (q.stage == .waitSection || q.stage == .identify) && decide (effNat s Par.deadRunS * 1000 ≤ q.stageTime)

/-- The end of dead_run_s: the HALT of the fault ends the sequence (R121, R124). -/
def deadRunExpiry (s : State) : State :=
  match s.chg.seq with
  | some q => if deadRunDue s q then offer s ⟨.deadRun, deadRunCtx q, false⟩ else s
  | none => s

/-- identify_time has reached identify_timeout (R124). -/
def identifyDue (s : State) (q : Sequence) : Bool :=
  q.stage == .identify && match q.identifyTime with
    | some t => decide (effNat s Par.identifyTimeout ≤ t)
    | none => false

/-- The end of identify_timeout (R124). -/
def identifyExpiry (s : State) : State :=
  match s.chg.seq with
  | some q => if identifyDue s q then offer s ⟨.deadRun, deadRunCtx q, false⟩ else s
  | none => s

/-- stage_time has reached converter_timeout in CONVERTER, and the timer has not been spent (R125). -/
def converterTimeoutDue (s : State) (q : Sequence) : Bool :=
  q.stage == .converter && !q.convTimerDone && decide (effNat s Par.converterTimeout ≤ q.stageTime)

/-- CONVERTER_TIMEOUT (R125). If the action is not taken, the stage waits on without the timer. -/
def converterExpiry (s : State) : State :=
  match s.chg.seq with
  | some q =>
    if converterTimeoutDue s q then
      offer (putSeq s { q with convTimerDone := true }) ⟨.converterTimeout, deadRunCtx q, false⟩
    else s
  | none => s

/-! ### Requests (R112, R114, R128) -/

/-- BREAKER CLOSE (Table 6-4). -/
def breakerClose (st : Station) (s : State) : State × Reply :=
  if s.roofState = .safeHeld then refuse .safeHeld s
  else if s.pst.settle then refuse .settling s
  else if s.chg.seq.isSome then refuse .busy s
  else match s.chg.target with
    | none => (s, conditionOf 1)
    | some t =>
      if (brk s (brkOf (classOf t))).state = .closed then done s
      else match closeFailing s with
        | some n => (s, conditionOf n)
        | none => done (startSeq s .close (stationOrigin st) (some t) none .closing)

/-- The running sequence already opens every breaker (R114 (1)). -/
def opensAlready (s : State) : Bool :=
  match s.chg.seq with
  | some q => q.kind == .open || q.kind == .roofDown
  | none => false

/-- BREAKER OPEN (R114). -/
def breakerOpen (st : Station) (s : State) : State × Reply :=
  if opensAlready s then done s
  else done (startSeq (abortSeq s .breakerOpen) .open (stationOrigin st) none none .shed)

/-- A CHANGEOVER is replaced its target (R128). -/
def retargetSeq (s : State) (q : Sequence) (t : Sys) : State :=
  let back := q.stage = .waitSection ∧ otherClassUp s t = true
  let q1 : Sequence := { q with target := some t }
  let q2 : Sequence := if back then { q1 with lowerAll := true, exit := some .lowering } else q1
  let s1 := putSeq s q2
  if q.stage = .lowering ∨ q.stage = .waitSection then s1.withChg { s1.chg with target := some t } else s1

/-- A stage before RAISING. -/
def beforeRaising : Stage → Bool
  | .shed | .opening | .lowering | .waitSection => true
  | .raising | .identify | .converter | .closing => false

/-- Rows 3 to 8 of Table 6-9. -/
def selectSystem (st : Station) (t : Sys) (s : State) : State × Reply :=
  match s.chg.seq with
  | some q =>
    if q.kind = .changeover ∧ q.target = some t then done s
    else if q.kind = .changeover ∧ beforeRaising q.stage = true then done (retargetSeq s q t)
    else refuse .busy s
  | none =>
    if s.chg.target = some t then done s
    else if roofDown s = true ∧ bothOpen s = true then done (s.withChg { s.chg with target := some t })
    else done (startSeq s .changeover (stationOrigin st) (some t) none .shed)

/-- SYSTEM SELECT (Table 6-9). -/
def systemSelect (st : Station) (payload : List Byte) (s : State) : State × Reply :=
  match sysOfCode (byteAt payload 0) with
  | none => refuse .range s
  | some t => if s.roofState = .safeHeld then refuse .safeHeld s else selectSystem st t s

end Sys2Proof.Machine
end

