-- ==== Sys2Proof/Machine/Pantograph.lean ====
section
/-!
DEFINITION. Chapter 2: the readings of a channel and the transitions they give, its timers and inputs, and LOCKOUT CLEAR.
-/

namespace Sys2Proof.Machine

/-! ### Readings (R25, R26) -/

/-- A force reading is clamped and stored; the first that needed clamping offers FORCE_RANGE (R25), unless the channel
is ABSENT (R23). -/
def storeForce (c : Chan) (force : Int) (s : State) : State :=
  let r := chan s c
  let inside := decide (0 ≤ force) && decide (force ≤ 500)
  let s1 := putChan s c { r with forceN := (clampInt 0 500 force).toNat, forceRangeArmed := inside }
  if !inside && r.forceRangeArmed && fitted s c then offerChan s1 .forceRange c else s1

/-- A height reading that can be stored (R25). -/
def heightOk (h : Int) : Bool := decide (0 ≤ h) && decide (h ≤ 3200)

/-- A height reading is stored, or starts the hold of R26. No hold runs during STARTING (R45). -/
def storeHeight (c : Chan) (h : Int) (s : State) : State :=
  let r := chan s c
  if heightOk h then
    putChan s c { r with heightMm := h.toNat, heightValid := true, lastInvalid := false, hold := .idle }
  else
    putChan s c { r with
      lastInvalid := true
      hold := if s.roofState = .starting ∨ r.hold ≠ .idle then r.hold else .running 0 }

/-- A strip reading goes to ICE, which tests it at once (R134, R140). -/
def storeStrip (c : Chan) (t : Int) (s : State) : State :=
  testStrip (s.withIce { s.ice with strip := s.ice.strip.set c t }) c

/-! ### Leaving RAISING and IN_CONTACT (R28 to R30) -/

/-- A channel goes to LOWERING with valve 0 by a failure; the fault's LOWER action then opens the dump. -/
def failLower (s : State) (c : Chan) : State :=
  let r := chan s c
  failed (writeValve (putChan s c { inState r .lowering with dumpOn := false }) c 0) r.role

/-- NO_WIRE (R28, R30). -/
def noWire (s : State) (c : Chan) : State := offerChan (failLower s c) .noWire c

/-- Contact (R28 (1)). -/
def makeContact (s : State) (c : Chan) : State :=
  let r := inState (chan s c) .inContact
  putChan s c { r with integrator := 0, arcArmed := true, lowForceTime := 0, lossLimit := effNat s Par.contactLossMs }

/-- A reading in RAISING (R28). -/
def readRaising (c : Chan) (h : Int) (s : State) : State :=
  if eff s Par.contactForce ≤ (chan s c).forceN then makeContact s c
  else if heightOk h = true ∧ eff s Par.maxHeight ≤ h then noWire s c
  else s

/-- An arc event: ARC is offered, and ICE counts the arc of a COLLECTOR (R29, R135). -/
def arcEvent (c : Chan) (s : State) : State :=
  let s1 := offerChan (putChan s c { chan s c with arcArmed := false }) .arc c
  if (chan s c).role = .collector then
    s1.withIce { s1.ice with arcCount := min 65535 (s1.ice.arcCount + 1) }
  else s1

/-- low_force_time counts from the first reading below loss_force, and is set back by one that is not (R30). -/
def countLowForce (c : Chan) (low : Bool) (s : State) : State :=
  let r := chan s c
  putChan s c { r with
    lowForce := low
    lowForceTime := if low && r.lowForce then r.lowForceTime else 0
    lossLimit := effNat s Par.contactLossMs }

/-- A reading in IN_CONTACT (R29, R30). -/
def readContact (c : Chan) (s : State) : State :=
  let r := chan s c
  let low := decide ((r.forceN : Int) < eff s Par.lossForce)
  let s1 := countLowForce c low s
  let s2 := if low && r.arcArmed then arcEvent c s1
    else if eff s Par.contactForce ≤ r.forceN then putChan s1 c { chan s1 c with arcArmed := true }
    else s1
  if low && decide ((chan s2 c).lossLimit ≤ (chan s2 c).lowForceTime) then noWire s2 c else s2

/-- The transitions that a reading gives (R28 to R30, R33, R35). -/
def readTransitions (c : Chan) (h : Int) (s : State) : State :=
  match (chan s c).state with
  | .raising => readRaising c h s
  | .inContact => readContact c s
  | .lowering | .dropped | .stuck => if heightOk h && atRest s c then reachRest s c else s
  | .lowered | .lockedOut | .service => s

/-- The readings of one channel, taken together (R25). During STARTING they are stored and tested for FORCE_RANGE and
STRIP_OVERTEMP alone (R45, R152). The readings of an ABSENT channel cause no transition (R23). The model's choice (log
entry 41): FORCE_RANGE is offered before the ARC or NO_WIRE of the same reading. -/
def takeReading (c : Chan) (h f t : Int) (s : State) : State :=
  let s1 := storeStrip c t (storeHeight c h (storeForce c f s))
  if s.roofState = .starting ∨ fitted s c = false then s1 else readTransitions c h s1

/-! ### Height sensor failure (R26) -/

/-- The effect of Table 2-3 on the channel. -/
def heightFails (s : State) (c : Chan) : State :=
  let r := chan s c
  match r.state with
  | .raising | .inContact => failInto s c .lowering
  | .lowering | .dropped | .stuck => putChan s c { r with dumpOn := true }
  | .lowered => putChan s c { inState r .lockedOut with lockout := some .heightSensor }
  | .lockedOut => s
  | .service => dumpInService s c

/-- The hold has run 100 ms (R26). -/
def holdDue (r : Channel) : Bool :=
  match r.hold with
  | .running ms => decide (100 ≤ ms)
  | .idle | .failed => false

/-- The height sensor failure (R26); of an ABSENT channel it causes no transition and no fault (R23). -/
def heightSensor (c : Chan) (s : State) : State :=
  if s.roofState ≠ .starting ∧ holdDue (chan s c) = true then
    let s1 := putChan s c { chan s c with heightValid := false, hold := .failed }
    if fitted s c then offerChan (heightFails s1 c) .heightSensor c else s1
  else s

/-! ### HEADOK (R34) -/

/-- The effect of Table 2-6 on the channel, or none where it names none. -/
def headLost (s : State) (c : Chan) : Option State :=
  let r := chan s c
  match r.state with
  | .raising | .inContact => some (failInto s c .dropped)
  | .lowering => some (putChan s c { r with state := .dropped, dumpOn := true })
  | .lowered => some (putChan s c { inState r .lockedOut with lockout := some .headPressure })
  | .stuck => some s
  | .service => some (dumpInService s c)
  | .dropped | .lockedOut => none

/-- HEADOK goes from ACTIVE to INACTIVE (R34). During STARTING no channel acts on it (R45), and an
ABSENT channel never does (R23). -/
def headokLost (c : Chan) (s : State) : State :=
  if (chan s c).headok then
    let s1 := putChan s c { chan s c with headok := false }
    if s.roofState = .starting ∨ fitted s c = false then s1 else
    match headLost s1 c with
    | some s2 => offer s2 ⟨.autoDrop, some (.channel c), isCollector s c⟩
    | none => s1
  else s

/-- HEADOK goes from INACTIVE to ACTIVE: no state changes (R34). -/
def headokRestored (c : Chan) (s : State) : State := putChan s c { chan s c with headok := true }

/-! ### Timers (R28, R30, R33, R35) -/

/-- state_time has reached raise_timeout_ms in RAISING (R28 (3)). -/
def raiseDue (s : State) (c : Chan) : Bool :=
  (chan s c).state == .raising && decide (effNat s Par.raiseTimeoutMs ≤ (chan s c).stateTime)

/-- RAISE_TIMEOUT (R28 (3)). -/
def raiseTimeout (c : Chan) (s : State) : State :=
  if raiseDue s c then
    offerChan (failLower s c) .raiseTimeout c
  else s

/-- low_force_time has reached contact_loss_ms, as it stood at the latest force reading (R30). -/
def contactDue (s : State) (c : Chan) : Bool :=
  (chan s c).state == .inContact && (chan s c).lowForce && decide ((chan s c).lossLimit ≤ (chan s c).lowForceTime)

/-- Contact lost for contact_loss_ms (R30). -/
def contactLoss (c : Chan) (s : State) : State := if contactDue s c then noWire s c else s

/-- LOWERING or DROPPED, whose state_time runs to lower_timeout_ms. -/
def comingDown (r : Channel) : Bool := r.state == .lowering || r.state == .dropped

/-- state_time has reached lower_timeout_ms in LOWERING or DROPPED (R33, R35). -/
def lowerDue (s : State) (c : Chan) : Bool :=
  comingDown (chan s c) && decide (effNat s Par.lowerTimeoutMs ≤ (chan s c).stateTime)

/-- LOWER_TIMEOUT: the channel is STUCK (R33, R35). -/
def lowerTimeout (c : Chan) (s : State) : State :=
  if lowerDue s c then
    offerChan (putChan s c { inState (chan s c) .stuck with dumpOn := true }) .lowerTimeout c
  else s

/-! ### LOCKOUT CLEAR (R37) -/

/-- LOCKOUT CLEAR (Table 2-8). -/
def lockoutClear (payload : List Byte) (s : State) : State × Reply :=
  match chanOfNumber (byteAt payload 0) with
  | none => refuse .range s
  | some c =>
    let r := chan s c
    if fitted s c = false then refuse .noChannel s
    else if r.state ≠ .lockedOut then done s
    else if r.headok = false ∨ r.heightValid = false then refuse .locked s
    else done (putChan s c { inState r .lowered with lockout := none })

end Sys2Proof.Machine
end

