-- ==== Sys2Proof/Machine/Position.lean ====
section
/-!
DEFINITION. Chapter 5 at its edges: SECTION LOAD, SECTION CLEAR, SECTION READ, POSITION, the odometer and the lapse.
-/

namespace Sys2Proof.Machine

/-! ### Section entries (Table 10-10) -/

def secKindCode : SecKind → Nat
  | .sys t => sysCode t
  | .neutral => 5
  | .separation => 6
  | .lowerZone => 7
  | .iceWatch => 8

/-- The eight bytes of an entry, with its origin in bit 7 of the kind byte. -/
def entryBytes (e : Entry) : List Byte :=
  leBytes 3 e.startM ++ leBytes 3 e.stopM ++
    [BitVec.ofNat 8 (secKindCode e.kind + 128 * bitOf (!e.isFixed)), BitVec.ofNat 8 e.track]

/-! ### SECTION LOAD (R87, R88) -/

/-- The number, from `n` on, of the first entry that cannot be read (Table 5-2, row 2). -/
def firstBad (n : Nat) : List (Option Entry) → Option Nat
  | [] => none
  | none :: _ => some n
  | some _ :: rest => firstBad (n + 1) rest

/-- The number, from `n` on, of the first entry equal to one held or to an earlier one (Table 5-2, row 3). -/
def firstDuplicate (held : List Entry) (n : Nat) : List Entry → Option Nat
  | [] => none
  | e :: rest => if held.any (sameEntry e) then some n else firstDuplicate (e :: held) (n + 1) rest

/-- The entries are placed in the order of the request, and the outlook is recomputed (R88). -/
def placeAll (es : List Entry) (s : State) : State :=
  newOutlook (s.withSmp { s.smp with table := es.foldl placeEntry s.smp.table })

def rangeAt (n : Nat) (s : State) : State × Reply := (s, ⟨.range, [BitVec.ofNat 8 n]⟩)

/-- SECTION LOAD (Table 5-2). -/
def sectionLoad (payload : List Byte) (s : State) : State × Reply :=
  let read := (pieces 8 payload.length payload).map (entryOfBytes false)
  if payload.length = 0 ∨ 32 < payload.length then rangeAt 0 s
  else match firstBad 1 read with
    | some n => rangeAt n s
    | none =>
      let es := read.filterMap id
      match firstDuplicate s.smp.table 1 es with
      | some n => (s, ⟨.duplicate, [BitVec.ofNat 8 n]⟩)
      | none =>
        if 48 < routeCount s.smp.table + es.length then refuse .tableFull s
        else
          let s1 := placeAll es s
          (s1, ⟨.done, [BitVec.ofNat 8 (routeCount s1.smp.table)]⟩)

/-! ### SECTION CLEAR and SECTION READ (R89, R90) -/

/-- The entry lies wholly behind the position in the direction of travel (R89). -/
def behind (p : Position) (e : Entry) : Bool :=
  if p.minus then decide (p.positionM < e.startM) else decide (e.stopM ≤ p.positionM)

/-- Removes the route entries that satisfy a condition, and recomputes the outlook (R89). -/
def clearRoutes (gone : Entry → Bool) (s : State) : State × Reply :=
  let kept := s.smp.table.filter fun e => e.isFixed || !gone e
  let s1 := newOutlook (s.withSmp { s.smp with table := kept })
  (s1, ⟨.done, [BitVec.ofNat 8 (s.smp.table.length - kept.length), BitVec.ofNat 8 (routeCount kept)]⟩)

/-- SECTION CLEAR (R89). -/
def sectionClear (payload : List Byte) (s : State) : State × Reply :=
  match byteAt payload 0 with
  | 0 => clearRoutes (fun _ => true) s
  | 1 => if s.smp.pos.valid then clearRoutes (behind s.smp.pos) s else (s, conditionOf subNoPosition)
  | _ => refuse .range s

/-- SECTION READ (R90). -/
def sectionRead (payload : List Byte) (s : State) : State × Reply :=
  let i := byteAt payload 0
  if 63 < i then refuse .range s
  else (s, ⟨.done, [BitVec.ofNat 8 (fixedCount s.smp.table), BitVec.ofNat 8 (routeCount s.smp.table)]
    ++ ((s.smp.table.drop i).take 4).flatMap entryBytes⟩)

/-! ### Position (R95 to R97) -/

/-- The difference of two positions is greater than jump_tolerance_m (R95). -/
def jumps (s : State) (p : Nat) : Bool :=
  s.smp.pos.valid && decide (effNat s Par.jumpToleranceM < (p - s.smp.pos.positionM) + (s.smp.pos.positionM - p))

/-- A POSITION is taken (R95). The model's choice (log entry 51): the offer of POSITION_JUMP is taken before position_m
is replaced, so that its stamp_position (R154) is the integrated position. -/
def takePosition (p track : Nat) (minus : Bool) (speed : Nat) (s : State) : State :=
  let s1 := if jumps s p then offer s ⟨.positionJump, some (.position p), false⟩ else s
  newOutlook (s1.withSmp { s1.smp with pos :=
    { valid := true, positionM := p, remainderMm := 0, track := track, minus := minus, speed := min 400 speed,
      speedClamped := decide (400 < speed), reportTime := some s1.now, stale := false, travelMm := 0 } })

/-- POSITION (R95). -/
def positionReq (payload : List Byte) (s : State) : State × Reply :=
  let p := leNat (bytesAt payload 0 3)
  let track := byteAt payload 3
  let dir := byteAt payload 4
  if 16777215 < p ∨ 14 < track ∨ 1 < dir then refuse .range s
  else done (takePosition p track (dir == 1) (leNat (bytesAt payload 5 2)) s)

/-- An odometer pulse (R96). -/
def odometerPulse (s : State) : State :=
  if s.smp.pos.valid then
    let p := movePosition s.smp.pos (effNat s Par.odometerMm)
    if 10000 ≤ p.travelMm then newOutlook (s.withSmp { s.smp with pos := { p with travelMm := p.travelMm - 10000 } })
    else s.withSmp { s.smp with pos := p }
  else s

/-- The time since report_time has reached position_lapse_s (R97). -/
def positionDue (s : State) : Bool :=
  s.smp.pos.valid && !s.smp.pos.stale && match s.smp.pos.reportTime with
    | some t => decide (effNat s Par.positionLapseS * 1000 ≤ s.now - t)
    | none => false

/-- A position lapse (R97). -/
def positionLapse (s : State) : State :=
  if positionDue s then
    let s1 := s.withSmp { s.smp with pos := { s.smp.pos with stale := true } }
    newOutlook (offer s1 ⟨.positionLapse, some (.position s.smp.pos.positionM), false⟩)
  else s

end Sys2Proof.Machine
end

