-- ==== Sys2Proof/Machine/Profile.lean ====
section
/-!
DEFINITION. Chapter 9: the profile load, the end of STARTING, PARAMETER SET and READ, the settle interval, the winter
overlay and the resets.
-/

namespace Sys2Proof.Machine

/-! ### Straps (R172) -/

/-- STRAP3 and STRAP2: the vehicle variant. -/
def strapVariant (p : Pst) : Nat := p.straps.toNat / 4 % 4

/-- STRAP4: the profile is read from the EEPROM. -/
def strapEeprom (p : Pst) : Bool := p.straps.toNat / 16 % 2 == 1

/-- 0x10 + n, with n from STRAP1 and STRAP0. -/
def stationAddr (p : Pst) : Nat := 0x10 + p.straps.toNat % 4

/-! ### The two-wire bus (R174, R197) -/

/-- How far PST's freeing of the bus has come: SDA is still low; it was released after so many clock pulses, any of
which a stop condition follows; or nine pulses have not released it. -/
inductive BusState where
  | pulsing
  | freed (pulses : Nat)
  | stuck
deriving DecidableEq, Repr

/-- Clock pulses, at most `left` more after `given`, until SDA is released. -/
def freeBusFrom (given : Nat) : Nat → List Bool → BusState
  | _, [] => .pulsing
  | _, true :: _ => .freed given
  | 0, false :: _ => .stuck
  | left + 1, false :: rest => freeBusFrom (given + 1) left rest

/-- The freeing of the bus before the load: up to nine clock pulses (R174). -/
def freeBus (sda : List Bool) : BusState := freeBusFrom 0 9 sda

/-- How a read of the EEPROM stands: attempts are still to come, one gave its bytes, or the last has failed (R197). -/
inductive ReadResult where
  | goesOn
  | gave (bytes : List Byte)
  | noAnswer
deriving DecidableEq, Repr

/-- The first acknowledged attempt of at most `left` gives the bytes. -/
def readWithin : Nat → Attempts → ReadResult
  | 0, _ => .noAnswer
  | _ + 1, [] => .goesOn
  | _ + 1, some bs :: _ => .gave bs
  | left + 1, none :: rest => readWithin left rest

/-- A read is attempted up to three times in a row, counted afresh for each read (R197). -/
def eepromRead (a : Attempts) : ReadResult := readWithin 3 a

/-- The attempts of a read that fails. -/
def neverAnswered : Attempts := [none, none, none]

/-- The read of bytes 0 to 38, once the bus is free (R174). -/
def headerResult (r : HeaderRead) : ReadResult :=
  match freeBus r.sda with
  | .pulsing => .goesOn
  | .freed _ => eepromRead r.attempts
  | .stuck => .noAnswer

/-- What PST writes before a read: the bus address of the EEPROM, and the byte address, its more significant byte
first (R197). -/
def readBegins (first : Nat) : Nat × List Byte :=
  (0x50, [BitVec.ofNat 8 (first / 256), BitVec.ofNat 8 (first % 256)])

/-! ### Consistency (R178) -/

/-- Two bands do not overlap. -/
def apart (lo1 hi1 lo2 hi2 : Int) : Bool := decide (hi1 < lo2) || decide (hi2 < lo1)

/-- The checks of a group, in the order of Table 9-3: the lowest parameter number of each, and whether the values
pass it. -/
def groupChecks (v : Nat → Int) : Group → List (Nat × Bool)
  | .line =>
    [(Par.dc3Lo, decide (v Par.dc3Lo < v Par.dc3Hi)), (Par.dc15Lo, decide (v Par.dc15Lo < v Par.dc15Hi)),
     (Par.ac25RmsLo, decide (v Par.ac25RmsLo < v Par.ac25RmsHi)),
     (Par.ac25FLo, decide (v Par.ac25FLo < v Par.ac25FHi)),
     (Par.ac15RmsLo, decide (v Par.ac15RmsLo < v Par.ac15RmsHi)),
     (Par.ac15FLo, decide (v Par.ac15FLo < v Par.ac15FHi)),
     (Par.dc3Lo, apart (v Par.dc3Lo) (v Par.dc3Hi) (v Par.dc15Lo) (v Par.dc15Hi)),
     (Par.ac25FLo, apart (v Par.ac25FLo) (v Par.ac25FHi) (v Par.ac15FLo) (v Par.ac15FHi))]
  | .panto =>
    [(Par.fMin, decide (v Par.fMin < v Par.fMax)), (Par.contactForce, decide (v Par.lossForce < v Par.contactForce))]
  | .ice =>
    [(Par.alertOn, decide (v Par.alertOff < v Par.alertOn) && decide (v Par.alertOn < v Par.icingOff)
        && decide (v Par.icingOff < v Par.icingOn)),
     (Par.rateTrack, !(v Par.rateTrack == 1 && v Par.rateFixed2x == 1))]
  | .general | .change => []

/-- The lowest parameter number of the first check that fails, or none where all pass. -/
def failedCheck (v : Nat → Int) (g : Group) : Option Nat :=
  ((groupChecks v g).find? fun c => !c.2).map (·.1)

/-- The groups that have checks. The model's choice (log entry 53): they are checked, and offer, in the order of the rows
of Table 9-3. -/
def checkedGroups : List Group := [.line, .panto, .ice]

/-- The values of layers laid one upon the other, the first uppermost, over the defaults. -/
def layersView (ls : List Layer) (n : Nat) : Int := firstPresent (ls.map fun l => layerGet l n) n

/-- A layer without the values of a group. -/
def dropGroup (l : Layer) (g : Group) : Layer := l.filter fun x => groupOf x.1 != g

/-- An offer of SEGMENT_INVALID with a parameter number. -/
def offerParam (s : State) (k : FaultKind) (n : Nat) : State := offer s ⟨k, some (.param n), false⟩

/-! ### Parameter records (R176, R186) -/

/-- One record taken into a layer, or the number it is ignored for. -/
def takeRecord (carries : Nat → Bool) (l : Layer) (bs : List Byte) : Layer × Option Nat :=
  let n := byteAt bs 0
  let v := leInt (bytesAt bs 1 3)
  if paramInRange n v && carries n then (layerSet l n v, none) else (l, some n)

/-- Records taken in address order, each ignored one offering PARAM_RANGE. -/
def takeRecords (carries : Nat → Bool) (s : State) (l : Layer) : List (List Byte) → State × Layer
  | [] => (s, l)
  | r :: rest =>
    match takeRecord carries l r with
    | (l1, none) => takeRecords carries s l1 rest
    | (l1, some n) => takeRecords carries (offerParam s .paramRange n) l1 rest

/-- The whole records of a segment. -/
def wholeRecords (size : Nat) (bs : List Byte) : List (List Byte) :=
  pieces size bs.length (bs.take (bs.length / size * size))

/-- A trailing partial record gives PARTIAL and offers SEGMENT_INVALID (Table 9-2, row 3). -/
def segmentLoad (size : Nat) (bs : List Byte) : SegLoad := if bs.length % size = 0 then .loaded else .part

/-! ### Fixed entries (R86) -/

/-- One fixed entry taken, or skipped with its offer. During a load the table holds fixed entries alone, so that an
equal entry is a fixed one. -/
def takeFixed (s : State) (bs : List Byte) : State :=
  let skip := offer s ⟨.segmentInvalid, some (.position (leNat (bs.take 3))), false⟩
  match entryOfBytes true bs with
  | none => skip
  | some e =>
    if s.smp.table.any (sameEntry e) then skip
    else if 16 ≤ fixedCount s.smp.table then skip
    else s.withSmp { s.smp with table := placeEntry s.smp.table e }

/-! ### Segments (R175) -/

def segIndex : Segment → Nat
  | .common => 0
  | .variant0 => 1
  | .variant1 => 2
  | .variant2 => 3
  | .variant3 => 4
  | .system => 5
  | .sections => 6
  | .ice => 7
  | .winter => 8

def setSeg (p : Pst) (g : Segment) (x : SegLoad) : Pst := { p with segs := p.segs.set (segIndex g) x }

/-- The VARIANT segment of a variant. -/
def variantSeg : Nat → Segment
  | 0 => .variant0
  | 1 => .variant1
  | 2 => .variant2
  | _ => .variant3

/-- The segments of the load, in order (R175). -/
def loadOrder (p : Pst) : List Segment := [.common, variantSeg (strapVariant p), .system, .sections, .ice]

/-- The descriptor of a segment; one that the header has not given passes no row of Table 9-2. -/
def descriptor (p : Pst) (g : Segment) : Descriptor := p.descriptors.getD (segIndex g) ⟨4096, 4096⟩

/-- Rows 1 and 2 of Table 9-2: the load state and the fault of a segment that is not read. -/
def unread (d : Descriptor) : Option (SegLoad × FaultKind) :=
  if 2047 < d.first ∨ 2047 < d.last then some (.invalid, .segmentInvalid)
  else if d.last < d.first then some (.skipped, .segmentSkipped)
  else none

/-! ### The end of STARTING (R179) -/

/-- A breaker whose feedback still shows CLOSED goes to FAILED (R110). -/
def startBrk (s : State) (b : Brk) : State :=
  if (brk s b).feedback then
    offerBrk (putBrk s b (restBrk (brk s b) .failed)) .breakerOpenFail b
  else putBrk s b (restBrk (brk s b) .opened)

/-- The offers of the initial states: AUTO_DROP, not as collector (R46), P1 to P4 (log entry 17). -/
def offerDrops (s : State) : State := (initialDrops s).foldl (fun s c => offerChan s .autoDrop c) s

/-- The end of STARTING (R179, R170): the loaded table takes effect, and each block takes up its work. -/
def endStarting (s : State) : State :=
  let s1 := s.withPst { s.pst with live := true, load := .idle }
  let s2 := offerDrops (startBrk (startBrk s1 .bka) .bkd)
  let s3 := testAllStrips (retargetAll (allChans.foldl initialState s2))
  let s4 := s3.withIce { s3.ice with slot := if s3.ros.auxok then .idle else .held }
  let s5 := (restartIdent s4).withRun 0
  s5.withRoof (if anyCorrupt s5.flt then .safeHeld else .ready)

/-! ### The load (R174 to R178) -/

/-- The load falls back to the defaults, which are what the layers hold. -/
def fallBack (s : State) (r : DefaultsReason) : State :=
  endStarting (s.withPst { s.pst with fromEeprom := false, reason := some r })

/-- A group that fails a check reverts (R178). -/
def revertGroup (s : State) (g : Group) : State :=
  match failedCheck (layersView [s.pst.profile]) g with
  | none => s
  | some n =>
    let s1 := s.withPst { s.pst with
      profile := dropGroup s.pst.profile g, reverted := s.pst.reverted ++ [g] }
    offerParam s1 .segmentInvalid n

/-- The last segment has been taken: the check, and the end of STARTING. -/
def finishLoad (s : State) : State := endStarting (checkedGroups.foldl revertGroup s)

/-- Goes on with the segments still to come: the first that is to be read is waited for, and those that Table 9-2
leaves unread are passed over. -/
def advanceLoad (s : State) : List Segment → State
  | [] => finishLoad s
  | g :: rest =>
    match unread (descriptor s.pst g) with
    | some (x, k) => advanceLoad (offerPlain (s.withPst (setSeg s.pst g x)) k) rest
    | none => s.withPst { s.pst with load := .segment g rest }

/-- The nine descriptors of a header (Table 10-11). -/
def readDescriptors (bs : List Byte) : List Descriptor :=
  (pieces 4 9 (bs.drop 3)).map fun d => ⟨leNat (d.take 2), leNat (bytesAt d 2 2)⟩

/-- The marker and the format version are those of Table 10-11. -/
def headerOk (bs : List Byte) : Bool := byteAt bs 0 == 0xA5 && byteAt bs 1 == 0x3C && byteAt bs 2 == 1

/-- The read of bytes 0 to 38 ends (R174). -/
def headerRead (r : ReadResult) (s : State) : State :=
  if s.roofState = .starting ∧ s.pst.load = .header then
    match r with
    | .goesOn => s
    | .noAnswer => fallBack (offerPlain s .eepromNoAnswer) .noAnswer
    | .gave bs =>
      if headerOk bs then
        let p := { s.pst with fromEeprom := true, descriptors := readDescriptors bs }
        advanceLoad (s.withPst p) (loadOrder p)
      else fallBack (offerPlain s .headerMissing) .header
  else s

/-- The records of a segment that has been read are taken (R175, R176, R86). The model's choice (log entry 49): the
SEGMENT_INVALID of a trailing partial record is offered here, once the read has given its bytes. -/
def takeSegment (g : Segment) (bs : List Byte) (s : State) : State :=
  let size := if g = .sections then 8 else 4
  let x := segmentLoad size bs
  let s1 := s.withPst (setSeg s.pst g x)
  let s2 := if x = .part then offerPlain s1 .segmentInvalid else s1
  if g = .sections then (wholeRecords 8 bs).foldl takeFixed s2
  else
    let r := takeRecords (fun _ => true) s2 s2.pst.profile (wholeRecords 4 bs)
    r.1.withPst { r.1.pst with profile := r.2 }

/-- The segment whose read is waited for, and those still to come. During STARTING alone a load is in progress. -/
def loading (s : State) : Option (Segment × List Segment) :=
  if s.roofState = .starting then
    match s.pst.load with
    | .segment g rest => some (g, rest)
    | .idle | .header => none
  else none

/-- The EEPROM stops acknowledging during the load (R177). -/
def loadNoAnswer (s : State) : State :=
  let s1 := offerPlain s .eepromNoAnswer
  let s2 := s1.withPst { s1.pst with profile := [], segs := List.replicate 9 .notRead, reverted := [] }
  fallBack (s2.withSmp { s2.smp with table := s2.smp.table.filter fun e => !e.isFixed }) .noAnswer

/-- A segment read of the load ends with its bytes, or fails (R175, R177). -/
def segmentRead (r : ReadResult) (s : State) : State :=
  match loading s, r with
  | some (g, rest), .gave bs =>
    let d := descriptor s.pst g
    if bs.length = d.last + 1 - d.first then advanceLoad (takeSegment g bs s) rest else s
  | some _, .noAnswer => loadNoAnswer s
  | some _, .goesOn | none, _ => s

/-- The first and last byte address of the read that PST makes, if it makes one: of bytes 0 to 38, of a segment of the
load, or of the WINTER segment (R197). -/
def readUnderWay (s : State) : Option (Nat × Nat) :=
  let whole := fun (g : Segment) => some ((descriptor s.pst g).first, (descriptor s.pst g).last)
  if s.roofState = .starting then
    match s.pst.load with
    | .idle => none
    | .header => some (0, 38)
    | .segment g _ => whole g
  else match s.pst.winterState with
    | .reading | .cancelled => whole .winter
    | .off | .pending | .active | .ending => none

/-! ### Effects of a changed value -/

/-- Parameters on which the force targets depend (R49). -/
def forceParams : List Nat := [Par.fBaseAc, Par.fBaseDc, Par.kv, Par.fMin, Par.fMax, Par.scraperAdd]

/-- Parameters that recompute the outlook (R102). -/
def outlookParams : List Nat := [Par.mapEnable, Par.fixedEnable, Par.defaultSection, Par.lookaheadS]

/-- The effective value of a parameter differs between two states. -/
def effChanged (before s : State) (n : Nat) : Bool := eff before n != eff s n

/-- A change of a channel's class (R47). The model's choice (log entry 40): a channel that a change to or from ABSENT
leaves LOWERED has state_time from 0. -/
def classChanged (before s : State) (c : Chan) : State :=
  if chanClass before c = chanClass s c then s
  else
    let s1 :=
      if fitted s c = false then
        putChan s c { inState (chan s c) .lowered with lockout := none, dumpOn := false }
      else if fitted before c = false then
        let s2 := initialState s c
        if (chan s2 c).headok then s2 else offerChan s2 .autoDrop c
      else s
    retarget s1 c

/-- The effects of a change of layers that do not wait for the end of the event: classes, force targets and strips
(R47, R49, R140). -/
def applyChange (before s : State) : State :=
  let s1 := allChans.foldl (classChanged before) s
  let s2 := if forceParams.any (effChanged before s1) then retargetAll s1 else s1
  if effChanged before s2 Par.stripMax then testAllStrips s2 else s2

/-- What a changed value of a GENERAL parameter does at once (R73, R76, R80, R97, R102). -/
def generalEffects (n : Nat) (s : State) : State :=
  if n = Par.demandLifetimeMs then demandExpiry s
  else if n = Par.cabLapseMs then cabLapse s
  else if n = Par.converterLapseMs then converterRetest s
  else if n = Par.positionLapseS then positionLapse s
  else if outlookParams.contains n then newOutlook s
  else s

/-! ### PARAMETER READ and SET (R181 to R184) -/

/-- The effective value and its layer, as both answers report them. -/
def valueBytes (s : State) (n : Nat) : List Byte :=
  [BitVec.ofNat 8 n] ++ leBytesInt 3 (eff s n) ++ [BitVec.ofNat 8 (layerOf s.pst n)]

/-- PARAMETER READ (R181). -/
def parameterRead (payload : List Byte) (s : State) : State × Reply :=
  match paramRow (byteAt payload 0) with
  | none => refuse .range s
  | some r => (s, ⟨.done, valueBytes s r.number ++ leBytesInt 3 r.low ++ leBytesInt 3 r.high⟩)

/-- Row 4 of Table 9-6: with the value as the link value, the group's checks pass with the winter overlay as it stands
and with the winter layer left out. -/
def setConsistent (p : Pst) (n : Nat) (v : Int) : Bool :=
  let link := layerSet p.link n v
  let winter := if winterInForce p then p.winter else []
  checkedGroups.all fun g => (failedCheck (layersView [winter, link, p.profile]) g).isNone
    && (failedCheck (layersView [link, p.profile]) g).isNone

/-- Less than 10 ms has passed since the last PARAMETER SET answered DONE (Table 9-6, row 2). -/
def setTooSoon (s : State) : Bool :=
  match s.pst.lastSet with
  | some t => decide (s.now - t < 10)
  | none => false

/-- A PARAMETER SET is taken (R183). -/
def takeSet (n : Nat) (v : Int) (s : State) : State :=
  let s1 := s.withPst { s.pst with link := layerSet s.pst.link n v, lastSet := some s.now, settle := true }
  let s2 := if groupOf n = .line then restartIdent s1 else s1
  if effChanged s s2 n then generalEffects n (applyChange s s2) else s2

/-- PARAMETER SET (Table 9-6). -/
def parameterSet (payload : List Byte) (s : State) : State × Reply :=
  let n := byteAt payload 0
  let v := leInt (bytesAt payload 1 3)
  if roofQuiet s = false then refuse .notQuiet s
  else if setTooSoon s then refuse .settling s
  else if paramInRange n v = false then refuse .range s
  else if setConsistent s.pst n v = false then refuse .range s
  else
    let s1 := takeSet n v s
    (s1, ⟨.done, valueBytes s1 n⟩)

/-- 100 ms have passed since the last set (R184). -/
def settleDue (s : State) : Bool :=
  s.pst.settle && match s.pst.lastSet with
    | some t => decide (100 ≤ s.now - t)
    | none => true

/-- The settle interval ends (R184). -/
def settleEnd (s : State) : State :=
  if settleDue s then s.withPst { s.pst with settle := false } else s

/-! ### The winter overlay (R185, R186) -/

/-- An apply request in OFF: the read starts only for an EEPROM profile whose WINTER descriptor can be read. -/
def winterStart (s : State) : State :=
  if s.pst.fromEeprom then
    match unread (descriptor s.pst .winter) with
    | some (x, k) => offerPlain (s.withPst (setSeg s.pst .winter x)) k
    | none => s.withPst { s.pst with winterState := .reading }
  else s

/-- The apply request (Table 9-7). -/
def winterApply (s : State) : State :=
  match s.pst.winterState with
  | .off => winterStart s
  | .cancelled => s.withPst { s.pst with winterState := .reading }
  | .ending => s.withPst { s.pst with winterState := .active }
  | .reading | .pending | .active => s

/-- The remove request (Table 9-7). -/
def winterRemove (s : State) : State :=
  match s.pst.winterState with
  | .reading => s.withPst { s.pst with winterState := .cancelled }
  | .pending => s.withPst { s.pst with winterState := .off, winterHeld := [] }
  | .active => s.withPst { s.pst with winterState := .ending }
  | .off | .cancelled | .ending => s

/-- The records of a winter read are taken, with their offers (R186); that of a trailing partial record is made once the
read has given its bytes (log entry 49). -/
def winterTake (bs : List Byte) (s : State) : State × Layer :=
  let x := segmentLoad 4 bs
  let s1 := s.withPst (setSeg s.pst .winter x)
  let s2 := if x = .part then offerPlain s1 .segmentInvalid else s1
  takeRecords winterCarries s2 [] (wholeRecords 4 bs)

/-- A winter read ends with values (R185, R186). -/
def winterReadEnd (bs : List Byte) (s : State) : State :=
  let d := descriptor s.pst .winter
  if bs.length = d.last + 1 - d.first then
    let r := winterTake bs s
    match s.pst.winterState with
    | .reading => r.1.withPst { r.1.pst with winterHeld := r.2, winterState := .pending }
    | .cancelled => r.1.withPst { r.1.pst with winterState := .off }
    | .off | .pending | .active | .ending => s
  else s

/-- A winter read fails (Table 9-7). The model's choice (log entry 44): the WINTER segment keeps the load state it
had. -/
def winterReadFail (s : State) : State :=
  match s.pst.winterState with
  | .reading => offerPlain (s.withPst { s.pst with winterState := .off }) .winterUnread
  | .cancelled => s.withPst { s.pst with winterState := .off }
  | .off | .pending | .active | .ending => s

/-- A winter read ends with its bytes, or fails (R185, R197). -/
def winterRead (r : ReadResult) (s : State) : State :=
  match r with
  | .goesOn => s
  | .gave bs => winterReadEnd bs s
  | .noAnswer => winterReadFail s

/-- The held values of a failing group are discarded, with the offer of R178 (R186). -/
def winterCheck (s : State) (g : Group) : State :=
  match failedCheck (layersView [s.pst.winterHeld, s.pst.link, s.pst.profile]) g with
  | none => s
  | some n =>
    offerParam (s.withPst { s.pst with winterHeld := dropGroup s.pst.winterHeld g }) .segmentInvalid n

/-- The overlay's part of a force control period (R186): applied from PENDING, removed from ENDING. The groups whose values
an overlay can hold are checked in the order of log entry 53. -/
def winterPeriod (s : State) : State :=
  match s.pst.winterState with
  | .pending =>
    let s1 := [Group.panto, .ice].foldl winterCheck s
    applyChange s (s1.withPst { s1.pst with winter := s1.pst.winterHeld, winterHeld := [], winterState := .active })
  | .ending => applyChange s (s.withPst { s.pst with winter := [], winterState := .off })
  | .off | .reading | .cancelled | .active => s

/-- A force control period (R48, R50, R27): the targets, the loops, and then the overlay. -/
def forcePeriod (s : State) : State :=
  if s.roofState = .starting then s
  else winterPeriod (allChans.foldl forceLoop (retargetAll s))

/-! ### Resets (R171, R187) -/

/-- A reset is held: every block takes its reset values, the fault banks those given, and the input levels stand as
they are. The commands that wait are no state of the part and stay. -/
def holdReset (flt : Flt) (s : State) : State where
  pending := s.pending
  held := true
  roofState := .starting
  now := 0
  runMs := 0
  lsi := .reset
  pcu := .reset s.pcu.chans
  ros := .reset s.ros.auxok
  cau := .reset
  smp := .reset
  chg := .reset s.chg.bka.feedback s.chg.bkd.feedback
  ice := .reset
  flt := flt
  pst := .reset s.pst.straps
  lnk := .reset

/-- A reset is released (R171): roof time starts from 0, the straps are sampled, and the load begins; with STRAP4 at 0
it ends at once (R174). -/
def releaseReset (straps : BitVec 5) (s : State) : State :=
  let s1 := (((s.withHeld false).withNow 0).withRoof .starting).withPst (Pst.reset straps)
  if strapEeprom s1.pst then s1.withPst { s1.pst with load := .header }
  else fallBack s1 .strap

/-- SOFT RESET (R187): taken; the reset acts when the answer has been sent or withdrawn. -/
def softResetReq (s : State) : State × Reply := done (s.withLnk { s.lnk with soft := .answering })

/-- The soft reset acts as a pin reset, and is released at once (R187). -/
def softResetAct (straps : BitVec 5) (s : State) : State :=
  if s.lnk.soft = .due then releaseReset straps (holdReset s.flt s) else s

end Sys2Proof.Machine
end

