-- ==== Sys2Proof/Machine/StatusImage.lean ====
section
/-!
DEFINITION. The Roof Status Image as it crosses the link (R195, R196, Tables 10-5 to 10-8).
-/

namespace Sys2Proof.Machine

/-! ### Packing -/

/-- The bits of a byte from `pos` on. A field of `none` is one to which the layout gives no meaning: its bits are
those of `spare`. -/
def packFrom (spare : Nat) (pos : Nat) : List (Nat × Option Nat) → Nat
  | [] => 0
  | (w, v) :: rest =>
    (match v with
      | some n => n % 2 ^ w
      | none => spare / 2 ^ pos % 2 ^ w) * 2 ^ pos + packFrom spare (pos + w) rest

/-- A byte all of whose bits the layout gives. -/
def fullByte (fs : List (Nat × Nat)) : Byte := BitVec.ofNat 8 (packFrom 0 0 (fs.map fun f => (f.1, some f.2)))

/-- A byte with spare bits, which are free (log entry 3); `loc` is the byte's place. -/
def spareByte (loc : Nat) (fs : List (Nat × Option Nat)) : Byte :=
  BitVec.ofNat 8 (packFrom (Config.spareBits loc).toNat 0 fs)

def b1 (b : Bool) : Nat × Option Nat := (1, some (bitOf b))

/-- A whole byte that carries a code. -/
def codeByte (n : Nat) : Byte := BitVec.ofNat 8 n

/-- A count of time that stops before the code of absence (R196 (4)). -/
def capped (n : Nat) : Nat := min 0xFFFE n

/-- A duration of milliseconds in units of 10 ms, in two bytes. -/
def tenMs (ms : Nat) : List Byte := leBytes 2 (capped (ms / 10))

/-- The age of a moment, all ones when it is absent. -/
def ageBytes (s : State) (t : Option Nat) : List Byte :=
  leBytesOpt 2 (t.map fun m => capped ((s.now - m) / 10))

/-! ### Codes (R196 (2), Table 10-5) -/

def roofCode : RoofState → Nat
  | .starting => 0
  | .ready => 1
  | .check => 2
  | .safeHeld => 3

/-- NONE 0, or the system. -/
def optSysCode : Option Sys → Nat
  | none => 0
  | some t => sysCode t

def classCode : LineClass → Nat
  | .none => 0
  | .sys t => sysCode t
  | .invalid => 5

def kindCode : CombKind → Nat
  | .unknown => 0
  | .sys t => sysCode t
  | .neutral => 5
  | .separation => 6
  | .lowerZone => 7

def invalidCode : Option InvalidReason → Nat
  | none => 0
  | some .overRange => 1
  | some .negativeDc => 2
  | some .unmatched => 3

def checkCode : CheckResult → Nat
  | .notRun => 0
  | .pending => 1
  | .pass => 2
  | .fail => 3
  | .incomplete => 4

def chanClassCode : Option Cls → Nat
  | none => 0
  | some .ac => 1
  | some .dc => 2

def chanStateCode : ChanState → Nat
  | .lowered => 0
  | .raising => 1
  | .inContact => 2
  | .lowering => 3
  | .dropped => 4
  | .lockedOut => 5
  | .stuck => 6
  | .service => 7

def roleCode : Role → Nat
  | .none => 0
  | .collector => 1
  | .scraper => 2

def lockoutCode : Option Lockout → Nat
  | none => 0
  | some .headPressure => 1
  | some .heightSensor => 2

def handoverCode : Handover → Nat
  | .none => 0
  | .toService => 1
  | .toLoop => 2

def activeCode : Option Vcu → Nat
  | none => 0
  | some .a => 1
  | some .b => 2

def convCode : ConvState → Nat
  | .off => 0
  | .ready => 1
  | .running => 2
  | .fault => 3

def brkCode : BrkState → Nat
  | .opened => 0
  | .closing => 1
  | .closed => 2
  | .opening => 3
  | .failed => 4

/-- A sequence kind; NONE is 0. -/
def seqKindCode : SeqKind → Nat
  | .close => 1
  | .open => 2
  | .roofDown => 3
  | .changeover => 4
  | .neutralPass => 5
  | .lowerPass => 6

def originCode : Origin → Nat
  | .vcuA => 0
  | .vcuB => 1
  | .converter => 2
  | .outlook => 3
  | .protection => 4

def stageCode : Stage → Nat
  | .shed => 0
  | .opening => 1
  | .lowering => 2
  | .waitSection => 3
  | .raising => 4
  | .identify => 5
  | .converter => 6
  | .closing => 7

def phaseCode : WaitPhase → Nat
  | .approach => 0
  | .inside => 1

def awaitedCode : Awaited → Nat
  | .neutral => 0
  | .separation => 1
  | .lowerZone => 2

def reasonCode : Reason → Nat
  | .roofDown => 0
  | .cabRelease => 1
  | .cabLapse => 2
  | .demandExpiry => 3
  | .breakerOpen => 4
  | .protection => 5
  | .roofSafe => 6
  | .channelFailed => 7
  | .noDemand => 8
  | .noChannel => 9
  | .noTarget => 10
  | .deadRun => 11
  | .systemMismatch => 12
  | .invalidSystem => 13
  | .converterTimeout => 14
  | .closeCondition => 15
  | .closeFailed => 16

def segCode : SegLoad → Nat
  | .notRead => 0
  | .loaded => 1
  | .part => 2
  | .skipped => 3
  | .invalid => 4

def defaultsCode : Option DefaultsReason → Nat
  | none => 0
  | some .strap => 1
  | some .noAnswer => 2
  | some .header => 3

def modeCode : IceMode → Nat
  | .off => 0
  | .auto => 1
  | .forced => 2

def levelCode : IceLevel → Nat
  | .clear => 0
  | .alert => 1
  | .icing => 2

def winterCode : WinterState → Nat
  | .off => 0
  | .reading => 1
  | .cancelled => 2
  | .pending => 3
  | .active => 4
  | .ending => 5

/-- A fault kind's position among its own bank's kinds in Table 8-3. -/
def faultCode : FaultKind → Nat
  | .frameCrc | .arc | .saturation | .shedTimeout | .stripOvertemp | .positionJump | .segmentSkipped => 0
  | .frameFormat | .forceRange | .lossOfLine | .breakerTripped | .auxLost | .positionLapse | .paramRange => 1
  | .unknownSource | .raiseTimeout | .invalidSystem | .converterLost | .ambientSensor | .sectionConflict
  | .segmentInvalid => 2
  | .cabLapse | .noWire | .lineMismatch | .breakerCloseFail | .winterUnread => 3
  | .serviceLapse | .heightSensor | .checkFail | .changeMismatch | .eepromNoAnswer => 4
  | .autoDrop | .deadRun | .headerMissing => 5
  | .lowerTimeout | .converterTimeout => 6
  | .breakerOpenFail => 7
  | .breakerUncommanded => 8

/-! ### Page 0 (Table 10-6) -/

/-- The remaining lifetime of the demand (R74). -/
def demandLeft (s : State) : Option Nat :=
  s.cau.demand.map fun d => capped (effNat s Par.demandLifetimeMs - (s.now - d.refresh))

def brkBytes (loc : Nat) (r : Breaker) : List Byte :=
  [spareByte loc [(3, some (brkCode r.state)), b1 r.closeCoil, b1 r.holdCoil, b1 r.feedback, (2, none)],
   codeByte (min 254 (r.opTime / 2))]

def bankByte (loc : Nat) (b : Bank) : Byte :=
  let r := b.record
  spareByte loc [b1 r.isSome, b1 (r.any fun x => kindUncorrected x.kind), b1 (bankCorrupt b), b1 b.counterOverflow,
    (4, none)]

/-- The nine load states, three bits each from bit 0 of the first byte; five spare bits follow. -/
def segBytes (p : Pst) : List Byte :=
  let n := p.segs.foldr (fun x acc => segCode x + 8 * acc) 0
  leBytes 3 n ++ [spareByte 36 [(3, some (n / 2 ^ 24)), (5, none)]]

def reverted (p : Pst) (g : Group) : Bool := p.reverted.contains g

/-- Page 0 part 0, after the part number: the roof summary. -/
def page00 (s : State) : List Byte :=
  [codeByte (roofCode s.roofState), codeByte (stationAddr s.pst),
   spareByte 5 [(2, some (strapVariant s.pst)), b1 (strapEeprom s.pst), b1 s.pst.fromEeprom,
     (2, some (defaultsCode s.pst.reason)), (2, none)],
   fullByte [(2, activeCode s.cau.active), (1, bitOf (leadingEnd2 s)), (1, bitOf s.cau.demand.isSome),
     (1, bitOf (s.cau.demand.any fun d => d.origin == .b)), (1, bitOf s.chg.shed), (1, bitOf (faultLine s)),
     (1, bitOf s.pst.settle)]]
  ++ leBytesOpt 2 (demandLeft s)
  ++ ageBytes s s.cau.actA ++ ageBytes s s.cau.actB ++ ageBytes s s.cau.actTool
  ++ [spareByte 15 [(2, some (convCode s.cau.conv.state)), (3, some (optSysCode s.cau.conv.sys)),
       b1 s.cau.conv.fresh, (2, none)]]
  ++ ageBytes s s.cau.conv.reportTime
  ++ brkBytes 18 s.chg.bka ++ brkBytes 20 s.chg.bkd
  ++ [spareByte 22 [(3, some (optSysCode s.chg.target)), (3, some (optSysCode s.chg.inForce)), (2, none)],
      codeByte (classCode s.lsi.measured)]
  ++ ageBytes s s.pst.lastSet
  ++ [bankByte 26 s.flt.link, bankByte 27 s.flt.panto, bankByte 28 s.flt.line, bankByte 29 s.flt.change,
      bankByte 30 s.flt.ice, bankByte 31 s.flt.sectionMap, bankByte 32 s.flt.profile]
  ++ segBytes s.pst
  ++ [spareByte 37 [b1 (reverted s.pst .general), b1 (reverted s.pst .panto), b1 (reverted s.pst .line),
       b1 (reverted s.pst .change), b1 (reverted s.pst .ice), (3, none)]]

/-! ### Page 0 part 1: the sequence record and the outcome list -/

/-- The sequence record; the fields of kind NONE are absent (R115), which is all ones. -/
def seqBytes : Option Sequence → List Byte
  | none =>
    [spareByte 103 [(3, some 0), (3, some 7), (1, some 1), (1, none)],
     spareByte 104 [(4, some 15), (2, some 3), (2, none)], 0xFF#8]
      ++ List.replicate 8 0xFF#8
  | some q =>
    [spareByte 103 [(3, some (seqKindCode q.kind)), (3, some (originCode q.origin)), b1 q.lowerAll, (1, none)],
     spareByte 104 [(4, some (stageCode q.stage)), (2, some (optBits 2 (q.phase.map phaseCode))), (2, none)],
     fullByte [(3, optBits 3 (q.target.map sysCode)), (3, optSysCode q.fromSys),
       (2, optBits 2 (q.awaited.map awaitedCode))]]
      ++ tenMs q.stageTime ++ leBytesOpt 2 (q.identifyTime.map fun t => capped (t / 10))
      ++ leBytes 4 q.startTime.toNat

/-- The outcome and its reason, absent for COMPLETE. -/
def resultCode : Result → Nat × Nat
  | .complete => (0, 0xFF)
  | .aborted r => (1, reasonCode r)
  | .halted r => (2, reasonCode r)

def endedBytes (loc : Nat) (e : Ended) : List Byte :=
  [spareByte loc [(3, some (seqKindCode e.kind)), (3, some (originCode e.origin)), (2, none)],
   spareByte (loc + 1) [(3, some (optBits 3 (e.target.map sysCode))), (2, some (resultCode e.result).1), (3, none)],
   codeByte (resultCode e.result).2, fullByte [(4, stageCode e.stage), (4, e.sub)]]
    ++ leBytes 4 e.time.toNat

/-- Entry i of the outcome list; an empty entry is all ones. -/
def outcomeBytes (es : List Ended) (i : Nat) : List Byte :=
  match es[i]? with
  | some e => endedBytes (114 + 8 * i) e
  | none => List.replicate 8 0xFF#8

def page01 (s : State) : List Byte :=
  seqBytes s.chg.seq ++ outcomeBytes s.chg.ended 0 ++ outcomeBytes s.chg.ended 1 ++ outcomeBytes s.chg.ended 2
    ++ outcomeBytes s.chg.ended 3

/-! ### Page 1 (Table 10-7) -/

def outBytes (loc : Nat) (o : Out) : List Byte :=
  [spareByte loc [b1 (o.owner == .service), (2, some (handoverCode o.handover)), b1 o.cancelled, (4, none)]]
    ++ leBytes 2 o.applied ++ leBytes 2 o.buffered

def page1 (s : State) (c : Chan) : List Byte :=
  let r := chan s c
  let z := s.ros.zones.get c
  let loc := 200 + 100 * chanIndex c
  [spareByte (loc + 3) [(2, some (chanClassCode (chanClass s c))), (3, some (chanStateCode r.state)),
     (2, some (roleCode r.role)), (1, none)],
   spareByte (loc + 4) [b1 r.heightValid, b1 r.arcArmed, b1 r.dumpOn, b1 r.headok, (2, some (lockoutCode r.lockout)),
     (2, none)]]
  ++ leBytes 2 r.heightMm ++ leBytes 2 r.forceN ++ leBytesInt 2 r.forceTarget ++ leBytesInt 3 r.integrator
  ++ tenMs r.stateTime ++ leBytes 2 (capped r.lowForceTime) ++ leBytesInt 2 (mountOffset s c)
  ++ outBytes (loc + 20) (valve s c)
  ++ outBytes (loc + 25) z.p1 ++ outBytes (loc + 30) z.p2 ++ outBytes (loc + 35) z.p3 ++ outBytes (loc + 40) z.p4
  ++ [spareByte (loc + 45) [(3, some ((s.pcu.preferred.map chanNumber).getD 0)), b1 s.pcu.collectorHold,
       b1 s.pcu.scraperHold, (3, none)]]

/-! ### Pages 2 and 3 (Table 10-8) -/

def page2 (s : State) : List Byte :=
  let w := s.lsi.record
  leBytes 2 w.count
  ++ [spareByte 605 [(2, some (optBits 2 (w.source.map (·.val)))), (5, none), b1 w.source.isSome]]
  ++ leBytes 2 w.sat ++ leBytesInt 3 w.meanV ++ leBytes 2 w.rmsV ++ leBytes 2 w.crossings ++ leBytes 3 w.fcHz
  ++ [spareByte 618 [(3, some (classCode w.cls)), (2, some (invalidCode w.reason)), (3, none)],
      codeByte (optBits 8 (s.lsi.candidate.map classCode)), codeByte s.lsi.runCount,
      codeByte (classCode s.lsi.measured), codeByte (optBits 8 (s.lsi.checkPattern.map (·.val))),
      codeByte (checkCode s.lsi.checkResult)]

/-- Page 3 part 0: the position record, the table counts and the outlook. -/
def page30 (s : State) : List Byte :=
  let p := s.smp.pos
  let o := s.smp.outlook
  [spareByte 703 [b1 p.valid, b1 p.stale, b1 p.speedClamped, b1 p.minus, b1 o.valid, b1 o.conflict, b1 o.iceHere,
    (1, none)]]
  ++ leBytes 3 p.positionM ++ leBytes 2 p.remainderMm ++ [codeByte p.track] ++ leBytes 2 p.speed
  ++ ageBytes s p.reportTime ++ leBytes 2 p.travelMm
  ++ [codeByte (fixedCount s.smp.table), codeByte (routeCount s.smp.table), codeByte (kindCode o.kind),
      codeByte (optSysCode (kindSystem o.kind))]
  ++ leBytes 2 o.lookaheadM
  ++ [codeByte (optBits 8 (o.next.map kindCode)), codeByte (optBits 8 (o.next.map fun k => optSysCode (kindSystem k)))]
  ++ leBytesOpt 2 o.distance ++ [codeByte (optBits 8 (o.following.map sysCode))]

/-- The running slot, if one runs. -/
def runningSlot : SlotState → Option Slot
  | .running slot => some slot
  | .idle | .held => none

def slotCode : SlotState → Nat
  | .idle => 0
  | .running _ => 1
  | .held => 2

/-- The zones of the running slot in sixteen bytes, unused ones all ones. -/
def zoneBytes (zs : List (Fin 16)) : List Byte :=
  ((zs.map fun z => codeByte z.val) ++ List.replicate 16 0xFF#8).take 16

/-- Page 3 part 1: the ice record. The model's choice (log entry 19): the number of zones is 0 while no slot runs. -/
def page31 (s : State) : List Byte :=
  let i := s.ice
  let slot := runningSlot i.slot
  [fullByte [(2, modeCode i.mode), (2, levelCode i.level), (1, bitOf i.scraperRequest), (1, bitOf i.winterRequest),
     (1, bitOf i.ambientValid), (1, bitOf i.watch)],
   spareByte 804 [(2, some (slotCode i.slot)), (1, some (optBits 1 (slot.map fun x => bitOf x.rate2x))),
     (3, some ((i.pointer.map chanNumber).getD 0)), (2, none)],
   codeByte (winterCode s.pst.winterState)]
  ++ leBytes 2 i.index ++ leBytes 2 i.arcCount ++ leBytesInt 2 i.ambient
  ++ leBytesInt 2 i.strip.p1 ++ leBytesInt 2 i.strip.p2 ++ leBytesInt 2 i.strip.p3 ++ leBytesInt 2 i.strip.p4
  ++ [spareByte 820 [b1 i.stripHot.p1, b1 i.stripHot.p2, b1 i.stripHot.p3, b1 i.stripHot.p4, (4, none)],
      fullByte [(4, i.counters.p1), (4, i.counters.p2)], fullByte [(4, i.counters.p3), (4, i.counters.p4)],
      codeByte (optBits 8 (slot.map fun x => chanIndex x.group))]
  ++ leBytesOpt 2 (slot.map (·.duty)) ++ leBytesOpt 2 (slot.map fun x => capped (x.time / 10))
  ++ [codeByte ((slot.map fun x => x.zones.length).getD 0)] ++ zoneBytes ((slot.map (·.zones)).getD [])

/-! ### STATUS READ (R195) -/

/-- The page part that a page and a part name, if they name one. -/
def pagePart (s : State) (page part : Nat) : Option (List Byte) :=
  match page, part with
  | 0, 0 => some (page00 s)
  | 0, 1 => some (page01 s)
  | 1, 0 => some (page1 s .p1)
  | 1, 1 => some (page1 s .p2)
  | 1, 2 => some (page1 s .p3)
  | 1, 3 => some (page1 s .p4)
  | 2, 0 => some (page2 s)
  | 3, 0 => some (page30 s)
  | 3, 1 => some (page31 s)
  | _, _ => none

/-- STATUS READ (R195). -/
def statusRead (payload : List Byte) (s : State) : State × Reply :=
  let page := byteAt payload 0
  let part := byteAt payload 1
  match pagePart s page part with
  | some bs => (s, ⟨.done, [codeByte page, codeByte part] ++ bs⟩)
  | none => refuse .range s

end Sys2Proof.Machine
end

