-- ==== Sys2Proof/Machine/Banks.lean ====
section
/-!
DEFINITION. Chapter 8 on the link: FAULT READ, FAULT CLEAR and THRESHOLD SET.
-/

namespace Sys2Proof.Machine

def ctxCode : Ctx → Nat × Nat
  | .channel c => (0, chanNumber c)
  | .breaker .bka => (1, 0)
  | .breaker .bkd => (1, 1)
  | .position m => (2, m)
  | .param n => (3, n)
  | .station a => (4, a)

/-- The bytes of a bank from the record flags to the mask (Table 10-9). An empty record has its cleared values: kind
and context absent, stamp_time 0 and stamp_position absent (R154). -/
def faultBytes (loc : Nat) (b : Bank) : List Byte :=
  let r := b.record
  [spareByte (loc + 2) [b1 r.isSome, b1 (r.any (·.overflow)), b1 (r.any fun x => kindUncorrected x.kind),
     b1 (r.any (·.enabled)), b1 (r.any fun x => x.ctx.isSome), b1 (bankCorrupt b),
     b1 (r.any fun x => x.stampPos.isSome), (1, none)],
   codeByte (optBits 8 (r.map fun x => faultCode x.kind)),
   codeByte (optBits 8 ((r.bind (·.ctx)).map fun x => (ctxCode x).1))]
  ++ leBytesOpt 3 ((r.bind (·.ctx)).map fun x => (ctxCode x).2)
  ++ leBytes 4 ((r.map fun x => x.stampTime.toNat).getD 0)
  ++ leBytesOpt 3 (r.bind (·.stampPos))
  ++ leBytes 2 b.counter
  ++ [spareByte (loc + 17) [b1 b.counterOverflow, b1 b.countEnable, b1 b.maskShed, b1 b.maskConv, (4, none)]]

/-- FAULT READ (R164). -/
def faultRead (payload : List Byte) (s : State) : State × Reply :=
  let n := byteAt payload 0
  match bankOfCode n with
  | none => refuse .range s
  | some b => (s, ⟨.done, codeByte n :: faultBytes (900 + 20 * n) (bank s.flt b)⟩)

/-- The cause of a bank's roof_corrupt persists (R166). -/
def persists (s : State) (b : BankId) : Bool :=
  match b with
  | .panto => allChans.any fun c => (chan s c).state == .stuck
  | .change => [Brk.bka, .bkd].any fun k => (brk s k).state == .failed && (brk s k).feedback
  | .link | .line | .ice | .sectionMap | .profile => false

/-- A clear that leaves no roof_corrupt returns the roof from SAFE_HELD to READY (R167). -/
def leaveSafeHeld (s : State) : State :=
  if s.roofState = .safeHeld ∧ anyCorrupt s.flt = false then s.withRoof .ready else s

/-- FAULT CLEAR (Table 8-4). The model's reading (log entry 52): the last sentence of R108 is row 2 of Table 8-4, so that
a CHANGE record without roof_corrupt is cleared also while a breaker is FAILED with its feedback CLOSED. -/
def faultClear (payload : List Byte) (s : State) : State × Reply :=
  match bankOfCode (byteAt payload 0) with
  | none => refuse .range s
  | some b =>
    if bankCorrupt (bank s.flt b) = true ∧ persists s b = true then refuse .persists s
    else done (leaveSafeHeld (s.withFlt (putBank s.flt b { bank s.flt b with record := none })))

/-- The mask bits of a THRESHOLD SET that name class E kinds of the bank (R157, R159). -/
def maskOf (b : BankId) (m bit : Nat) : Bool := b == .change && m / 2 ^ bit % 2 == 1

/-- THRESHOLD SET (R159). -/
def thresholdSet (payload : List Byte) (s : State) : State × Reply :=
  let t := leNat (bytesAt payload 1 2)
  let m := byteAt payload 3
  match bankOfCode (byteAt payload 0) with
  | none => refuse .range s
  | some b =>
    if t = 0 ∨ 4095 < t then refuse .range s
    else done (s.withFlt (putBank s.flt b { bank s.flt b with
      counter := 4095 - t, counterOverflow := false, countEnable := true
      maskShed := maskOf b m 0, maskConv := maskOf b m 1 }))

end Sys2Proof.Machine
end

