-- ==== Sys2Proof/Machine/IceUnit.lean ====
section
/-!
DEFINITION. Chapter 7 at its edges: ICE MODE, the ambient reading, AUXOK, the expiry of a slot and the index update.
-/

namespace Sys2Proof.Machine

/-- ICE MODE (R133). The re-tests it causes are made at the end of the event. -/
def iceModeReq (payload : List Byte) (s : State) : State × Reply :=
  match iceModeOfCode (byteAt payload 0) with
  | none => refuse .range s
  | some m => done (s.withIce { s.ice with mode := m })

/-- A valid ambient reading (R134). -/
def ambientOk (t : Int) : Bool := decide (-600 ≤ t) && decide (t ≤ 1000)

/-- An ambient reading (R134). -/
def ambientReading (t : Int) (s : State) : State :=
  if ambientOk t then s.withIce { s.ice with ambient := t, ambientValid := true, ambientArmed := true }
  else if s.ice.ambientValid && s.ice.ambientArmed then
    offerPlain (s.withIce { s.ice with ambientArmed := false }) .ambientSensor
  else s

/-- AUXOK goes inactive: every zone is cut, and after STARTING the slot is HELD and AUX_LOST offered (R64, R147). -/
def auxokLost (s : State) : State :=
  if s.ros.auxok then
    let s1 := mapZones (s.withRos { s.ros with auxok := false }) cut
    if s.roofState = .starting then s1
    else offerPlain (s1.withIce { s1.ice with slot := .held }) .auxLost
  else s

/-- AUXOK returns: the slot leaves HELD. The slot start of R147 follows at the end of the event, where the set of
eligible zones, empty while AUXOK was inactive, is found to have changed. -/
def auxokReturn (s : State) : State :=
  let s1 := s.withRos { s.ros with auxok := true }
  if s.ice.slot = .held then s1.withIce { s1.ice with slot := .idle } else s1

/-- slot_time of the running slot has reached slot_ms (R145). -/
def slotExpired (s : State) : Bool :=
  match s.ice.slot with
  | .running slot => decide (effNat s Par.slotMs ≤ slot.time)
  | .idle | .held => false

/-- The expiry of a slot is a slot start (R142, R145). -/
def slotExpiry (s : State) : State := if slotExpired s then slotStart s else s

/-- ICE asks PST for the winter overlay or its removal, according to the level entered (R138). -/
def winterAsk (before : IceLevel) (s : State) : State :=
  if s.ice.level = before then s
  else match s.ice.level with
    | .icing => winterApply (s.withIce { s.ice with winterRequest := true })
    | .clear => winterRemove (s.withIce { s.ice with winterRequest := false })
    | .alert => s

/-- An index update (R136, R137): the new index, the arcs used up, the level, and the hand-off to PST. ICE takes no
index update during STARTING. -/
def iceUpdate (s : State) : State :=
  if s.roofState = .starting then s
  else
    let i := nextIndex s
    winterAsk s.ice.level
      (s.withIce { s.ice with index := i, arcCount := 0, level := nextLevel s s.ice.level i })

end Sys2Proof.Machine
end

