-- ==== Sys2Proof/Machine/Identification.lean ====
section
/-!
DEFINITION. Chapter 1: the sample, the publication of a window, and the sense check.
-/

namespace Sys2Proof.Machine

/-! ### Samples (R1, R2) -/

/-- A sample joins the filling window: the divider's code or, in CHECK, the pattern's (R1, R17). At its 1,200th
sample the window passes to evaluation and the next begins (R2). -/
def takeSample (code : Int) (s : State) : State :=
  if s.roofState = .starting then s else
  let x := match sampleSource s with
    | some p => patternSample p s.lsi.filling.samples.length
    | none => code
  let w := s.lsi.filling.add x
  if windowLength ≤ w.samples.length then
    s.withLsi { s.lsi with filling := Window.empty, evaluating := some w }
  else s.withLsi { s.lsi with filling := w }

/-! ### Publication (R3, R11 to R14, R19, R124) -/

/-- The last-window record of a window (Table 1-1). -/
def windowRecord (s : State) (w : Window) : WindowRecord :=
  let meanV := 2 * meanM w.s1
  let rmsV := 2 * rootOf (varianceV w)
  let d := crossings (meanM w.s1) (eff s Par.hysteresis) w
  let k := classify s w.sat meanV rmsV (frequency d)
  { count := nextCount s.lsi.record.count, source := sampleSource s, sat := w.sat, meanV := meanV, rmsV := rmsV,
    crossings := d.count, fcHz := frequency d, cls := k.1, reason := k.2 }

/-- The sense check result is decided at the first qualified result after entry to CHECK (R19). -/
def decideCheck (k : LineClass) (s : State) : State :=
  match s.lsi.checkPattern with
  | some p =>
    if s.roofState = .check ∧ s.lsi.checkResult = .pending then
      if k = expectedClass p then s.withLsi { s.lsi with checkResult := .pass }
      else offerPlain (s.withLsi { s.lsi with checkResult := .fail }) .checkFail
    else s
  | none => s

/-- The offers of R14 at a qualified result, with a breaker CLOSED (Table 1-6). -/
def examineLine (k : LineClass) (s : State) : State :=
  match closedBrk s with
  | none => s
  | some b =>
    match k with
    | .none => offerBrk s .lossOfLine b
    | .invalid => offerBrk s .invalidSystem b
    | .sys t => if s.chg.inForce = some t then s else offerBrk s .lineMismatch b

/-- A qualified result reaches the IDENTIFY stage (R124). -/
def identifyResult (k : LineClass) (s : State) : State :=
  match s.chg.seq with
  | none => s
  | some q =>
    match q.stage, q.target with
    | .identify, some t =>
      match k with
      | .none => s
      | .invalid => haltThenOffer s .invalidSystem .invalidSystem (brkOf (classOf t))
      | .sys u =>
        if u = t then putSeq s { q with exit := some .next }
        else offerBrk s .changeMismatch (brkOf (classOf t))
    | _, _ => s

/-- A qualified result is examined and handed on. -/
def handResult (k : LineClass) (s : State) : State := identifyResult k (examineLine k (decideCheck k s))

/-- The publication of an evaluated window, as one event (R3). -/
def publishWindow (s : State) : State :=
  match s.lsi.evaluating with
  | none => s
  | some w =>
    let r := windowRecord s w
    let run := nextRun s.lsi.candidate s.lsi.runCount r.cls
    let qualified := decide (runRequirement s r.cls ≤ run)
    let s1 := s.withLsi { s.lsi with
      evaluating := none, record := r, candidate := some r.cls, runCount := run
      measured := if qualified then r.cls else s.lsi.measured }
    let s2 := if 0 < w.sat then offerPlain s1 .saturation else s1
    if qualified then handResult r.cls s2 else s2

/-! ### Sense check (R15, R16, R20) -/

/-- The entry to CHECK (R16, R78). -/
def enterCheck (p : Fin 4) (s : State) : State :=
  let s1 := endDemand (s.withRoof .check)
  let s2 := s1.withPcu { s1.pcu with collectorHold := false }
  restartIdent (s2.withLsi { s2.lsi with checkPattern := some p, checkResult := .pending })

/-- SENSE CHECK START (Table 1-10). -/
def senseCheckStart (payload : List Byte) (s : State) : State × Reply :=
  let p := byteAt payload 0
  if s.roofState = .check then refuse .checkMode s
  else if s.roofState = .safeHeld then refuse .safeHeld s
  else if roofQuiet s = false then refuse .notQuiet s
  else if h : p < 4 then done (enterCheck ⟨p, h⟩ s)
  else refuse .range s

/-- SENSE CHECK END (R20). -/
def senseCheckEnd (s : State) : State × Reply :=
  if s.roofState = .check then done (leaveCheck (s.withRoof .ready)) else done s

end Sys2Proof.Machine
end

