-- ==== Sys2Proof/Machine/Outputs.lean ====
section
/-!
DEFINITION. Chapter 3: the period boundaries, and the taking, driving and returning of outputs by the Service Tool.
-/

namespace Sys2Proof.Machine

/-- The record of an output. -/
def outOf (s : State) : Output → Out
  | .valve c => valve s c
  | .zone z => zoneOut s z

/-- An output's record replaced. -/
def putOut (s : State) : Output → Out → State
  | .valve c, o => putValve s c o
  | .zone z, o => putZone s z o

/-- The channel of an output. -/
def outChan : Output → Chan
  | .valve c => c
  | .zone z => zoneHead z

/-! ### OUTPUT TAKE (R57) -/

/-- Row 8 of Table 3-4: a channel of the other class is in SERVICE or has its valve in handover TO_SERVICE. -/
def otherClassService (s : State) (c : Chan) : Bool :=
  allChans.any fun d => inService s d && fitted s d && chanClass s d != chanClass s c

/-- The answer of rows 7 and 8 of Table 3-4, which concern valves alone. -/
def takeValveRefusal (s : State) : Output → Option AnswerCode
  | .valve c =>
    if (chan s c).state = .lockedOut then some .locked
    else if (chan s c).state ≠ .lowered then some .noChannel
    else if otherClassService s c then some .busy
    else none
  | .zone _ => none

/-- Rows 4 to 9 of Table 3-4. -/
def takeOutput (o : Output) (s : State) : State × Reply :=
  let r := outOf s o
  if r.owner = .service ∧ r.handover = .none then done s
  else if r.handover ≠ .none then refuse .busy s
  else if fitted s (outChan o) = false then refuse .noChannel s
  else match takeValveRefusal s o with
    | some c => refuse c s
    | none => done (putOut s o (startHandover r .toService))

/-- OUTPUT TAKE (Table 3-4). -/
def outputTake (payload : List Byte) (s : State) : State × Reply :=
  if s.roofState = .safeHeld then refuse .safeHeld s
  else if roofQuietService s = false then refuse .notQuiet s
  else match outputOfCode (byteAt payload 0) with
    | none => refuse .range s
    | some o => takeOutput o s

/-! ### OUTPUT DRIVE (R59) -/

/-- The answer of rows 5 to 7 of Table 3-5, or none. -/
def driveRefusal (s : State) (duty : Nat) : Output → Option Reply
  | .valve c => if (chan s c).dumpOn then some (conditionOf subDumpOn) else none
  | .zone z =>
    if 0 < duty ∧ s.ros.auxok = false then some (conditionOf subAuxOff)
    else if 0 < duty ∧ (zoneOut s z).buffered = 0 ∧ budgetFull s = true then some (plain .range)
    else none

/-- Rows 3 to 8 of Table 3-5. -/
def driveOutput (o : Output) (duty : Nat) (s : State) : State × Reply :=
  let r := outOf s o
  if r.handover ≠ .none then refuse .busy s
  else if r.owner = .loop then (s, conditionOf subNotService)
  else match driveRefusal s duty o with
    | some a => (s, a)
    | none => done (putOut s o { r with buffered := duty })

/-- OUTPUT DRIVE (Table 3-5). -/
def outputDrive (payload : List Byte) (s : State) : State × Reply :=
  let duty := leNat (bytesAt payload 1 2)
  match outputOfCode (byteAt payload 0) with
  | none => refuse .range s
  | some o => if 1000 < duty then refuse .range s else driveOutput o duty s

/-! ### OUTPUT RETURN and the service lapse (R60, R61) -/

/-- Every output is returned (Table 3-6). -/
def returnAll (s : State) : State := mapZones (mapValves s returnOut) returnOut

/-- OUTPUT RETURN (R60). -/
def outputReturn (payload : List Byte) (s : State) : State × Reply :=
  let n := byteAt payload 0
  if n = 0xFF then done (returnAll s)
  else match outputOfCode n with
    | none => refuse .range s
    | some o => done (putOut s o (returnOut (outOf s o)))

/-- The output is owned by SERVICE or being taken (R61). -/
def withTool (o : Out) : Bool := o.owner == .service || o.handover == .toService

/-- Some output is with the Service Tool. -/
def anyWithTool (s : State) : Bool :=
  allChans.any (fun c => withTool (valve s c)) || allZones.any fun z => withTool (zoneOut s z)

/-- The service lapse has come: once for each silence of the tool (R61). -/
def serviceLapseDue (s : State) : Bool :=
  !s.cau.serviceLapsed && anyWithTool s &&
    match s.cau.actTool with
    | some t => decide (s.cau.serviceLapseMs ≤ s.now - t)
    | none => false

/-- A service lapse (R61). -/
def serviceLapse (s : State) : State :=
  if serviceLapseDue s then
    let s1 := s.withCau { s.cau with serviceLapsed := true }
    returnAll (offer s1 ⟨.serviceLapse, some (.station (stationAddress .tool)), false⟩)
  else s

/-! ### Safe periods (R58, R60) -/

/-- The end of a take's safe period. -/
def takeEnds (o : Output) (s : State) : State :=
  let r := outOf s o
  let back := { r with handover := Handover.none, cancelled := false }
  let mine := { r with owner := Owner.service, handover := Handover.none }
  if r.cancelled then putOut s o back
  else match o with
    | .zone _ => putOut s o mine
    | .valve c =>
      if (chan s c).state = .lowered then putChan (putOut s o mine) c (inState (chan s c) .service)
      else putOut s o back

/-- The end of a return's safe period: a valve's channel leaves SERVICE (R36). -/
def returnEnds (o : Output) (s : State) : State :=
  let s1 := putOut s o { outOf s o with owner := .loop, handover := .none }
  match o with
  | .valve c => leaveService s1 c
  | .zone _ => s1

/-- The safe period of an output's handover ends: the boundary at its end has been taken. -/
def safePeriodEnd (o : Output) (s : State) : State :=
  let r := outOf s o
  if r.safeLeft = 0 then
    match r.handover with
    | .none => s
    | .toService => takeEnds o s
    | .toLoop => returnEnds o s
  else s

end Sys2Proof.Machine
end

