-- ==== Sys2Proof/Machine/Settle.lean ====
section
/-!
DEFINITION. What follows within every event once its own effect is made: the conditions that the manual says act "at
the moment the last of them comes to hold" or "in the same event". A command's meaning is its effect, then `settle`.
-/

namespace Sys2Proof.Machine

/-- Heater parameters whose change is a slot start (Table 7-12). -/
def slotParams : List Nat :=
  [Par.heaterBudget, Par.slotMs, Par.baseDuty, Par.rateTrack, Par.rateFixed2x, Par.tCold2x]

/-- order or group_size has changed: every counter is set to 0 and group_pointer to none (Table 7-12). -/
def rotationMoved (before s : State) : Bool := effChanged before s Par.order || effChanged before s Par.groupSize

def resetRotation (before s : State) : State :=
  if rotationMoved before s then s.withIce { s.ice with counters := .const 0, pointer := none } else s

/-- A slot start is due: the set of eligible zones or a heater parameter has changed (R146, R151). -/
def slotDue (before s : State) : Bool :=
  rotationMoved before s || slotParams.any (effChanged before s)
    || eligibleZones before != eligibleZones s

/-- The heaters' part of the end of an event: the budget (R63), the rotation and at most one slot start. -/
def heaterTest (before s : State) : State :=
  let s1 := budgetCut (resetRotation before s)
  if slotDue before s then slotStart s1 else s1

/-- The end of an event: the stages that are done are passed (R117), the scraper loses its collector (R38), the raises
whose conditions hold start (R41, R40), the scraper conditions are tested (R150), and the heaters follow. -/
def settle (before s : State) : State :=
  if s.held || s.roofState == .starting then s
  else heaterTest before (scraperRaise (scraperTest (collectorRaise (dropScraper (progress s)))))

/-- A command whose effect is `f`. While a reset is held nothing acts (R171). -/
def event (f : State → State) (s : State) : Host.Outcome State Fault Refusal :=
  if s.held then .next s else .next (settle s (f s))

/-- A change of an input's level, which is followed while a reset is held too. -/
def inputEvent (f : State → State) (s : State) : Host.Outcome State Fault Refusal := .next (settle s (f s))

end Sys2Proof.Machine
end

