-- ==== Sys2Proof/WellFormed.lean ====
section
/-!
DEFINITION. Which commands can arise. `exec` is total and does not ask for it: a command that is not well formed
describes nothing that the roof link or the EEPROM bus can deliver.
-/

namespace Sys2Proof

/-- A frame carries at most 48 payload characters (R189). -/
def payloadFits (payload : List Byte) : Bool := payload.length ≤ 48

/-- A complete frame, without its marker, is its four-character header, L payload characters and two CRC
characters, with L at most 48 (R189, R190). -/
def frameComplete (frame : List Byte) : Bool :=
  match frame[3]? with
  | some l => l.toNat ≤ 48 && frame.length == 6 + l.toNat
  | none => false

/-- The kind codes that name no request and no answer (R192). -/
def unknownCode (kind : Byte) : Bool :=
  kind == 0#8 || (0x1C ≤ kind.toNat && kind.toNat ≤ 0x7F)

/-- A read is attempted at most three times, and each answer is of a length that the read can have (R197). -/
def attemptsFit (lengthOk : Nat → Bool) (a : Attempts) : Bool :=
  decide (a.length ≤ 3) && a.all fun x => match x with
    | some bs => lengthOk bs.length
    | none => true

/-- The commands that can arise. -/
def Instr.wellFormed : Instr → Bool
  | .statusRead _ p | .cabTake _ p | .cabRelease _ p | .cabPass _ p | .roofUp _ p | .roofDown _ p
  | .systemSelect _ p | .breakerClose _ p | .breakerOpen _ p | .position _ p | .sectionLoad _ p
  | .sectionClear _ p | .sectionRead _ p | .converterReport _ p | .iceMode _ p | .parameterSet _ p
  | .parameterRead _ p | .faultRead _ p | .faultClear _ p | .thresholdSet _ p | .lockoutClear _ p
  | .outputTake _ p | .outputDrive _ p | .outputReturn _ p | .senseCheckStart _ p | .senseCheckEnd _ p
  | .softReset _ p => payloadFits p
  | .unknownKind _ k => unknownCode k
  | .frameDiscarded f => frameComplete f
  | .frameFormatAbort c stop => !stop || 48 < c.toNat
  | .profileHeaderRead r => decide (r.sda.length ≤ 10) && attemptsFit (· == 39) r.attempts
  | .segmentRead a | .winterReadEnd a => attemptsFit (fun n => decide (n ≤ 2048)) a
  | .frameGapTimeout | .silenceEnd | .answerSend | .answerWithdrawn _ | .softResetAction _ | .powerOnReset
  | .pinReset | .resetRelease _ | .loadEepromNoAnswer | .winterReadFail | .windowPublication
  | .channelReading _ _ _ _ | .ambientReading _ | .heightSensor _ | .headokLost _ | .headokRestored _
  | .raiseTimeout _ | .contactLoss _ | .lowerTimeout _ | .forceControlPeriod | .valvePeriodBoundary
  | .heaterPeriodBoundary | .safePeriodEnd _ | .serviceLapse | .auxokLost | .auxokReturn | .cabLapse
  | .demandExpiry | .converterStale | .odometerPulse | .positionLapse | .breakerFeedbackChange _ _
  | .closeTimeExpiry _ _ | .openTimeExpiry _ _ | .shedTimeout | .deadRun | .identifyTimeout
  | .converterTimeout | .settleIntervalEnd | .iceIndexUpdate | .slotExpiry | .roofVoltageSample _
  | .characterReceived _ | .answerEnd => true

end Sys2Proof
end

