-- ==== Sys2Proof/Machine/Requests.lean ====
section
/-!
DEFINITION. The requests of the roof link as commands (Table 10-2): for each, how it is taken and its meaning.
-/

namespace Sys2Proof.Machine

/-! ### Taking each request -/

def takeStatusRead (src : Station) (p : List Byte) (s : State) : State :=
  takeRequest .statusRead src p (statusRead p) s

def takeCabTake (src : Station) (p : List Byte) (s : State) : State := takeRequest .cabTake src p (cabTake src) s

def takeCabRelease (src : Station) (p : List Byte) (s : State) : State :=
  takeRequest .cabRelease src p (cabRelease src) s

def takeCabPass (src : Station) (p : List Byte) (s : State) : State := takeRequest .cabPass src p cabPass s

def takeRoofUp (src : Station) (p : List Byte) (s : State) : State := takeRequest .roofUp src p (roofUp p) s

def takeRoofDown (src : Station) (p : List Byte) (s : State) : State :=
  takeRequest .roofDown src p (roofDownReq src) s

def takeSystemSelect (src : Station) (p : List Byte) (s : State) : State :=
  takeRequest .systemSelect src p (systemSelect src p) s

def takeBreakerClose (src : Station) (p : List Byte) (s : State) : State :=
  takeRequest .breakerClose src p (breakerClose src) s

def takeBreakerOpen (src : Station) (p : List Byte) (s : State) : State :=
  takeRequest .breakerOpen src p (breakerOpen src) s

def takePositionReq (src : Station) (p : List Byte) (s : State) : State :=
  takeRequest .position src p (positionReq p) s

def takeSectionLoad (src : Station) (p : List Byte) (s : State) : State :=
  takeRequest .sectionLoad src p (sectionLoad p) s

def takeSectionClear (src : Station) (p : List Byte) (s : State) : State :=
  takeRequest .sectionClear src p (sectionClear p) s

def takeSectionRead (src : Station) (p : List Byte) (s : State) : State :=
  takeRequest .sectionRead src p (sectionRead p) s

def takeConverterReport (src : Station) (p : List Byte) (s : State) : State :=
  takeRequest .converterReport src p (converterReport p) s

def takeIceMode (src : Station) (p : List Byte) (s : State) : State := takeRequest .iceMode src p (iceModeReq p) s

def takeParameterSet (src : Station) (p : List Byte) (s : State) : State :=
  takeRequest .parameterSet src p (parameterSet p) s

def takeParameterRead (src : Station) (p : List Byte) (s : State) : State :=
  takeRequest .parameterRead src p (parameterRead p) s

def takeFaultRead (src : Station) (p : List Byte) (s : State) : State := takeRequest .faultRead src p (faultRead p) s

def takeFaultClear (src : Station) (p : List Byte) (s : State) : State :=
  takeRequest .faultClear src p (faultClear p) s

def takeThresholdSet (src : Station) (p : List Byte) (s : State) : State :=
  takeRequest .thresholdSet src p (thresholdSet p) s

def takeLockoutClear (src : Station) (p : List Byte) (s : State) : State :=
  takeRequest .lockoutClear src p (lockoutClear p) s

def takeOutputTake (src : Station) (p : List Byte) (s : State) : State :=
  takeRequest .outputTake src p (outputTake p) s

def takeOutputDrive (src : Station) (p : List Byte) (s : State) : State :=
  takeRequest .outputDrive src p (outputDrive p) s

def takeOutputReturn (src : Station) (p : List Byte) (s : State) : State :=
  takeRequest .outputReturn src p (outputReturn p) s

def takeSenseCheckStart (src : Station) (p : List Byte) (s : State) : State :=
  takeRequest .senseCheckStart src p (senseCheckStart p) s

def takeSenseCheckEnd (src : Station) (p : List Byte) (s : State) : State :=
  takeRequest .senseCheckEnd src p senseCheckEnd s

def takeSoftReset (src : Station) (p : List Byte) (s : State) : State := takeRequest .softReset src p softResetReq s

/-- A kind code that names no request is answered RANGE and reaches no block (R192 (1)). -/
def takeUnknownKind (src : Station) (kind : Byte) (s : State) : State :=
  if hears s && unknownCode kind then
    let s1 := hearFrame s
    if s1.lnk.soft = .due then s1 else putAnswer src kind (refuse .range (refreshActivity src s1))
  else s

/-- A frame that names a request goes to it (R192). -/
def takeKind (k : ReqKind) (src : Station) (p : List Byte) (s : State) : State :=
  match k with
  | .statusRead => takeStatusRead src p s
  | .cabTake => takeCabTake src p s
  | .cabRelease => takeCabRelease src p s
  | .cabPass => takeCabPass src p s
  | .roofUp => takeRoofUp src p s
  | .roofDown => takeRoofDown src p s
  | .systemSelect => takeSystemSelect src p s
  | .breakerClose => takeBreakerClose src p s
  | .breakerOpen => takeBreakerOpen src p s
  | .position => takePositionReq src p s
  | .sectionLoad => takeSectionLoad src p s
  | .sectionClear => takeSectionClear src p s
  | .sectionRead => takeSectionRead src p s
  | .converterReport => takeConverterReport src p s
  | .iceMode => takeIceMode src p s
  | .parameterSet => takeParameterSet src p s
  | .parameterRead => takeParameterRead src p s
  | .faultRead => takeFaultRead src p s
  | .faultClear => takeFaultClear src p s
  | .thresholdSet => takeThresholdSet src p s
  | .lockoutClear => takeLockoutClear src p s
  | .outputTake => takeOutputTake src p s
  | .outputDrive => takeOutputDrive src p s
  | .outputReturn => takeOutputReturn src p s
  | .senseCheckStart => takeSenseCheckStart src p s
  | .senseCheckEnd => takeSenseCheckEnd src p s
  | .softReset => takeSoftReset src p s

/-! ### The meanings -/

def execStatusRead (src : Station) (payload : List Byte) (s : State) : Host.Outcome State Fault Refusal :=
  event (takeStatusRead src payload) s

def execCabTake (src : Station) (payload : List Byte) (s : State) : Host.Outcome State Fault Refusal :=
  event (takeCabTake src payload) s

def execCabRelease (src : Station) (payload : List Byte) (s : State) : Host.Outcome State Fault Refusal :=
  event (takeCabRelease src payload) s

def execCabPass (src : Station) (payload : List Byte) (s : State) : Host.Outcome State Fault Refusal :=
  event (takeCabPass src payload) s

def execRoofUp (src : Station) (payload : List Byte) (s : State) : Host.Outcome State Fault Refusal :=
  event (takeRoofUp src payload) s

def execRoofDown (src : Station) (payload : List Byte) (s : State) : Host.Outcome State Fault Refusal :=
  event (takeRoofDown src payload) s

def execSystemSelect (src : Station) (payload : List Byte) (s : State) : Host.Outcome State Fault Refusal :=
  event (takeSystemSelect src payload) s

def execBreakerClose (src : Station) (payload : List Byte) (s : State) : Host.Outcome State Fault Refusal :=
  event (takeBreakerClose src payload) s

def execBreakerOpen (src : Station) (payload : List Byte) (s : State) : Host.Outcome State Fault Refusal :=
  event (takeBreakerOpen src payload) s

def execPosition (src : Station) (payload : List Byte) (s : State) : Host.Outcome State Fault Refusal :=
  event (takePositionReq src payload) s

def execSectionLoad (src : Station) (payload : List Byte) (s : State) : Host.Outcome State Fault Refusal :=
  event (takeSectionLoad src payload) s

def execSectionClear (src : Station) (payload : List Byte) (s : State) : Host.Outcome State Fault Refusal :=
  event (takeSectionClear src payload) s

def execSectionRead (src : Station) (payload : List Byte) (s : State) : Host.Outcome State Fault Refusal :=
  event (takeSectionRead src payload) s

def execConverterReport (src : Station) (payload : List Byte) (s : State) : Host.Outcome State Fault Refusal :=
  event (takeConverterReport src payload) s

def execIceMode (src : Station) (payload : List Byte) (s : State) : Host.Outcome State Fault Refusal :=
  event (takeIceMode src payload) s

def execParameterSet (src : Station) (payload : List Byte) (s : State) : Host.Outcome State Fault Refusal :=
  event (takeParameterSet src payload) s

def execParameterRead (src : Station) (payload : List Byte) (s : State) : Host.Outcome State Fault Refusal :=
  event (takeParameterRead src payload) s

def execFaultRead (src : Station) (payload : List Byte) (s : State) : Host.Outcome State Fault Refusal :=
  event (takeFaultRead src payload) s

def execFaultClear (src : Station) (payload : List Byte) (s : State) : Host.Outcome State Fault Refusal :=
  event (takeFaultClear src payload) s

def execThresholdSet (src : Station) (payload : List Byte) (s : State) : Host.Outcome State Fault Refusal :=
  event (takeThresholdSet src payload) s

def execLockoutClear (src : Station) (payload : List Byte) (s : State) : Host.Outcome State Fault Refusal :=
  event (takeLockoutClear src payload) s

def execOutputTake (src : Station) (payload : List Byte) (s : State) : Host.Outcome State Fault Refusal :=
  event (takeOutputTake src payload) s

def execOutputDrive (src : Station) (payload : List Byte) (s : State) : Host.Outcome State Fault Refusal :=
  event (takeOutputDrive src payload) s

def execOutputReturn (src : Station) (payload : List Byte) (s : State) : Host.Outcome State Fault Refusal :=
  event (takeOutputReturn src payload) s

def execSenseCheckStart (src : Station) (payload : List Byte) (s : State) : Host.Outcome State Fault Refusal :=
  event (takeSenseCheckStart src payload) s

def execSenseCheckEnd (src : Station) (payload : List Byte) (s : State) : Host.Outcome State Fault Refusal :=
  event (takeSenseCheckEnd src payload) s

def execSoftReset (src : Station) (payload : List Byte) (s : State) : Host.Outcome State Fault Refusal :=
  event (takeSoftReset src payload) s

def execUnknownKind (src : Station) (kind : Byte) (s : State) : Host.Outcome State Fault Refusal :=
  event (takeUnknownKind src kind) s

end Sys2Proof.Machine
end

