-- ==== Sys2Proof/Machine/Link.lean ====
section
/-!
DEFINITION. Chapter 10 below the requests: the frame check, the receiver, the fate of a frame, and the answer's sending
and withdrawal.
-/

namespace Sys2Proof.Machine

/-! ### The frame check (R191) -/

/-- One bit of the CRC-16 with polynomial 0x1021. -/
def crcBit (r : BitVec 16) (bit : Bool) : BitVec 16 :=
  if r.msb != bit then (r <<< 1) ^^^ 0x1021#16 else r <<< 1

/-- One character, its most significant bit first. -/
def crcByte (r : BitVec 16) (b : Byte) : BitVec 16 :=
  [7, 6, 5, 4, 3, 2, 1, 0].foldl (fun r i => crcBit r (b.getLsbD i)) r

/-- The CRC-16 over characters, from 0xFFFF (R191). -/
def crc16 (bs : List Byte) : BitVec 16 := bs.foldl crcByte 0xFFFF#16

/-- The two CRC characters, the most significant first (Table 10-1). -/
def crcChars (bs : List Byte) : List Byte :=
  [BitVec.ofNat 8 ((crc16 bs).toNat / 256), BitVec.ofNat 8 ((crc16 bs).toNat % 256)]

/-- A complete frame's CRC is good: the frame is held without its marker. -/
def crcGood (f : List Byte) : Bool := f.drop (f.length - 2) == crcChars (f.take (f.length - 2))

/-- The characters of an answer on the line, from its marker to its CRC (R189, R193). -/
def answerFrame (s : State) (a : Answer) : List Byte :=
  let body := [a.dest, BitVec.ofNat 8 (stationAddr s.pst), a.kind, BitVec.ofNat 8 a.payload.length] ++ a.payload
  0xC5#8 :: (body ++ crcChars body)

/-! ### The fate of a complete frame (R191, R192) -/

/-- The checks of R191 on a frame: what a frame that fails one does, or `none` for one that goes to dispatch. -/
def discardFate (f : List Byte) (s : State) : Option State :=
  if crcGood f = false then some (offerPlain s .frameCrc)
  else if byteAt f 0 ≠ stationAddr s.pst then some s
  else match stationOf (f.getD 1 0#8) with
    | none => some (offer s ⟨.unknownSource, some (.station (byteAt f 1)), false⟩)
    | some src => if 0x80 ≤ byteAt f 2 then some (offerPlain (refreshActivity src s) .frameFormat) else none

/-- The dispatch of a frame that has passed the checks (R192). -/
def dispatchFrame (f : List Byte) (s : State) : State :=
  match stationOf (f.getD 1 0#8) with
  | none => s
  | some src =>
    match reqOfCode (byteAt f 2) with
    | some k => takeKind k src (bytesAt f 4 (byteAt f 3)) s
    | none => takeUnknownKind src (f.getD 2 0#8) s

/-- A frame is complete (R191). -/
def frameFate (f : List Byte) (s : State) : State := (discardFate f s).getD (dispatchFrame f s)

/-! ### The receiver (R190) -/

/-- The frame being received is broken off. -/
def breakFrame (next : Receiver) (s : State) : State :=
  offerPlain (s.withLnk { s.lnk with receiver := next, buffer := [], quietMs := 0 }) .frameFormat

/-- The characters held make a complete frame. -/
def bufferComplete (buf : List Byte) : Bool := decide (4 ≤ buf.length) && buf.length == 6 + byteAt buf 3

/-- A character breaks the frame being received: it has no stop bit, or it is a length above 48. -/
def breaksFrame (buf : List Byte) (c : Byte) (stop : Bool) : Bool := !stop || (buf.length == 3 && decide (48 < c.toNat))

/-- The receiver takes a character (R190). The model's choice (log entry 50): in IDLE a marker without its stop bit is
discarded, and starts no frame. -/
def receive (c : Byte) (stop : Bool) (s : State) : State :=
  match s.lnk.receiver with
  | .silenceWait => s
  | .idle =>
    if c = 0xC5#8 ∧ stop = true then s.withLnk { s.lnk with receiver := .receiving, buffer := [] } else s
  | .receiving =>
    let buf := s.lnk.buffer ++ [c]
    if breaksFrame s.lnk.buffer c stop then breakFrame .silenceWait s
    else if bufferComplete buf then frameFate buf (s.withLnk { s.lnk with receiver := .idle, buffer := [] })
    else s.withLnk { s.lnk with buffer := buf }

/-- A character arrives: it withdraws a waiting answer (R194) and is taken by the receiver, unless an answer is being
sent or a soft reset is due. -/
def charArrives (c : Byte) (stop : Bool) (s : State) : State :=
  if s.lnk.sending.isSome ∨ s.lnk.soft = .due then s
  else
    let s1 := s.withLnk { s.lnk with waiting := none, soft := softWithdrawn s.lnk, quietMs := 0 }
    if s1.lnk.soft = .due then s1 else receive c stop s1

/-- A complete frame is discarded by a check of R191. -/
def frameDiscarded (f : List Byte) (s : State) : State :=
  if hears s && frameComplete f then
    let s1 := hearFrame s
    if s1.lnk.soft = .due then s1 else (discardFate f s1).getD s
  else s

/-- A character breaks the frame being received (R190). Outside RECEIVING there is none to break, and nothing changes
(log entry 50). -/
def frameFormatAbort (c : Byte) (stop : Bool) (s : State) : State :=
  if s.lnk.receiver = .receiving ∧ breaksFrame s.lnk.buffer c stop = true then charArrives c stop s else s

/-- More than 1 ms without a character within a frame (R190). -/
def frameGap (s : State) : State := if s.lnk.receiver = .receiving then breakFrame .idle s else s

/-- The silence that SILENCE_WAIT waits for (R190). -/
def silenceEnd (s : State) : State :=
  if s.lnk.receiver = .silenceWait then s.withLnk { s.lnk with receiver := .idle } else s

/-! ### Answers (R193, R194, R187) -/

/-- The first character of the waiting answer is sent (R193). -/
def answerSend (s : State) : State :=
  match s.lnk.waiting, s.lnk.sending with
  | some a, none => s.withLnk { s.lnk with waiting := none, sending := some a, quietMs := 0 }
  | _, _ => s

/-- A character arrives while an answer waits (R194). -/
def answerWithdrawn (c : Byte) (s : State) : State := if s.lnk.waiting.isSome then charArrives c true s else s

/-- The last character of the answer has been sent: the receiver is IDLE (R190), and a soft reset is due (R187). -/
def answerEnd (s : State) : State :=
  if s.lnk.sending.isSome then
    s.withLnk { s.lnk with
      sending := none, receiver := .idle, buffer := [], quietMs := 0
      soft := if s.lnk.soft = .answering then .due else s.lnk.soft }
  else s

/-! ### The meanings -/

def execFrameDiscarded (frame : List Byte) (s : State) : Host.Outcome State Fault Refusal :=
  event (frameDiscarded frame) s

def execFrameFormatAbort (char : Byte) (stopBit : Bool) (s : State) : Host.Outcome State Fault Refusal :=
  event (frameFormatAbort char stopBit) s

def execFrameGapTimeout (s : State) : Host.Outcome State Fault Refusal := event frameGap s

def execSilenceEnd (s : State) : Host.Outcome State Fault Refusal := event silenceEnd s

def execAnswerSend (s : State) : Host.Outcome State Fault Refusal := event answerSend s

def execAnswerWithdrawn (char : Byte) (s : State) : Host.Outcome State Fault Refusal := event (answerWithdrawn char) s

def execCharacterReceived (char : Byte) (s : State) : Host.Outcome State Fault Refusal :=
  event (charArrives char true) s

def execAnswerEnd (s : State) : Host.Outcome State Fault Refusal := event answerEnd s

end Sys2Proof.Machine
end

