-- ==== Sys2Proof/Machine/Events.lean ====
section
/-!
DEFINITION. The commands that are no requests and do not concern the link: resets, the EEPROM, readings, inputs and
timers. Each is an effect named in the block's own file, made as one event.
-/

namespace Sys2Proof.Machine

/-! ### Resets (R171) -/

def execSoftResetAction (straps : BitVec 5) (s : State) : Host.Outcome State Fault Refusal :=
  event (softResetAct straps) s

/-- A power-on reset clears the fault banks too (R169). It is held until its release. -/
def execPowerOnReset (s : State) : Host.Outcome State Fault Refusal := .next (holdReset Flt.reset s)

/-- A pin reset keeps the fault banks (R169). It is held until its release. -/
def execPinReset (s : State) : Host.Outcome State Fault Refusal := .next (holdReset s.flt s)

/-- The release of a held reset. -/
def execResetRelease (straps : BitVec 5) (s : State) : Host.Outcome State Fault Refusal :=
  if s.held then .next (settle s (releaseReset straps s)) else .next s

/-! ### The profile store -/

def execProfileHeaderRead (read : HeaderRead) (s : State) : Host.Outcome State Fault Refusal :=
  event (headerRead (headerResult read)) s

def execSegmentRead (attempts : Attempts) (s : State) : Host.Outcome State Fault Refusal :=
  event (segmentRead (eepromRead attempts)) s

def execLoadEepromNoAnswer (s : State) : Host.Outcome State Fault Refusal :=
  event (segmentRead (eepromRead neverAnswered)) s

def execWinterReadEnd (attempts : Attempts) (s : State) : Host.Outcome State Fault Refusal :=
  event (winterRead (eepromRead attempts)) s

def execWinterReadFail (s : State) : Host.Outcome State Fault Refusal :=
  event (winterRead (eepromRead neverAnswered)) s

def execSettleIntervalEnd (s : State) : Host.Outcome State Fault Refusal := event settleEnd s

/-! ### The identifier -/

def execWindowPublication (s : State) : Host.Outcome State Fault Refusal := event publishWindow s

def execRoofVoltageSample (code : BitVec 16) (s : State) : Host.Outcome State Fault Refusal :=
  event (takeSample code.toInt) s

/-! ### Channels and outputs -/

def execChannelReading (ch : Chan) (height force strip : Int) (s : State) : Host.Outcome State Fault Refusal :=
  event (takeReading ch height force strip) s

def execHeightSensor (ch : Chan) (s : State) : Host.Outcome State Fault Refusal := event (heightSensor ch) s

def execHeadokLost (ch : Chan) (s : State) : Host.Outcome State Fault Refusal := inputEvent (headokLost ch) s

def execHeadokRestored (ch : Chan) (s : State) : Host.Outcome State Fault Refusal := inputEvent (headokRestored ch) s

def execRaiseTimeout (ch : Chan) (s : State) : Host.Outcome State Fault Refusal := event (raiseTimeout ch) s

def execContactLoss (ch : Chan) (s : State) : Host.Outcome State Fault Refusal := event (contactLoss ch) s

def execLowerTimeout (ch : Chan) (s : State) : Host.Outcome State Fault Refusal := event (lowerTimeout ch) s

def execForceControlPeriod (s : State) : Host.Outcome State Fault Refusal := event forcePeriod s

def execValvePeriodBoundary (s : State) : Host.Outcome State Fault Refusal := event (mapValves · atBoundary) s

def execHeaterPeriodBoundary (s : State) : Host.Outcome State Fault Refusal := event (mapZones · atBoundary) s

def execSafePeriodEnd (out : Output) (s : State) : Host.Outcome State Fault Refusal := event (safePeriodEnd out) s

def execServiceLapse (s : State) : Host.Outcome State Fault Refusal := event serviceLapse s

/-! ### Ice clearing -/

def execAmbientReading (temp : Int) (s : State) : Host.Outcome State Fault Refusal := event (ambientReading temp) s

def execAuxokLost (s : State) : Host.Outcome State Fault Refusal := inputEvent auxokLost s

def execAuxokReturn (s : State) : Host.Outcome State Fault Refusal := inputEvent auxokReturn s

def execIceIndexUpdate (s : State) : Host.Outcome State Fault Refusal := event iceUpdate s

def execSlotExpiry (s : State) : Host.Outcome State Fault Refusal := event slotExpiry s

/-! ### Cab, converter and position -/

def execCabLapse (s : State) : Host.Outcome State Fault Refusal := event cabLapse s

def execDemandExpiry (s : State) : Host.Outcome State Fault Refusal := event demandExpiry s

def execConverterStale (s : State) : Host.Outcome State Fault Refusal := event converterStale s

def execOdometerPulse (s : State) : Host.Outcome State Fault Refusal := event odometerPulse s

def execPositionLapse (s : State) : Host.Outcome State Fault Refusal := event positionLapse s

/-! ### Breakers and stage timers -/

def execBreakerFeedbackChange (b : Brk) (closed : Bool) (s : State) : Host.Outcome State Fault Refusal :=
  inputEvent (feedbackChange b closed) s

def execCloseTimeExpiry (b : Brk) (closed : Bool) (s : State) : Host.Outcome State Fault Refusal :=
  event (closeExpiry b closed) s

def execOpenTimeExpiry (b : Brk) (closed : Bool) (s : State) : Host.Outcome State Fault Refusal :=
  event (openExpiry b closed) s

def execShedTimeout (s : State) : Host.Outcome State Fault Refusal := event shedExpiry s

def execDeadRun (s : State) : Host.Outcome State Fault Refusal := event deadRunExpiry s

def execIdentifyTimeout (s : State) : Host.Outcome State Fault Refusal := event identifyExpiry s

def execConverterTimeout (s : State) : Host.Outcome State Fault Refusal := event converterExpiry s

end Sys2Proof.Machine
end

