-- ==== Sys2Proof/Machine/Tick.lean ====
section
/-!
DEFINITION. The passing of a millisecond, which is what an idle step does (log entry 2): the times that run, and the
commands that come due by time alone.
-/

namespace Sys2Proof.Machine

/-! ### Times that run -/

/-- A channel after a millisecond. In SERVICE its timers do not run (R36); during STARTING its fields keep their reset
values (R45). -/
def tickChannel (r : Channel) : Channel :=
  { r with
    stateTime := if r.state = .service then r.stateTime else r.stateTime + 1
    lowForceTime := if r.lowForce then r.lowForceTime + 1 else r.lowForceTime
    hold := match r.hold with
      | .running ms => .running (ms + 1)
      | .idle => .idle
      | .failed => .failed }

/-- A breaker after a millisecond: op_time runs in CLOSING and OPENING (Table 6-1). -/
def tickBreaker (r : Breaker) : Breaker :=
  if r.state = .closing ∨ r.state = .opening then { r with opTime := r.opTime + 1 } else r

def tickSeq (q : Sequence) : Sequence :=
  { q with stageTime := q.stageTime + 1, identifyTime := q.identifyTime.map (· + 1) }

def tickSlot : SlotState → SlotState
  | .running slot => .running { slot with time := slot.time + 1 }
  | .idle => .idle
  | .held => .held

/-- The times of the blocks, which run from the end of STARTING. -/
def tickBlocks (s : State) : State :=
  let s1 := s.withPcu { s.pcu with chans := quadMap tickChannel s.pcu.chans }
  let s2 := s1.withChg { s1.chg with
    bka := tickBreaker s1.chg.bka, bkd := tickBreaker s1.chg.bkd, seq := s1.chg.seq.map tickSeq }
  (s2.withIce { s2.ice with slot := tickSlot s2.ice.slot }).withRun (s2.runMs + 1)

/-- A millisecond passes. -/
def tickTime (s : State) : State :=
  let s1 := (s.withNow (s.now + 1)).withLnk { s.lnk with quietMs := s.lnk.quietMs + 1 }
  if s.roofState = .starting then s1 else tickBlocks s1

/-! ### Commands that come due -/

def dueIf (b : Bool) (i : Instr) : List Instr := if b then [i] else []

/-- The link's own times: silence of more than 1 ms (R190), an answer's start within 0.5 to 2 ms of its request (R193)
and its end, at 40 microseconds a character. The model's choice (log entry 45): a soft reset that comes due samples the
straps as they were last sampled. -/
def linkDue (s : State) : List Instr :=
  dueIf (s.lnk.soft == .due) (.softResetAction s.pst.straps)
  ++ dueIf (s.lnk.receiver == .silenceWait && decide (2 ≤ s.lnk.quietMs)) .silenceEnd
  ++ dueIf (s.lnk.receiver == .receiving && decide (2 ≤ s.lnk.quietMs)) .frameGapTimeout
  ++ dueIf (s.lnk.waiting.isSome && s.lnk.sending.isNone && decide (1 ≤ s.lnk.quietMs)) .answerSend
  ++ dueIf (s.lnk.sending.any fun a => decide (40 * (answerFrame s a).length ≤ 1000 * s.lnk.quietMs)) .answerEnd

/-- A safe period ends at the boundary that is about to be taken. -/
def safeEnding (o : Out) : Bool := o.handover != .none && decide (o.safeLeft ≤ 1)

/-- Both period series run from the release of a reset (R54); a safe period ends with its period's boundary. -/
def periodDue (s : State) : List Instr :=
  let v := s.now % 10 == 0
  let h := s.now % 100 == 0
  dueIf v .valvePeriodBoundary ++ dueIf h .heaterPeriodBoundary
  ++ allChans.flatMap (fun c => dueIf (v && safeEnding (valve s c)) (.safePeriodEnd (.valve c)))
  ++ allZones.flatMap (fun z => dueIf (h && safeEnding (zoneOut s z)) (.safePeriodEnd (.zone z)))

/-- The timers of a channel. -/
def chanDue (s : State) (c : Chan) : List Instr :=
  dueIf (holdDue (chan s c)) (.heightSensor c) ++ dueIf (raiseDue s c) (.raiseTimeout c)
  ++ dueIf (contactDue s c) (.contactLoss c) ++ dueIf (lowerDue s c) (.lowerTimeout c)

/-- The timers of a breaker; the input's level is the one last taken. -/
def brkDue (s : State) (b : Brk) : List Instr :=
  dueIf (closeDue s b) (.closeTimeExpiry b (brk s b).feedback) ++ dueIf (openDue s b) (.openTimeExpiry b (brk s b).feedback)

/-- The timers of the running sequence. -/
def seqDue (s : State) : List Instr :=
  match s.chg.seq with
  | none => []
  | some q =>
    dueIf (shedDue s q) .shedTimeout ++ dueIf (deadRunDue s q) .deadRun ++ dueIf (identifyDue s q) .identifyTimeout
    ++ dueIf (converterTimeoutDue s q) .converterTimeout

/-- The timers that run from the end of STARTING. -/
def blocksDue (s : State) : List Instr :=
  dueIf (s.runMs % 20 == 0) .forceControlPeriod ++ dueIf (s.runMs % 1000 == 0) .iceIndexUpdate
  ++ dueIf s.lsi.evaluating.isSome .windowPublication
  ++ allChans.flatMap (chanDue s)
  ++ dueIf (serviceLapseDue s) .serviceLapse ++ dueIf (cabLapseDue s).isSome .cabLapse
  ++ dueIf (demandDue s).isSome .demandExpiry ++ dueIf (converterDue s) .converterStale
  ++ dueIf (positionDue s) .positionLapse ++ brkDue s .bka ++ brkDue s .bkd ++ seqDue s
  ++ dueIf (settleDue s) .settleIntervalEnd ++ dueIf (slotExpired s) .slotExpiry

/-- The commands due after a millisecond has passed. -/
def dueNow (s : State) : List Instr :=
  linkDue s ++ periodDue s ++ (if s.roofState = .starting then [] else blocksDue s)

/-- A step with no command waiting: a millisecond passes, and the commands that it brings due are put to wait. While a
reset is held nothing happens. -/
def idle (s : State) : State :=
  if s.held then s
  else
    let s1 := tickTime s
    s1.withPending (dueNow s1)

end Sys2Proof.Machine
end

