-- ==== Sys2Proof/Machine/Dispatch.lean ====
section
/-!
DEFINITION. One arm for each command: the meaning it calls.
-/

namespace Sys2Proof.Machine

/-- The meaning of a command. -/
def exec (i : Instr) (s : State) : Host.Outcome State Fault Refusal :=
  match i with
  | .statusRead src payload => Sys2Proof.Machine.execStatusRead src payload s
  | .cabTake src payload => Sys2Proof.Machine.execCabTake src payload s
  | .cabRelease src payload => Sys2Proof.Machine.execCabRelease src payload s
  | .cabPass src payload => Sys2Proof.Machine.execCabPass src payload s
  | .roofUp src payload => Sys2Proof.Machine.execRoofUp src payload s
  | .roofDown src payload => Sys2Proof.Machine.execRoofDown src payload s
  | .systemSelect src payload => Sys2Proof.Machine.execSystemSelect src payload s
  | .breakerClose src payload => Sys2Proof.Machine.execBreakerClose src payload s
  | .breakerOpen src payload => Sys2Proof.Machine.execBreakerOpen src payload s
  | .position src payload => Sys2Proof.Machine.execPosition src payload s
  | .sectionLoad src payload => Sys2Proof.Machine.execSectionLoad src payload s
  | .sectionClear src payload => Sys2Proof.Machine.execSectionClear src payload s
  | .sectionRead src payload => Sys2Proof.Machine.execSectionRead src payload s
  | .converterReport src payload => Sys2Proof.Machine.execConverterReport src payload s
  | .iceMode src payload => Sys2Proof.Machine.execIceMode src payload s
  | .parameterSet src payload => Sys2Proof.Machine.execParameterSet src payload s
  | .parameterRead src payload => Sys2Proof.Machine.execParameterRead src payload s
  | .faultRead src payload => Sys2Proof.Machine.execFaultRead src payload s
  | .faultClear src payload => Sys2Proof.Machine.execFaultClear src payload s
  | .thresholdSet src payload => Sys2Proof.Machine.execThresholdSet src payload s
  | .lockoutClear src payload => Sys2Proof.Machine.execLockoutClear src payload s
  | .outputTake src payload => Sys2Proof.Machine.execOutputTake src payload s
  | .outputDrive src payload => Sys2Proof.Machine.execOutputDrive src payload s
  | .outputReturn src payload => Sys2Proof.Machine.execOutputReturn src payload s
  | .senseCheckStart src payload => Sys2Proof.Machine.execSenseCheckStart src payload s
  | .senseCheckEnd src payload => Sys2Proof.Machine.execSenseCheckEnd src payload s
  | .softReset src payload => Sys2Proof.Machine.execSoftReset src payload s
  | .unknownKind src kind => Sys2Proof.Machine.execUnknownKind src kind s
  | .frameDiscarded frame => Sys2Proof.Machine.execFrameDiscarded frame s
  | .frameFormatAbort char stopBit => Sys2Proof.Machine.execFrameFormatAbort char stopBit s
  | .frameGapTimeout => Sys2Proof.Machine.execFrameGapTimeout s
  | .silenceEnd => Sys2Proof.Machine.execSilenceEnd s
  | .answerSend => Sys2Proof.Machine.execAnswerSend s
  | .answerWithdrawn char => Sys2Proof.Machine.execAnswerWithdrawn char s
  | .softResetAction straps => Sys2Proof.Machine.execSoftResetAction straps s
  | .powerOnReset => Sys2Proof.Machine.execPowerOnReset s
  | .pinReset => Sys2Proof.Machine.execPinReset s
  | .resetRelease straps => Sys2Proof.Machine.execResetRelease straps s
  | .profileHeaderRead read => Sys2Proof.Machine.execProfileHeaderRead read s
  | .segmentRead attempts => Sys2Proof.Machine.execSegmentRead attempts s
  | .loadEepromNoAnswer => Sys2Proof.Machine.execLoadEepromNoAnswer s
  | .winterReadEnd attempts => Sys2Proof.Machine.execWinterReadEnd attempts s
  | .winterReadFail => Sys2Proof.Machine.execWinterReadFail s
  | .windowPublication => Sys2Proof.Machine.execWindowPublication s
  | .channelReading ch height force strip => Sys2Proof.Machine.execChannelReading ch height force strip s
  | .ambientReading temp => Sys2Proof.Machine.execAmbientReading temp s
  | .heightSensor ch => Sys2Proof.Machine.execHeightSensor ch s
  | .headokLost ch => Sys2Proof.Machine.execHeadokLost ch s
  | .headokRestored ch => Sys2Proof.Machine.execHeadokRestored ch s
  | .raiseTimeout ch => Sys2Proof.Machine.execRaiseTimeout ch s
  | .contactLoss ch => Sys2Proof.Machine.execContactLoss ch s
  | .lowerTimeout ch => Sys2Proof.Machine.execLowerTimeout ch s
  | .forceControlPeriod => Sys2Proof.Machine.execForceControlPeriod s
  | .valvePeriodBoundary => Sys2Proof.Machine.execValvePeriodBoundary s
  | .heaterPeriodBoundary => Sys2Proof.Machine.execHeaterPeriodBoundary s
  | .safePeriodEnd out => Sys2Proof.Machine.execSafePeriodEnd out s
  | .serviceLapse => Sys2Proof.Machine.execServiceLapse s
  | .auxokLost => Sys2Proof.Machine.execAuxokLost s
  | .auxokReturn => Sys2Proof.Machine.execAuxokReturn s
  | .cabLapse => Sys2Proof.Machine.execCabLapse s
  | .demandExpiry => Sys2Proof.Machine.execDemandExpiry s
  | .converterStale => Sys2Proof.Machine.execConverterStale s
  | .odometerPulse => Sys2Proof.Machine.execOdometerPulse s
  | .positionLapse => Sys2Proof.Machine.execPositionLapse s
  | .breakerFeedbackChange b closed => Sys2Proof.Machine.execBreakerFeedbackChange b closed s
  | .closeTimeExpiry b closed => Sys2Proof.Machine.execCloseTimeExpiry b closed s
  | .openTimeExpiry b closed => Sys2Proof.Machine.execOpenTimeExpiry b closed s
  | .shedTimeout => Sys2Proof.Machine.execShedTimeout s
  | .deadRun => Sys2Proof.Machine.execDeadRun s
  | .identifyTimeout => Sys2Proof.Machine.execIdentifyTimeout s
  | .converterTimeout => Sys2Proof.Machine.execConverterTimeout s
  | .settleIntervalEnd => Sys2Proof.Machine.execSettleIntervalEnd s
  | .iceIndexUpdate => Sys2Proof.Machine.execIceIndexUpdate s
  | .slotExpiry => Sys2Proof.Machine.execSlotExpiry s
  | .roofVoltageSample code => Sys2Proof.Machine.execRoofVoltageSample code s
  | .characterReceived char => Sys2Proof.Machine.execCharacterReceived char s
  | .answerEnd => Sys2Proof.Machine.execAnswerEnd s

end Sys2Proof.Machine
end

