-- ==== Sys2Proof/Safety.lean ====
section
/-!
DEFINITION. What a safe roof is, in the terms that statements use: the laws that every event keeps, and the words in which
a command's effect is stated.
-/

namespace Sys2Proof.Machine

/-! ### Words that laws and effects share -/

/-- The part runs: no reset is held and STARTING has ended. -/
structure Running (s : State) : Prop where
  held : s.held = false
  roof : s.roofState ≠ .starting

/-- The conditions of Table 7-10 that the set and the keep column share, but for the speed (R148). -/
structure ScraperWanted (s : State) : Prop where
  level : (s.ice.mode = .auto ∧ s.ice.level = .icing) ∨ (s.ice.mode = .forced ∧ s.ice.level ≠ .clear)
  enable : eff s Par.scraperEnable = 1
  contact : ∃ c, (chan s c).role = .collector ∧ (chan s c).state = .inContact
  sequence : s.chg.seq = none
  outlook : s.smp.outlook.valid = true ∧ (∃ t, s.smp.outlook.kind = .sys t) ∧ s.smp.outlook.next = none

/-- The keep conditions of Table 7-10. -/
structure ScraperKept (s : State) : Prop where
  wanted : ScraperWanted s
  speed : (s.smp.pos.speed : Int) ≤ eff s Par.scraperSpeedMax

/-- The set conditions of Table 7-10, but for the scraper choice. -/
structure ScraperSettable (s : State) : Prop where
  wanted : ScraperWanted s
  speed : (s.smp.pos.speed : Int) ≤ eff s Par.scraperSpeedMax - 10

/-! ### Laws that every step keeps -/

/-- A threshold counter stays within 0–4095, and its overflow flag is set exactly when it stands at 4095 (R158). -/
def CounterLaw (b : Bank) : Prop := b.counter ≤ 4095 ∧ (b.counterOverflow = true ↔ b.counter = 4095)

/-- The law of the threshold counters, for all seven banks. -/
def CountersHold (s : State) : Prop := ∀ b, CounterLaw (bank s.flt b)

/-- Only a record of an uncorrected fault holds roof_corrupt (R155, R156), and one of a kind that Table 8-3 marks
roof_corrupt always does (R155). -/
structure RecordsHold (s : State) : Prop where
  uncorrected : ∀ b r, (bank s.flt b).record = some r → r.corrupt = true → kindUncorrected r.kind = true
  marked : ∀ b r, (bank s.flt b).record = some r → kindCorrupt r.kind = true → r.corrupt = true

/-- Outside STARTING the roof is SAFE_HELD exactly while some record holds roof_corrupt (R163, R167). -/
structure SafeHeldLaw (s : State) : Prop where
  records : RecordsHold s
  law : s.roofState ≠ .starting → (s.roofState = .safeHeld ↔ anyCorrupt s.flt = true)

/-- While a reset is held roof_state is STARTING. -/
def HeldLaw (s : State) : Prop := s.held = true → s.roofState = .starting

/-- A breaker CLOSED or CLOSING finds the other OPEN (R109) and roof_state READY (R16, R130); shed_request is FALSE only
while a breaker is CLOSED (R82). -/
structure BreakersHold (s : State) : Prop where
  held : HeldLaw s
  interlock : ∀ b, brkMade (brk s b) = true → (brk s (otherBrk b)).state = .opened
  ready : ∀ b, brkMade (brk s b) = true → s.roofState = .ready
  shed : s.chg.shed = false → (closedBrk s).isSome = true

/-- A live raise demand is the active VCU's, in READY (R74). -/
structure DemandHolds (s : State) : Prop where
  held : HeldLaw s
  live : ∀ d, s.cau.demand = some d → s.roofState = .ready ∧ s.cau.active = some d.origin

/-- At most one channel has role COLLECTOR, and at most one SCRAPER (R38). -/
def RolesHold (s : State) : Prop :=
  ∀ c d, (chan s c).role ≠ .none → (chan s c).role = (chan s d).role → c = d

/-- The channel is RAISING, IN_CONTACT or in SERVICE, or its valve is being taken (R41, R58). -/
def engaged (s : State) (c : Chan) : Bool := raised (chan s c) || inService s c

/-- A SCRAPER that is RAISING or IN_CONTACT has a COLLECTOR of its class IN_CONTACT (R38); and no fitted channel is engaged
while one of another class is away from rest or being taken (R41, R57). The other conditions are those on which the
two rest: during STARTING every channel is LOWERED with its valve LOOP's (R45, R65), a raised channel is fitted (R23,
R47), a valve that is SERVICE's or being returned is that of a channel in SERVICE (R58, R60), and the winter layers
hold only parameters that R186 lets them carry, which no class is. -/
structure ClassesHold (s : State) : Prop where
  roles : RolesHold s
  held : HeldLaw s
  starting : s.roofState = .starting → ∀ c, (chan s c).state = .lowered ∧ (valve s c).owner = .loop ∧
    (valve s c).handover = .none
  fitted : ∀ c, raised (chan s c) = true → fitted s c = true
  service : ∀ c, (valve s c).owner = .service ∨ (valve s c).handover = .toLoop → (chan s c).state = .service
  winter : ∀ x ∈ s.pst.winter ++ s.pst.winterHeld, winterCarries x.1 = true
  scraper : ∀ c, (chan s c).role = .scraper → raised (chan s c) = true →
    ∃ p, (chan s p).role = .collector ∧ (chan s p).state = .inContact ∧ chanClass s p = chanClass s c
  classes : ∀ c d, Machine.fitted s c = true → Machine.fitted s d = true → chanClass s c ≠ chanClass s d →
    engaged s c = true → awayFromRest s d = false ∧ inService s d = false

/-- The section table is in order of start position, holds at most 16 fixed and 48 route entries, and no two equal in
start, end, kind and track (R85). -/
structure TableHolds (t : List Entry) : Prop where
  sorted : t.Pairwise fun a b => a.startM ≤ b.startM
  distinct : t.Pairwise fun a b => sameEntry a b = false
  fixed : fixedCount t ≤ 16
  routes : routeCount t ≤ 48

/-- The outcome list holds at most four entries (R116). -/
def OutcomesHold (s : State) : Prop := s.chg.ended.length ≤ 4

/-- The sums of a window are those of its samples (R5). -/
structure SumsHold (w : Window) : Prop where
  s1 : w.s1 = w.samples.sum
  s2 : w.s2 = (w.samples.map fun x => x.natAbs ^ 2).sum
  sat : w.sat = (w.samples.filter saturated).length

/-- The window in progress is short of its 1,200 samples, a window in evaluation holds all of them, both with the sums
that R5 states, and the run count is at most 255 (R2, R5, R12). -/
structure WindowsHold (s : State) : Prop where
  filling : s.lsi.filling.samples.length < 1200 ∧ SumsHold s.lsi.filling
  evaluating : ∀ w, s.lsi.evaluating = some w → w.samples.length = 1200 ∧ SumsHold w
  run : s.lsi.runCount ≤ 255

/-- Every value in a layer is of a parameter of Table 9-5 and in its range (R176, R182, R186). -/
def LayerHolds (l : Layer) : Prop := ∀ x ∈ l, paramInRange x.1 x.2 = true

/-- The law of the four layers that hold values. -/
structure LayersHold (s : State) : Prop where
  profile : LayerHolds s.pst.profile
  link : LayerHolds s.pst.link
  winter : LayerHolds s.pst.winter
  winterHeld : LayerHolds s.pst.winterHeld

/-- An output's applied and buffered duties lie within 0–1000 (R53). -/
def OutLaw (o : Out) : Prop := o.applied ≤ 1000 ∧ o.buffered ≤ 1000

/-- Every duty lies within 0–1000 (R53), given layers whose values are in range. -/
structure DutiesHold (s : State) : Prop where
  layers : LayersHold s
  valves : ∀ c, OutLaw (valve s c)
  zones : ∀ z, OutLaw (zoneOut s z)

/-- While AUXOK is inactive no zone has a duty above 0 (R64). -/
def AuxHolds (s : State) : Prop :=
  s.ros.auxok = false → ∀ z, (zoneOut s z).applied = 0 ∧ (zoneOut s z).buffered = 0

/-- In a running roof no more zones have a buffered duty above 0 than heater_budget allows (R63). -/
def BudgetHolds (s : State) : Prop := Running s → zonesBuffered s ≤ effNat s Par.heaterBudget

/-- In a running roof a scraper_request that is SET finds every keep condition of Table 7-10 holding (R148). -/
def ScraperHolds (s : State) : Prop := Running s → s.ice.scraperRequest = true → ScraperKept s

/-- The bounds of a channel's readings and of its integrator (R25, R52). -/
structure ChannelLaw (r : Channel) : Prop where
  height : r.heightMm ≤ 3200
  force : r.forceN ≤ 500
  low : -256000 ≤ r.integrator
  high : r.integrator ≤ 256000

def ChannelsHold (s : State) : Prop := ∀ c, ChannelLaw (chan s c)

/-- The ice index and the levels that follow it: the index is within 0–1000 (R136), arc_count within 0–65,535 (R135). -/
structure IceHolds (s : State) : Prop where
  index : s.ice.index ≤ 1000
  arcs : s.ice.arcCount ≤ 65535

/-- The position record's bounds (Table 5-6), while odometer_mm_per_pulse is at most 2,000. -/
structure PositionHolds (s : State) : Prop where
  metres : s.smp.pos.positionM ≤ 16777215
  remainder : s.smp.pos.remainderMm ≤ 999
  speed : s.smp.pos.speed ≤ 400
  track : s.smp.pos.track ≤ 14

/-- A receiver that is not in a frame holds no characters, no answer waits while one is sent, and the characters of a
frame being received are short of the frame that its length character announces, which is at most 48 (R190). -/
structure LinkHolds (s : State) : Prop where
  idle : s.lnk.receiver ≠ .receiving → s.lnk.buffer = []
  one : s.lnk.waiting.isSome = true → s.lnk.sending = none
  short : 4 ≤ s.lnk.buffer.length → byteAt s.lnk.buffer 3 ≤ 48 ∧ s.lnk.buffer.length < 6 + byteAt s.lnk.buffer 3

/-! ### Words for a command's effect -/

/-- The part listens: no reset is held or due, no answer is being sent, and the receiver is past its first silence. -/
structure Listening (s : State) : Prop where
  held : s.held = false
  sending : s.lnk.sending = none
  receiver : s.lnk.receiver ≠ .silenceWait
  soft : s.lnk.soft = .none

/-- A request that passes the four steps of R68: its station is admitted (Table 4-1), the roof state takes its kind (R173,
R18), and where it needs the cab its sender is the active VCU. -/
structure Accepted (k : ReqKind) (src : Station) (s : State) : Prop where
  listening : Listening s
  role : roleTable k src ≠ .no
  starting : s.roofState = .starting → k = .statusRead
  check : s.roofState = .check → takenInCheck k = true
  cab : roleTable k src = .active → s.cau.active = vcuOf src

/-- The bus is free: SDA is released after at most nine clock pulses (R174). -/
def SdaFreed (sda : List Bool) : Prop := ∃ n rest, n ≤ 9 ∧ sda = List.replicate n false ++ true :: rest

/-- SDA is still low after nine clock pulses (R174). -/
def SdaStuck (sda : List Bool) : Prop := ∃ rest, sda = List.replicate 10 false ++ rest

/-- A read gives bytes: one of its first three attempts is acknowledged (R197). -/
def ReadGives (a : Attempts) (bs : List Byte) : Prop := ∃ n rest, n ≤ 2 ∧ a = List.replicate n none ++ some bs :: rest

/-- A read fails: none of its three attempts is acknowledged (R197). -/
def ReadFails (a : Attempts) : Prop := ∃ rest, a = List.replicate 3 none ++ rest

/-- The state once a frame of a station has been received and its activity refreshed (R66, R191). -/
def heard (src : Station) (s : State) : State := refreshActivity src (hearFrame s)

/-- `u` with the answer to a request of `src` waiting: destination, the request's code plus 0x80, and the payload
(R193). -/
def replied (src : Station) (code : Nat) (payload : List Byte) (u : State) : State :=
  u.withLnk { u.lnk with
    waiting := some ⟨BitVec.ofNat 8 (stationAddress src), BitVec.ofNat 8 (code + 0x80), payload⟩, quietMs := 0 }

/-- The command of a request. -/
def requestCmd (k : ReqKind) (src : Station) (p : List Byte) : Instr :=
  match k with
  | .statusRead => .statusRead src p
  | .cabTake => .cabTake src p
  | .cabRelease => .cabRelease src p
  | .cabPass => .cabPass src p
  | .roofUp => .roofUp src p
  | .roofDown => .roofDown src p
  | .systemSelect => .systemSelect src p
  | .breakerClose => .breakerClose src p
  | .breakerOpen => .breakerOpen src p
  | .position => .position src p
  | .sectionLoad => .sectionLoad src p
  | .sectionClear => .sectionClear src p
  | .sectionRead => .sectionRead src p
  | .converterReport => .converterReport src p
  | .iceMode => .iceMode src p
  | .parameterSet => .parameterSet src p
  | .parameterRead => .parameterRead src p
  | .faultRead => .faultRead src p
  | .faultClear => .faultClear src p
  | .thresholdSet => .thresholdSet src p
  | .lockoutClear => .lockoutClear src p
  | .outputTake => .outputTake src p
  | .outputDrive => .outputDrive src p
  | .outputReturn => .outputReturn src p
  | .senseCheckStart => .senseCheckStart src p
  | .senseCheckEnd => .senseCheckEnd src p
  | .softReset => .softReset src p

/-- A command that is a reset, or the release of one (R171). -/
def isReset : Instr → Bool
  | .softResetAction _ | .powerOnReset | .pinReset | .resetRelease _ => true
  | _ => false

/-- A command in which a whole frame may be completed, so that any request may be taken within it. -/
def bearsFrame : Instr → Bool
  | .characterReceived _ | .answerWithdrawn _ => true
  | _ => false

/-- The characters of a frame as the line carries them, its marker first (R189). -/
def frameChars (dest : Byte) (src : Station) (kind : Byte) (payload : List Byte) : List Byte :=
  let body := [dest, BitVec.ofNat 8 (stationAddress src), kind, BitVec.ofNat 8 payload.length] ++ payload
  0xC5#8 :: (body ++ crcChars body)

end Sys2Proof.Machine
end

