-- ==== Sys2Proof/Certificates/Slice0/Obligations.lean ====
section
/-!
DEFINITION. The statements for the provers. In each, `exec c s = .next (settle s u)` says that the command `c` completes at
`s` with its own effect `u`, and that the event then goes on as `settle` does: stages that are done are passed,
channels whose raise conditions hold start to rise, and the scraper and the heaters are tested. For a request,
`heard src s` is the state once its frame has been received (R66, R191), and `replied` puts its answer to wait (R193).
-/

open Sys2Proof Sys2Proof.Machine

/-! ### The machine -/

/-- A step with commands waiting carries out the first of them, on the state with the rest waiting. -/
def Obligations.StepRunsTheFrontCommand : Prop :=
  ∀ (c : Instr) (q : List Instr) (s : State), step (s.withPending (c :: q)) = exec c (s.withPending q)

/-- The model's choice (log entries 2 and 37): a step with no command waiting passes a millisecond. It moves times alone,
and puts to wait the commands that come due and no others, the periods and timers named here among them. While a
reset is held nothing moves. When the link's commands come due is log entry 24, the straps of a soft reset that comes due
are log entry 45, and that no sample, reading or input change does is log entry 36. -/
def Obligations.IdleStepPassesAMillisecond : Prop :=
  (∀ s : State, s.pending = [] → s.held = true → step s = .next s) ∧
  (∀ s : State, s.pending = [] → s.held = false → ∃ t, step s = .next t ∧ t.pending = dueNow (t.withPending []) ∧
    t.now = s.now + 1 ∧ t.held = false ∧ t.roofState = s.roofState ∧ t.lsi = s.lsi ∧ t.ros = s.ros ∧ t.cau = s.cau ∧
    t.smp = s.smp ∧ t.flt = s.flt ∧ t.pst = s.pst ∧ t.lnk = { s.lnk with quietMs := s.lnk.quietMs + 1 } ∧
    (s.roofState = .starting → t.runMs = s.runMs ∧ t.pcu = s.pcu ∧ t.chg = s.chg ∧ t.ice = s.ice) ∧
    (s.roofState ≠ .starting →
      t.runMs = s.runMs + 1 ∧ t.pcu = { s.pcu with chans := t.pcu.chans } ∧
      (∀ c, chan t c = { chan s c with
        stateTime := if (chan s c).state = .service then (chan s c).stateTime else (chan s c).stateTime + 1
        lowForceTime := if (chan s c).lowForce = true then (chan s c).lowForceTime + 1 else (chan s c).lowForceTime
        hold := (chan t c).hold }) ∧
      (∀ c, (∀ ms, (chan s c).hold = .running ms → (chan t c).hold = .running (ms + 1)) ∧
        ((∀ ms, (chan s c).hold ≠ .running ms) → (chan t c).hold = (chan s c).hold)) ∧
      t.chg = { s.chg with bka := t.chg.bka, bkd := t.chg.bkd, seq := s.chg.seq.map fun q => { q with
        stageTime := q.stageTime + 1, identifyTime := q.identifyTime.map (· + 1) } } ∧
      (∀ b, brk t b = { brk s b with opTime := if (brk s b).state = .closing ∨ (brk s b).state = .opening
        then (brk s b).opTime + 1 else (brk s b).opTime }) ∧
      t.ice = { s.ice with slot := t.ice.slot } ∧
      (∀ x, s.ice.slot = .running x → t.ice.slot = .running { x with time := x.time + 1 }) ∧
      ((∀ x, s.ice.slot ≠ .running x) → t.ice.slot = s.ice.slot))) ∧
  ∀ s t : State, s.pending = [] → s.held = false → step s = .next t →
    (.valvePeriodBoundary ∈ t.pending ↔ t.now % 10 = 0) ∧ (.heaterPeriodBoundary ∈ t.pending ↔ t.now % 100 = 0) ∧
    (.forceControlPeriod ∈ t.pending ↔ t.roofState ≠ .starting ∧ t.runMs % 20 = 0) ∧
    (.iceIndexUpdate ∈ t.pending ↔ t.roofState ≠ .starting ∧ t.runMs % 1000 = 0) ∧
    (.windowPublication ∈ t.pending ↔ t.roofState ≠ .starting ∧ t.lsi.evaluating.isSome = true) ∧
    (∀ c, (.raiseTimeout c ∈ t.pending ↔ t.roofState ≠ .starting ∧ (chan t c).state = .raising ∧
        effNat t Par.raiseTimeoutMs ≤ (chan t c).stateTime) ∧
      (.contactLoss c ∈ t.pending ↔ t.roofState ≠ .starting ∧ (chan t c).state = .inContact ∧
        (chan t c).lowForce = true ∧ (chan t c).lossLimit ≤ (chan t c).lowForceTime) ∧
      (.lowerTimeout c ∈ t.pending ↔ t.roofState ≠ .starting ∧
        ((chan t c).state = .lowering ∨ (chan t c).state = .dropped) ∧
        effNat t Par.lowerTimeoutMs ≤ (chan t c).stateTime) ∧
      (.heightSensor c ∈ t.pending ↔ t.roofState ≠ .starting ∧ ∃ ms, (chan t c).hold = .running ms ∧ 100 ≤ ms)) ∧
    (∀ o, .safePeriodEnd o ∈ t.pending ↔ (outOf t o).handover ≠ .none ∧ (outOf t o).safeLeft ≤ 1 ∧
      match o with
        | .valve _ => t.now % 10 = 0
        | .zone _ => t.now % 100 = 0) ∧
    (.demandExpiry ∈ t.pending ↔ t.roofState ≠ .starting ∧
      ∃ d, t.cau.demand = some d ∧ effNat t Par.demandLifetimeMs ≤ t.now - d.refresh) ∧
    (.slotExpiry ∈ t.pending ↔ t.roofState ≠ .starting ∧
      ∃ x, t.ice.slot = .running x ∧ effNat t Par.slotMs ≤ x.time) ∧
    (.shedTimeout ∈ t.pending ↔ t.roofState ≠ .starting ∧
      ∃ q, t.chg.seq = some q ∧ q.stage = .shed ∧ effNat t Par.shedTimeout ≤ q.stageTime) ∧
    (.deadRun ∈ t.pending ↔ t.roofState ≠ .starting ∧
      ∃ q, t.chg.seq = some q ∧ (q.stage = .waitSection ∨ q.stage = .identify) ∧
        effNat t Par.deadRunS * 1000 ≤ q.stageTime) ∧
    (∀ straps, .softResetAction straps ∈ t.pending ↔ t.lnk.soft = .due ∧ straps = t.pst.straps) ∧
    ∀ c ∈ t.pending, (∀ k src p, c ≠ requestCmd k src p) ∧ (∀ x, c ≠ .roofVoltageSample x) ∧
      (∀ x, c ≠ .characterReceived x) ∧ (∀ ch h f x, c ≠ .channelReading ch h f x) ∧ ∀ b l, c ≠ .breakerFeedbackChange b l

/-- Every command is taken in every state: it answers a next state, and leaves the commands that wait as they are.
That a reset leaves them is the model's reading (log entry 35), and so is the taking of a command whose condition does
not hold or that is not well formed (log entries 4 and 5). -/
def Obligations.EveryCommandCompletes : Prop :=
  ∀ (c : Instr) (s : State), ∃ t, exec c s = .next t ∧ t.pending = s.pending

/-- Rules about the whole part. Only resets touch roof time and the straps (R171, R172). Outside them, and outside
commands that can complete a frame, the section table changes only by SECTION LOAD, SECTION CLEAR and the profile
load, a link value only by PARAMETER SET (R183), and count_enable and the masks only by THRESHOLD SET (R159); and no
command but a force control period moves an integrator, save to 0 (R52).
That a held reset shuts commands out is log entry 35. -/
def Obligations.OnlyTheirOwnCommandsChangeThem : Prop :=
  ∀ (c : Instr) (s t : State), exec c s = .next t → isReset c = false →
    t.now = s.now ∧ t.held = s.held ∧ t.pst.straps = s.pst.straps ∧
    (c ≠ .forceControlPeriod → ∀ ch, (chan t ch).integrator = (chan s ch).integrator ∨ (chan t ch).integrator = 0) ∧
    (bearsFrame c = false →
      ((∀ src p, c ≠ .sectionLoad src p ∧ c ≠ .sectionClear src p) → (∀ bs, c ≠ .segmentRead bs) →
        c ≠ .loadEepromNoAnswer → t.smp.table = s.smp.table) ∧
      ((∀ src p, c ≠ .parameterSet src p) → t.pst.link = s.pst.link) ∧
      ((∀ src p, c ≠ .thresholdSet src p) → ∀ b,
        (bank t.flt b).countEnable = (bank s.flt b).countEnable ∧ (bank t.flt b).maskShed = (bank s.flt b).maskShed ∧
        (bank t.flt b).maskConv = (bank s.flt b).maskConv))

/-! ### Requests: acceptance and reading -/

/-- The tests of a request's sender, in order (R68), by the roles of Table 4-1, and the test of its length (R192). Each
refusal is answered, and changes nothing but the link record and the activity time, which `heard` gives. -/
def Obligations.RequestsAreRefusedInOrder : Prop :=
  (∀ (k : ReqKind) (src : Station) (p : List Byte) (s : State), Listening s →
    let answer := fun (a : List Byte) =>
      exec (requestCmd k src p) s = .next (settle s (replied src (reqCode k) a (heard src s)))
    (roleTable k src = .no → answer [0x01#8]) ∧
    (roleTable k src ≠ .no → s.roofState = .starting → k ≠ .statusRead → answer [0x04#8]) ∧
    (roleTable k src ≠ .no → s.roofState = .check → takenInCheck k = false → answer [0x0A#8]) ∧
    (roleTable k src = .active → s.roofState ≠ .starting → (s.roofState = .check → takenInCheck k = true) →
      s.cau.active ≠ vcuOf src → answer [0x02#8]) ∧
    (Accepted k src s → reqLengthOk k p.length = false →
      answer (if k = .sectionLoad then [0x08#8, 0x00#8] else [0x08#8]))) ∧
  (∀ k : ReqKind,
    (roleTable k .vcuA = roleTable k .vcuB) ∧
    (roleTable k .vcuA = .no ↔ k ∈ ([.converterReport, .outputTake, .outputDrive, .outputReturn, .senseCheckStart,
      .senseCheckEnd, .softReset] : List ReqKind)) ∧
    (roleTable k .vcuA = .active ↔ k ∈ ([.cabRelease, .cabPass, .roofUp, .systemSelect, .breakerClose, .position,
      .sectionLoad, .sectionClear, .iceMode, .parameterSet, .faultClear, .thresholdSet, .lockoutClear] :
      List ReqKind)) ∧
    (roleTable k .tcc = .yes ↔ k ∈ ([.statusRead, .sectionRead, .parameterRead, .faultRead, .breakerOpen,
      .converterReport] : List ReqKind)) ∧
    (roleTable k .tool = .yes ↔ k ∈ ([.statusRead, .sectionRead, .parameterRead, .faultRead, .sectionLoad,
      .sectionClear, .parameterSet, .faultClear, .thresholdSet, .lockoutClear, .outputTake, .outputDrive,
      .outputReturn, .senseCheckStart, .senseCheckEnd, .softReset] : List ReqKind)) ∧
    roleTable k .tcc ≠ .active ∧ roleTable k .tool ≠ .active)

/-- STATUS READ (R195): each of the nine page parts is reported as it stands, and any other pair is answered RANGE.
How the parts are coded beyond R196 is log entries 3, 19 and 20. -/
def Obligations.StatusReadReportsAPagePart : Prop :=
  ∀ (src : Station) (page part : Byte) (s : State), Accepted .statusRead src s →
    let h := heard src s
    exec (.statusRead src [page, part]) s = .next (settle s (replied src 0x01
      (match pagePart h page.toNat part.toNat with
        | some bs => 0x00#8 :: page :: part :: bs
        | none => [0x08#8]) h)) ∧
    ((pagePart h page.toNat part.toNat).isSome = true ↔ (page.toNat, part.toNat) ∈
      [(0, 0), (0, 1), (1, 0), (1, 1), (1, 2), (1, 3), (2, 0), (3, 0), (3, 1)])

/-- SECTION READ (R90), PARAMETER READ (R181) and FAULT READ (R164): what they answer, and that they change nothing.
How absent fields are coded beyond R196 is log entries 3 and 19. -/
def Obligations.ReadsAnswerTheRecords : Prop :=
  ∀ (src : Station) (n : Byte) (s : State),
    let h := heard src s
    (Accepted .sectionRead src s → exec (.sectionRead src [n]) s = .next (settle s (replied src 0x1B
      (if n.toNat ≤ 63 then
        [0x00#8, BitVec.ofNat 8 (fixedCount s.smp.table), BitVec.ofNat 8 (routeCount s.smp.table)]
          ++ ((s.smp.table.drop n.toNat).take 4).flatMap entryBytes
      else [0x08#8]) h))) ∧
    (Accepted .parameterRead src s → exec (.parameterRead src [n]) s = .next (settle s (replied src 0x10
      (match paramRow n.toNat with
        | some r => [0x00#8, n] ++ leBytesInt 3 (eff s n.toNat) ++ [BitVec.ofNat 8 (layerOf s.pst n.toNat)]
            ++ leBytesInt 3 r.low ++ leBytesInt 3 r.high
        | none => [0x08#8]) h))) ∧
    (Accepted .faultRead src s → exec (.faultRead src [n]) s = .next (settle s (replied src 0x11
      (match bankOfCode n.toNat with
        | some b => 0x00#8 :: n :: faultBytes (900 + 20 * n.toNat) (bank s.flt b)
        | none => [0x08#8]) h)))

/-- In a settled state, where nothing is left that an event would go on to do, a reading request touches the link
record, the activity times and nothing else, whether it is accepted or refused. -/
def Obligations.ReadsDisturbNothing : Prop :=
  ∀ (k : ReqKind) (src : Station) (p : List Byte) (s t : State),
    k ∈ ([.statusRead, .sectionRead, .parameterRead, .faultRead] : List ReqKind) → settle s s = s →
    exec (requestCmd k src p) s = .next t →
    t = (s.withLnk t.lnk).withCau { s.cau with
      actA := t.cau.actA, actB := t.cau.actB, actTool := t.cau.actTool,
      serviceLapseMs := t.cau.serviceLapseMs, serviceLapsed := t.cau.serviceLapsed }

/-! ### Requests: the cab -/

/-- CAB TAKE (R70), its three cases. A new holder's lapse is measured from the event, and END2 leads for VCU-B. -/
def Obligations.CabTakeGivesAFreeCab : Prop :=
  ∀ (v : Vcu) (s : State), Accepted .cabTake (vcuStation v) s →
    let h := heard (vcuStation v) s
    let answer := fun (a : List Byte) (u : State) =>
      exec (.cabTake (vcuStation v) []) s = .next (settle s (replied (vcuStation v) 0x02 a u))
    let taken := h.withCau { h.cau with active := some v, activeSince := s.now }
    (s.cau.active = none → answer [0x00#8] taken) ∧ (leadingEnd2 taken = true ↔ v = .b) ∧
    (s.cau.active = some v → answer [0x00#8] h) ∧
    (s.cau.active = some (otherVcu v) → answer [0x03#8] h)

/-- CAB RELEASE (R71) and CAB PASS (R72) from the active VCU, ROOF DOWN of either VCU (R77), and BREAKER OPEN (R114) of every
station that may send it: answered at once where the running sequence already opens every breaker, and else an OPEN
that ends the running sequence.
That nothing starts between the end and the start is the model's reading (log entry 6). -/
def Obligations.CabReleaseRoofDownAndOpenRequests : Prop :=
  (∀ (v : Vcu) (s : State),
    let h := heard (vcuStation v) s
    (Accepted .cabRelease (vcuStation v) s →
      exec (.cabRelease (vcuStation v) []) s = .next (settle s (replied (vcuStation v) 0x03 [0x00#8]
        (roofDownRequest (h.withCau { h.cau with active := none, activeSince := s.now }) .cabRelease
          (vcuOrigin v))))) ∧
    (Accepted .cabPass (vcuStation v) s →
      exec (.cabPass (vcuStation v) []) s = .next (settle s (replied (vcuStation v) 0x04 [0x00#8]
        (h.withCau { h.cau with
          active := some (otherVcu v), activeSince := s.now
          demand := s.cau.demand.map fun d => { d with origin := otherVcu v } }))))) ∧
  ((∀ (v : Vcu) (s : State), Accepted .roofDown (vcuStation v) s →
    exec (.roofDown (vcuStation v) []) s = .next (settle s (replied (vcuStation v) 0x06 [0x00#8]
      (roofDownRequest (heard (vcuStation v) s) .roofDown (vcuOrigin v))))) ∧
  ∀ (src : Station) (s : State), Accepted .breakerOpen src s →
    let h := heard src s
    exec (.breakerOpen src []) s = .next (settle s (replied src 0x09 [0x00#8]
      (if (s.chg.seq.any fun q => q.kind == .open || q.kind == .roofDown) = true then h
      else startSeq (abortSeq h .breakerOpen) .open (stationOrigin src) none none .shed))))

/-- A roof-down request (R78, R129): the demand is cleared, a running sequence ends ABORTED with the reason of the
request and a close in progress is cancelled, and a ROOF_DOWN of the request's origin starts in SHED.
That nothing starts between the end and the start is the model's reading (log entry 6). -/
def Obligations.RoofDownRequestStartsRoofDown : Prop :=
  ∀ (s : State) (r : Reason) (o : Origin),
    let t := roofDownRequest s r o
    t.cau.demand = none ∧ (s.cau.demand.isSome = true → t.pcu.collectorHold = false) ∧ t.chg.shed = true ∧
    (∃ q, t.chg.seq = some q ∧ q.kind = .roofDown ∧ q.origin = o ∧ q.target = none ∧ q.fromSys = s.chg.inForce ∧
      q.stage = .shed ∧ q.stageTime = 0 ∧ q.lowerAll = true ∧ q.startTime = roofTime s) ∧
    (s.chg.seq = none → t.chg.ended = s.chg.ended ∧ ∀ b, brk t b = brk s b) ∧
    (∀ q, s.chg.seq = some q →
      t.chg.ended = (⟨q.kind, q.origin, q.target, .aborted r, q.stage, 0, roofTime s⟩ :: s.chg.ended).take 4 ∧
      ∀ b, brk t b = if (brk s b).state = .closing
        then { brk s b with state := .opening, closeCoil := false, holdCoil := false, opTime := 0 } else brk s b)

/-! ### Requests: raising and closing -/

/-- ROOF UP (Table 2-11), row by row. Where it is answered DONE the demand is live from the event on, with its
origin kept (R75), and the preference is held when no collector exists. -/
def Obligations.RoofUpRows : Prop :=
  ∀ (v : Vcu) (n : Byte) (s : State), Accepted .roofUp (vcuStation v) s →
    let h := heard (vcuStation v) s
    let answer := fun (a : List Byte) (u : State) =>
      exec (.roofUp (vcuStation v) [n]) s = .next (settle s (replied (vcuStation v) 0x05 a u))
    let asked := h.withCau { h.cau with demand := some ⟨(s.cau.demand.map (·.origin)).getD v, s.now⟩ }
    (s.roofState = .safeHeld → answer [0x0B#8] h) ∧
    (s.roofState = .ready → s.pst.settle = true → answer [0x06#8] h) ∧
    (s.roofState = .ready → s.pst.settle = false → anyService s = true → answer [0x07#8] h) ∧
    (s.roofState = .ready → s.pst.settle = false → anyService s = false →
      (s.chg.target = none → answer [0x0C#8] h) ∧
      ∀ t, s.chg.target = some t →
        (4 < n.toNat → answer [0x08#8] h) ∧
        (n.toNat ≤ 4 → (collector s).isSome = true → answer [0x00#8] asked) ∧
        (n.toNat ≤ 4 → collector s = none →
          (∀ c, n.toNat = chanNumber c →
            (chanClass s c ≠ some (classOf t) → answer [0x0D#8] h) ∧
            (chanClass s c = some (classOf t) →
              ((chan s c).state = .lockedOut → answer [0x09#8] h) ∧
              ((chan s c).state ≠ .lockedOut → (chan s c).state ≠ .lowered → answer [0x0D#8] h) ∧
              ((chan s c).state = .lowered →
                answer [0x00#8] (asked.withPcu { s.pcu with preferred := some c })))) ∧
          (n = 0x00#8 →
            (classUnusable s (classOf t) = true → answer [0x0D#8] h) ∧
            (classUnusable s (classOf t) = false →
              answer [0x00#8] (asked.withPcu { s.pcu with preferred := none })))))

/-- SYSTEM SELECT (Table 6-9), row by row. A retargeted CHANGEOVER has the new target.
That a retarget in WAIT_SECTION waits for the next outlook is the model's reading (log entry 31). -/
def Obligations.SystemSelectRows : Prop :=
  ∀ (v : Vcu) (n : Byte) (s : State), Accepted .systemSelect (vcuStation v) s →
    let h := heard (vcuStation v) s
    let answer := fun (a : List Byte) (u : State) =>
      exec (.systemSelect (vcuStation v) [n]) s = .next (settle s (replied (vcuStation v) 0x07 a u))
    (n.toNat ∉ [1, 2, 3, 4] → answer [0x08#8] h) ∧
    ∀ t, n.toNat = sysCode t →
      (s.roofState = .safeHeld → answer [0x0B#8] h) ∧
      (s.roofState ≠ .safeHeld →
        (∀ q, s.chg.seq = some q →
          (q.kind = .changeover → q.target = some t → answer [0x00#8] h) ∧
          (q.kind = .changeover → q.target ≠ some t → q.stage ∈ ([.shed, .opening, .lowering, .waitSection] : List Stage) →
            answer [0x00#8] (retargetSeq h q t) ∧ (retargetSeq h q t).chg.seq.bind (·.target) = some t) ∧
          (q.kind ≠ .changeover ∨
              (q.target ≠ some t ∧ q.stage ∈ ([.raising, .identify, .converter, .closing] : List Stage)) →
            answer [0x07#8] h)) ∧
        (s.chg.seq = none →
          (s.chg.target = some t → answer [0x00#8] h) ∧
          (s.chg.target ≠ some t → roofDown s = true → bothOpen s = true →
            answer [0x00#8] (h.withChg { s.chg with target := some t })) ∧
          (s.chg.target ≠ some t → (roofDown s = false ∨ bothOpen s = false) →
            answer [0x00#8] (startSeq h .changeover (vcuOrigin v) (some t) none .shed))))

/-- BREAKER CLOSE (Table 6-4), row by row, and the close preconditions (Table 6-5) in order: the first that fails gives the
sub-reason, and where none fails a CLOSE in its CLOSING stage starts. -/
def Obligations.BreakerCloseRows : Prop :=
  (∀ (v : Vcu) (s : State), Accepted .breakerClose (vcuStation v) s →
    let h := heard (vcuStation v) s
    let answer := fun (a : List Byte) (u : State) =>
      exec (.breakerClose (vcuStation v) []) s = .next (settle s (replied (vcuStation v) 0x08 a u))
    (s.roofState = .safeHeld → answer [0x0B#8] h) ∧
    (s.roofState = .ready → s.pst.settle = true → answer [0x06#8] h) ∧
    (s.roofState = .ready → s.pst.settle = false → s.chg.seq.isSome = true → answer [0x07#8] h) ∧
    (s.roofState = .ready → s.pst.settle = false → s.chg.seq = none →
      (s.chg.target = none → answer [0x11#8, 0x01#8] h) ∧
      ∀ t, s.chg.target = some t →
        ((brk s (brkOf (classOf t))).state = .closed → answer [0x00#8] h) ∧
        ((brk s (brkOf (classOf t))).state ≠ .closed →
          (∀ i, closeFailing s = some i → answer [0x11#8, BitVec.ofNat 8 i] h) ∧
          (closeFailing s = none →
            answer [0x00#8] (startSeq h .close (vcuOrigin v) (some t) none .closing))))) ∧
  (∀ s : State,
    (s.chg.target = none → closeFailing s = some 1) ∧
    ∀ t, s.chg.target = some t →
      ((∀ c, (chan s c).role = .collector → (chan s c).state = .inContact → chanClass s c ≠ some (classOf t)) →
        closeFailing s = some 2) ∧
      ((∃ c, collectorInContact s = some c ∧ chanClass s c = some (classOf t)) →
        (s.lsi.measured ≠ .sys t → closeFailing s = some 3) ∧
        (s.lsi.measured = .sys t → converterReady s t = false → closeFailing s = some 4) ∧
        (s.lsi.measured = .sys t → converterReady s t = true →
          (bothOpen s = false → closeFailing s = some 5) ∧
          (bothOpen s = true → s.roofState ≠ .ready → closeFailing s = some 6) ∧
          (bothOpen s = true → s.roofState = .ready → closeFailing s = none))))

/-- A breaker is closed at entry to CLOSING alone, with every precondition holding (R105, R126): after any step that
finds a breaker CLOSING which was not, a sequence is in its CLOSING stage, both coils are ON with op_time at 0, and
the close preconditions hold. A failing precondition halts the sequence. The stages before it: IDENTIFY is passed at
once where measured_system is the target, and else starts its timer (R124); CONVERTER ends once the converter is ready
(R125). -/
def Obligations.BreakersCloseOnlyInTheClosingStage : Prop :=
  (∀ (s t : State) (b : Brk), step s = .next t → (brk s b).state ≠ .closing → (brk t b).state = .closing →
    (t.chg.seq.map (·.stage)) = some .closing ∧ (brk t b).closeCoil = true ∧ (brk t b).holdCoil = true ∧
    (brk t b).opTime = 0 ∧ (brk t (otherBrk b)).state = .opened ∧ t.roofState = .ready ∧
    ∃ g c, t.chg.target = some g ∧ b = brkOf (classOf g) ∧ collectorInContact t = some c ∧
      chanClass t c = some (classOf g) ∧ t.lsi.measured = .sys g ∧ converterReady t g = true) ∧
  (∀ (s : State) (q : Sequence), s.chg.seq = some q →
    let u := enterStage .closing s
    (∀ n, closeFailing s = some n → (u.chg.seq.bind (·.exit)) = some (.halt .closeCondition n) ∧ ∀ b, brk u b = brk s b) ∧
    (closeFailing s = none → ∃ t, s.chg.target = some t ∧
      brk u (brkOf (classOf t)) = { brk s (brkOf (classOf t)) with
        state := .closing, closeCoil := true, holdCoil := true, opTime := 0 } ∧
      brk u (otherBrk (brkOf (classOf t))) = brk s (otherBrk (brkOf (classOf t))) ∧
      (u.chg.seq.map (·.stage)) = some .closing ∧ (u.chg.seq.bind (·.exit)) = none)) ∧
  ∀ (s : State) (q : Sequence) (g : Sys), s.chg.seq = some q → q.target = some g →
    let o := s.smp.outlook
    (let u := enterStage .identify s
      let entered := { q with
        stage := .identify, stageTime := 0, phase := none, identifyTime := none, lowerSent := false, exit := none }
      (s.lsi.measured = .sys g → u = putSeq s { entered with exit := some .next }) ∧
      (s.lsi.measured ≠ .sys g → (o.valid = false ∨ o.kind = .sys g) →
        u = putSeq s { entered with identifyTime := some 0 }) ∧
      (s.lsi.measured ≠ .sys g → o.valid = true → o.kind ≠ .sys g → u = putSeq s entered)) ∧
    (q.stage = .identify →
      (q.identifyTime = none → (o.valid = false ∨ o.kind = .sys g) →
        identifyTest s = putSeq s { q with identifyTime := some 0 }) ∧
      ((q.identifyTime ≠ none ∨ (o.valid = true ∧ o.kind ≠ .sys g)) → identifyTest s = s) ∧
      (q.exit = some .next → stageStep s = some (enterStage .converter s)) ∧ (q.exit = none → stageStep s = none)) ∧
    (q.stage = .converter → q.exit = none →
      (converterReady s g = true → stageStep s = some (enterStage .closing s)) ∧
      (converterReady s g = false → stageStep s = none))

/-! ### Requests: the map, the converter and ice clearing -/

/-- POSITION (R95): refused RANGE for a track above 14 or a direction above 1; one that is taken is tested for a jump, makes
the position record anew, and the outlook is recomputed. SECTION LOAD (R87, R88) of one to four entries as Table 10-10
carries them: refused DUPLICATE or TABLE_FULL, or placed in order (R85), with the route count answered; of none or
more than four, refused RANGE for entry 0. SECTION CLEAR (R89): scope 0 removes every route entry, scope 1 those that
lie wholly behind a valid position; fixed entries stay.
That POSITION_JUMP is offered, and stamped, before the position is replaced is the model's choice (log entry 51). -/
def Obligations.PositionAndSectionRequests : Prop :=
  (∀ (v : Vcu) (p0 p1 p2 track dir v0 v1 : Byte) (s : State), Accepted .position (vcuStation v) s →
    let h := heard (vcuStation v) s
    let answer := fun (a : List Byte) (u : State) =>
      exec (.position (vcuStation v) [p0, p1, p2, track, dir, v0, v1]) s
        = .next (settle s (replied (vcuStation v) 0x0A a u))
    let p := p0.toNat + 256 * p1.toNat + 65536 * p2.toNat
    let speed := v0.toNat + 256 * v1.toNat
    let jump : Prop := s.smp.pos.valid = true ∧
      effNat s Par.jumpToleranceM < (p - s.smp.pos.positionM) + (s.smp.pos.positionM - p)
    let placed := fun (u : State) => newOutlook (u.withSmp { u.smp with pos :=
      { valid := true, positionM := p, remainderMm := 0, track := track.toNat, minus := dir == 1#8,
        speed := min 400 speed, speedClamped := decide (400 < speed), reportTime := some u.now, stale := false,
        travelMm := 0 } })
    ((14 < track.toNat ∨ 1 < dir.toNat) → answer [0x08#8] h) ∧
    (track.toNat ≤ 14 → dir.toNat ≤ 1 →
      (jump → answer [0x00#8] (placed (offer h ⟨.positionJump, some (.position p), false⟩))) ∧
      (¬ jump → answer [0x00#8] (placed h)))) ∧
  (∀ (src : Station) (s : State), Accepted .sectionLoad src s →
    let h := heard src s
    let answer := fun (p a : List Byte) (u : State) =>
      exec (.sectionLoad src p) s = .next (settle s (replied src 0x0B a u))
    (∀ p : List Byte, p.length % 8 = 0 → (p.length = 0 ∨ 32 < p.length) → answer p [0x08#8, 0x00#8] h) ∧
    ∀ es : List Entry, 1 ≤ es.length → es.length ≤ 4 →
      (∀ e ∈ es, e.isFixed = false ∧ e.startM < e.stopM ∧ e.stopM < 16777216 ∧ e.track ≤ 15) →
      (∀ n, firstDuplicate s.smp.table 1 es = some n → answer (es.flatMap entryBytes) [0x0F#8, BitVec.ofNat 8 n] h) ∧
      (firstDuplicate s.smp.table 1 es = none →
        (48 < routeCount s.smp.table + es.length → answer (es.flatMap entryBytes) [0x0E#8] h) ∧
        (routeCount s.smp.table + es.length ≤ 48 →
          answer (es.flatMap entryBytes) [0x00#8, BitVec.ofNat 8 (routeCount s.smp.table + es.length)]
            (newOutlook (h.withSmp { s.smp with table := es.foldl placeEntry s.smp.table }))))) ∧
  (∀ (src : Station) (scope : Byte) (s : State), Accepted .sectionClear src s →
    let h := heard src s
    let answer := fun (a : List Byte) (u : State) =>
      exec (.sectionClear src [scope]) s = .next (settle s (replied src 0x0C a u))
    let cleared := fun (gone : Entry → Bool) =>
      let kept := s.smp.table.filter fun e => e.isFixed || !gone e
      answer [0x00#8, BitVec.ofNat 8 (s.smp.table.length - kept.length), BitVec.ofNat 8 (routeCount kept)]
        (newOutlook (h.withSmp { s.smp with table := kept }))
    (scope = 0x00#8 → cleared fun _ => true) ∧
    (scope = 0x01#8 → s.smp.pos.valid = false → answer [0x11#8, 0x20#8] h) ∧
    (scope = 0x01#8 → s.smp.pos.valid = true → cleared fun e =>
      if s.smp.pos.minus = true then decide (s.smp.pos.positionM < e.startM)
      else decide (e.stopM ≤ s.smp.pos.positionM)) ∧
    (1 < scope.toNat → answer [0x08#8] h))

/-- The combined kind (Table 5-3) of the entries that decide, whatever their order, and the Section Outlook (R98 to R100):
it is valid while map_enable is 1 and the position valid and not stale, it shows the lookup at the position and, in
either direction, the next change within the lookahead distance, before which the kind stays the current one. With
MINUS the kind of the metre that lies next ahead is not looked at where the position is itself a point of the table.
following_system is the next system or, where the next change is not energized, that of the first energized point beyond
it within twice the lookahead distance (R100).
CHG starts a sequence from the outlook by the rows of Table 6-8 (R127), and its record is filled as R117 states. -/
def Obligations.OutlookShowsTheNextChange : Prop :=
  (∀ (dflt : CombKind) (es fs : List Entry),
    let has := fun (k : SecKind) => ∃ e ∈ es, e.kind = k
    (has .lowerZone → combine dflt es = (.lowerZone, false)) ∧
    (¬ has .lowerZone → has .separation → combine dflt es = (.separation, false)) ∧
    (¬ has .lowerZone → ¬ has .separation → has .neutral → combine dflt es = (.neutral, false)) ∧
    (¬ has .lowerZone → ¬ has .separation → ¬ has .neutral →
      ((∀ t, ¬ has (.sys t)) → combine dflt es = (dflt, false)) ∧
      (∀ t, has (.sys t) → (∀ u, has (.sys u) → u = t) → combine dflt es = (.sys t, false)) ∧
      (∀ t u, has (.sys t) → has (.sys u) → t ≠ u → combine dflt es = (.separation, true))) ∧
    (es.Perm fs → combine dflt es = combine dflt fs)) ∧
  (∀ s : State,
    let p := s.smp.pos.positionM
    let kindAt := fun (x : Nat) => (lookup s x s.smp.pos.track).kind
    let o := computeOutlook s
    ((eff s Par.mapEnable ≠ 1 ∨ s.smp.pos.valid = false ∨ s.smp.pos.stale = true) → o = Outlook.invalid) ∧
    (eff s Par.mapEnable = 1 → s.smp.pos.valid = true → s.smp.pos.stale = false →
      o.valid = true ∧ o.kind = kindAt p ∧ o.conflict = (lookup s p s.smp.pos.track).conflict ∧
      o.iceHere = (lookup s p s.smp.pos.track).ice ∧
      o.lookaheadM = max 100 (s.smp.pos.speed * effNat s Par.lookaheadS * 1000 / 3600) ∧
      (o.next = none → o.distance = none ∧ o.following = none) ∧
      (∀ g, o.next = some (.sys g) → o.following = some g) ∧
      (let b := s.smp.pos.minus
        let point := fun (x : Nat) => ∃ e ∈ considered s, if b = true then x < p ∧ (e.startM + x = p ∨ e.stopM + x = p)
          else e.startM = p + x ∨ e.stopM = p + x
        let there := fun (x : Nat) => if b = true then kindAt (p - x - 1) else kindAt (p + x)
        ∀ k d, o.next = some k → o.distance = some d → (∀ g, k ≠ .sys g) →
          (∀ g, o.following = some g → ∃ x, d < x ∧ x ≤ 2 * o.lookaheadM ∧ point x ∧ there x = .sys g ∧
            ∀ y, d < y → y < x → point y → ∀ h, there y ≠ .sys h) ∧
          (o.following = none → ∀ x, d < x → x ≤ 2 * o.lookaheadM → point x → ∀ h, there x ≠ .sys h)) ∧
      (s.smp.pos.minus = false →
        (∀ k, o.next = some k → ∃ d, o.distance = some d ∧ 0 < d ∧ d ≤ o.lookaheadM ∧ k = kindAt (p + d) ∧
          k ≠ o.kind ∧ ∀ x, x < d → kindAt (p + x) = o.kind) ∧
        (o.next = none → ∀ x, x ≤ o.lookaheadM → kindAt (p + x) = o.kind)) ∧
      (s.smp.pos.minus = true →
        (∀ k, o.next = some k → ∃ d, o.distance = some d ∧ 0 < d ∧ d < p ∧ d ≤ o.lookaheadM ∧ k = kindAt (p - d - 1) ∧
          k ≠ o.kind ∧ (kindAt (p - 1) = o.kind → ∀ x, x ≤ d → kindAt (p - x) = o.kind)) ∧
        (o.next = none → kindAt (p - 1) = o.kind →
          ∀ x, x ≤ o.lookaheadM → x ≤ p → kindAt (p - x) = o.kind)))) ∧
  (∀ s : State,
    let o := s.smp.outlook
    let sys := s.chg.inForce
    let may : Prop := eff s Par.autoChangeover = 1 ∧ o.valid = true ∧ (closedBrk s).isSome = true ∧ s.chg.seq = none ∧
      s.roofState = .ready
    let starts := fun (k : SeqKind) (g : Option Sys) (a : Option Awaited) =>
      automaticStart s = startSeq s k .outlook g a .shed
    let lower : Prop := o.kind = .lowerZone ∨ o.next = some .lowerZone
    (¬ may → automaticStart s = s) ∧
    (may → lower → starts .lowerPass sys (some .lowerZone)) ∧
    (may → ¬ lower →
      (o.kind = .neutral → starts .neutralPass sys (some .neutral)) ∧
      (o.kind = .separation → starts .changeover o.following none) ∧
      (∀ g, o.kind = .sys g → sys ≠ some g → starts .changeover (some g) none) ∧
      ((o.kind = .unknown ∨ ∃ g, o.kind = .sys g ∧ sys = some g) →
        (o.next = some .neutral → starts .neutralPass sys (some .neutral)) ∧
        (∀ g, o.next = some .separation → sys = some g → o.following = some g →
          starts .neutralPass sys (some .separation)) ∧
        (o.next = some .separation → (o.following = none ∨ o.following ≠ sys) →
          starts .changeover o.following none) ∧
        (∀ g, o.next = some (.sys g) → sys ≠ some g → starts .changeover (some g) none) ∧
        ((o.next = none ∨ o.next = some .unknown ∨ ∃ g, o.next = some (.sys g) ∧ sys = some g) →
          automaticStart s = s)))) ∧
  ∀ (s : State) (k : SeqKind) (o : Origin) (g : Option Sys) (a : Option Awaited),
    let t := startSeq s k o g a .shed
    ∃ q, t.chg = { s.chg with seq := some q, shed := true } ∧ q.kind = k ∧ q.origin = o ∧ q.target = g ∧ q.awaited = a ∧
      q.fromSys = s.chg.inForce ∧ q.startTime = roofTime s ∧ q.stage = .shed ∧ q.stageTime = 0 ∧ q.phase = none ∧
      (q.lowerAll = true ↔ k = .roofDown ∨ k = .lowerPass) ∧
      (q.exit = some .next ↔ closedBrk s = none ∨ loadOff s = true)

/-- CONVERTER REPORT (R79) and the examination of the breakers (Table 4-4): a breaker CLOSED without a fresh report, or in
FAULT, offers CONVERTER_LOST; one RUNNING on another system offers SYSTEM_MISMATCH. ICE MODE (R133): a mode of the
three is held, any other refused RANGE; index and level are not touched, and OFF withdraws a scraper request.
That SHED is left before the examination is the model's reading (log entry 10). -/
def Obligations.ConverterReportAndIceMode : Prop :=
  ((∀ (a b : Byte) (s : State), Accepted .converterReport .tcc s →
    let h := heard .tcc s
    let answer := fun (c : List Byte) (u : State) =>
      exec (.converterReport .tcc [a, b]) s = .next (settle s (replied .tcc 0x0D c u))
    ((3 < a.toNat ∨ 4 < b.toNat) → answer [0x08#8] h) ∧
    ∀ c, convStateOfCode a.toNat = some c → b.toNat ≤ 4 →
      answer [0x00#8] (examineConverter (progress (shedReport c (h.withCau { h.cau with
        conv := ⟨c, sysOfCode b.toNat, some s.now, true⟩ }))))) ∧
  ∀ s : State,
    (closedBrk s = none → examineConverter s = s) ∧
    ∀ b, closedBrk s = some b →
      ((s.cau.conv.fresh = false ∨ s.cau.conv.state = .fault) →
        examineConverter s = offer s ⟨.converterLost, some (.breaker b), false⟩) ∧
      (s.cau.conv.fresh = true → s.cau.conv.state ≠ .fault →
        (s.cau.conv.state = .running → s.cau.conv.sys ≠ s.chg.inForce →
          examineConverter s = offer s ⟨.changeMismatch, some (.breaker b), false⟩) ∧
        ((s.cau.conv.state ≠ .running ∨ s.cau.conv.sys = s.chg.inForce) → examineConverter s = s))) ∧
  (∀ (v : Vcu) (n : Byte) (s : State), Accepted .iceMode (vcuStation v) s →
    let h := heard (vcuStation v) s
    let answer := fun (a : List Byte) (u : State) =>
      exec (.iceMode (vcuStation v) [n]) s = .next (settle s (replied (vcuStation v) 0x0E a u))
    (2 < n.toNat → answer [0x08#8] h) ∧
    (∀ m, n.toNat = modeCode m → answer [0x00#8] (h.withIce { s.ice with mode := m })) ∧
    (n = 0x00#8 → ∀ t, exec (.iceMode (vcuStation v) [n]) s = .next t →
      t.ice.mode = .off ∧ t.ice.scraperRequest = false ∧ t.ice.index = s.ice.index ∧ t.ice.level = s.ice.level))

/-! ### Requests: parameters and faults -/

/-- PARAMETER SET (Table 9-6), row by row. One that is taken makes the value the link value, notes the time, starts
the settle interval, and restarts identification for a LINE parameter (R183). -/
def Obligations.ParameterSetRows : Prop :=
  ∀ (src : Station) (n b0 b1 b2 : Byte) (s : State), Accepted .parameterSet src s →
    let h := heard src s
    let answer := fun (a : List Byte) (u : State) =>
      exec (.parameterSet src [n, b0, b1, b2]) s = .next (settle s (replied src 0x0F a u))
    let w := b0.toNat + 256 * b1.toNat + 65536 * b2.toNat
    let v : Int := if w < 8388608 then w else w - 16777216
    let u := takeSet n.toNat v h
    (roofQuiet s = false → answer [0x05#8] h) ∧
    (roofQuiet s = true → setTooSoon s = true → answer [0x06#8] h) ∧
    (roofQuiet s = true → setTooSoon s = false → paramInRange n.toNat v = false → answer [0x08#8] h) ∧
    (roofQuiet s = true → setTooSoon s = false → paramInRange n.toNat v = true →
      (setConsistent s.pst n.toNat v = false → answer [0x08#8] h) ∧
      (setConsistent s.pst n.toNat v = true →
        answer ([0x00#8, n] ++ leBytesInt 3 (eff u n.toNat) ++ [BitVec.ofNat 8 (layerOf u.pst n.toNat)]) u ∧
        u.pst = { s.pst with link := layerSet s.pst.link n.toNat v, lastSet := some s.now, settle := true } ∧
        (groupOf n.toNat = .line → u.lsi = { s.lsi with
          filling := Window.empty, evaluating := none, candidate := none, runCount := 0, measured := .none })))

/-- The effective value of a parameter is the first present of its four layers, and a link value that is written is
what its layer then holds; every other parameter's stays (R180, R183). -/
def Obligations.EffectiveValueIsTheUppermostLayer : Prop :=
  (∀ (p : Pst) (n : Nat), p.live = true →
    (∀ v, (p.winterState = .active ∨ p.winterState = .ending) → layerGet p.winter n = some v → pstEff p n = v) ∧
    (((p.winterState ≠ .active ∧ p.winterState ≠ .ending) ∨ layerGet p.winter n = none) →
      (∀ v, layerGet p.link n = some v → pstEff p n = v) ∧
      (layerGet p.link n = none →
        (∀ v, layerGet p.profile n = some v → pstEff p n = v) ∧
        (layerGet p.profile n = none → pstEff p n = paramDefault n)))) ∧
  ∀ (l : Layer) (n m : Nat) (v : Int), l.Pairwise (fun a b => a.1 < b.1) →
    (layerSet l n v).Pairwise (fun a b => a.1 < b.1) ∧
    layerGet (layerSet l n v) m = if m = n then some v else layerGet l m

/-- FAULT CLEAR (Table 8-4) and the return from SAFE_HELD (R167), THRESHOLD SET (R159), and LOCKOUT CLEAR (Table 2-8), row by
row.
That PERSISTS needs a record with roof_corrupt, also for the CHANGE bank, is Table 8-4; that R108 says no more is the
model's reading (log entry 52). What a channel that goes to LOWERED keeps is log entry 21. -/
def Obligations.FaultThresholdAndLockoutRequests : Prop :=
  ((∀ (src : Station) (n : Byte) (s : State), Accepted .faultClear src s →
    let h := heard src s
    let answer := fun (a : List Byte) (u : State) =>
      exec (.faultClear src [n]) s = .next (settle s (replied src 0x12 a u))
    (6 < n.toNat → answer [0x08#8] h) ∧
    ∀ b, bankOfCode n.toNat = some b →
      let cleared := h.withFlt (putBank s.flt b { bank s.flt b with record := none })
      (bankCorrupt (bank s.flt b) = true → persists s b = true → answer [0x10#8] h) ∧
      ((bankCorrupt (bank s.flt b) = false ∨ persists s b = false) →
        (s.roofState = .safeHeld → anyCorrupt cleared.flt = false → answer [0x00#8] (cleared.withRoof .ready)) ∧
        ((s.roofState ≠ .safeHeld ∨ anyCorrupt cleared.flt = true) → answer [0x00#8] cleared))) ∧
  ∀ (src : Station) (n t0 t1 m : Byte) (s : State), Accepted .thresholdSet src s →
    let h := heard src s
    let answer := fun (a : List Byte) (u : State) =>
      exec (.thresholdSet src [n, t0, t1, m]) s = .next (settle s (replied src 0x13 a u))
    let t := t0.toNat + 256 * t1.toNat
    ((6 < n.toNat ∨ t = 0 ∨ 4095 < t) → answer [0x08#8] h) ∧
    ∀ b, bankOfCode n.toNat = some b → 1 ≤ t → t ≤ 4095 →
      answer [0x00#8] (h.withFlt (putBank s.flt b { bank s.flt b with
        counter := 4095 - t, counterOverflow := false, countEnable := true
        maskShed := b == .change && m.getLsbD 0, maskConv := b == .change && m.getLsbD 1 }))) ∧
  (∀ (src : Station) (n : Byte) (s : State), Accepted .lockoutClear src s →
    let h := heard src s
    let answer := fun (a : List Byte) (u : State) =>
      exec (.lockoutClear src [n]) s = .next (settle s (replied src 0x14 a u))
    ((n.toNat = 0 ∨ 4 < n.toNat) → answer [0x08#8] h) ∧
    ∀ c, n.toNat = chanNumber c →
      (fitted s c = false → answer [0x0D#8] h) ∧
      (fitted s c = true →
        ((chan s c).state ≠ .lockedOut → answer [0x00#8] h) ∧
        ((chan s c).state = .lockedOut →
          (((chan s c).headok = false ∨ (chan s c).heightValid = false) → answer [0x09#8] h) ∧
          ((chan s c).headok = true → (chan s c).heightValid = true →
            answer [0x00#8] (putChan h c { chan s c with
              state := .lowered, stateTime := 0, lowForce := false, lockout := none })))))

/-! ### Requests: the Service Tool -/

/-- OUTPUT TAKE (Table 3-4), OUTPUT DRIVE (Table 3-5) and OUTPUT RETURN (Table 3-6) of one output and of ALL: their
answers, and where one is answered DONE with an effect, the effect. A take and a return start with the output at 0
and a safe period of two boundaries (R58). -/
def Obligations.OutputsAreTakenDrivenReturned : Prop :=
  (∀ (n : Byte) (s : State), Accepted .outputReturn .tool s → outputOfCode n.toNat = none →
    let h := heard .tool s
    let answer := fun (a : List Byte) (u : State) =>
      exec (.outputReturn .tool [n]) s = .next (settle s (replied .tool 0x17 a u))
    (n ≠ 0xFF#8 → answer [0x08#8] h) ∧
    (n = 0xFF#8 → ∃ u, answer [0x00#8] u ∧
      u = h.withRos { s.ros with valves := u.ros.valves, zones := u.ros.zones } ∧ ∀ o,
        let r := outOf s o
        (r.owner = .loop → r.handover = .toService → outOf u o = { r with cancelled := true }) ∧
        (r.owner = .service → r.handover = .none → outOf u o = { r with
          applied := 0, buffered := 0, handover := .toLoop, cancelled := false, safeLeft := 2 }) ∧
        ((r.owner = .loop ∧ r.handover ≠ .toService ∨ r.owner = .service ∧ r.handover ≠ .none) → outOf u o = r))) ∧
  ∀ (n : Byte) (o : Output) (s : State), outputOfCode n.toNat = some o →
    let h := heard .tool s
    let r := outOf s o
    (Accepted .outputTake .tool s → s.roofState ≠ .safeHeld → roofQuietService s = true →
      let answer := fun (a : List Byte) (u : State) =>
        exec (.outputTake .tool [n]) s = .next (settle s (replied .tool 0x15 a u))
      (r.owner = .service → r.handover = .none → answer [0x00#8] h) ∧
      (r.handover ≠ .none → answer [0x07#8] h) ∧
      (r.owner = .loop → r.handover = .none → fitted s (outChan o) = false → answer [0x0D#8] h) ∧
      (∀ a, r.owner = .loop → r.handover = .none → fitted s (outChan o) = true → takeValveRefusal s o = some a →
        answer [answerByte a] h) ∧
      (r.owner = .loop → r.handover = .none → fitted s (outChan o) = true → takeValveRefusal s o = none →
        answer [0x00#8] (putOut h o { r with
          applied := 0, buffered := 0, handover := .toService, cancelled := false, safeLeft := 2 }))) ∧
    (Accepted .outputDrive .tool s → ∀ d0 d1 : Byte,
      let answer := fun (a : List Byte) (u : State) =>
        exec (.outputDrive .tool [n, d0, d1]) s = .next (settle s (replied .tool 0x16 a u))
      let duty := d0.toNat + 256 * d1.toNat
      (1000 < duty → answer [0x08#8] h) ∧
      (duty ≤ 1000 →
        (r.handover ≠ .none → answer [0x07#8] h) ∧
        (r.handover = .none → r.owner = .loop → answer [0x11#8, 0x10#8] h) ∧
        (r.handover = .none → r.owner = .service →
          (∀ c, o = .valve c → (chan s c).dumpOn = true → answer [0x11#8, 0x11#8] h) ∧
          (∀ a, driveRefusal s duty o = some a → answer (answerByte a.code :: a.rest) h) ∧
          (driveRefusal s duty o = none → answer [0x00#8] (putOut h o { r with buffered := duty }))))) ∧
    (Accepted .outputReturn .tool s →
      let answer := fun (u : State) =>
        exec (.outputReturn .tool [n]) s = .next (settle s (replied .tool 0x17 [0x00#8] u))
      (r.owner = .loop → r.handover = .toService → answer (putOut h o { r with cancelled := true })) ∧
      (r.owner = .service → r.handover = .none → answer (putOut h o { r with
        applied := 0, buffered := 0, handover := .toLoop, cancelled := false, safeLeft := 2 })) ∧
      ((r.owner = .loop ∧ r.handover ≠ .toService ∨ r.owner = .service ∧ r.handover ≠ .none) →
        answer (putOut h o r)))

/-- SENSE CHECK START (Table 1-10, R16): CHECK is entered from a quiet roof, with the pattern held, the result PENDING,
identification restarted and the demand dead. SENSE CHECK END (R20): in CHECK it restarts identification, makes a
PENDING result INCOMPLETE and returns the roof to READY; elsewhere it changes nothing. -/
def Obligations.SenseCheckRequests : Prop :=
  (∀ (p : Byte) (s : State), Accepted .senseCheckStart .tool s →
    let h := heard .tool s
    let answer := fun (a : List Byte) (u : State) =>
      exec (.senseCheckStart .tool [p]) s = .next (settle s (replied .tool 0x18 a u))
    (s.roofState = .safeHeld → answer [0x0B#8] h) ∧
    (s.roofState = .ready →
      (roofQuiet s = false → answer [0x05#8] h) ∧
      (roofQuiet s = true → 3 < p.toNat → answer [0x08#8] h) ∧
      ∀ i : Fin 4, roofQuiet s = true → p.toNat = i.val →
        answer [0x00#8] ((((h.withRoof .check).withCau { h.cau with demand := none }).withPcu
          { s.pcu with collectorHold := false }).withLsi { s.lsi with
            filling := Window.empty, evaluating := none, candidate := none, runCount := 0, measured := .none,
            checkPattern := some i, checkResult := .pending }))) ∧
  (∀ s : State, Accepted .senseCheckEnd .tool s →
    let h := heard .tool s
    let answer := fun (u : State) =>
      exec (.senseCheckEnd .tool []) s = .next (settle s (replied .tool 0x19 [0x00#8] u))
    (s.roofState ≠ .check → answer h) ∧
    (s.roofState = .check → answer ((h.withRoof .ready).withLsi { s.lsi with
      filling := Window.empty, evaluating := none, candidate := none, runCount := 0, measured := .none,
      checkResult := if s.lsi.checkResult = .pending then .incomplete else s.lsi.checkResult })))

/-- SOFT RESET (R187) waits for its answer; a kind code that names no request is answered RANGE (R192). Until a soft
reset acts, or while the part does not listen, no request is taken: its frame makes a soft reset due whose answer it
withdraws (R194), or is not heard at all.
That a frame which withdraws the answer of a SOFT RESET is lost is the model's reading (log entry 27). -/
def Obligations.SoftResetAndUnheardRequests : Prop :=
  (∀ s : State, Accepted .softReset .tool s →
    exec (.softReset .tool []) s = .next (settle s (replied .tool 0x1A [0x00#8]
      ((heard .tool s).withLnk { (heard .tool s).lnk with soft := .answering })))) ∧
  (∀ (src : Station) (kind : Byte) (s : State), Listening s → unknownCode kind = true →
    exec (.unknownKind src kind) s = .next (settle s (replied src kind.toNat [0x08#8] (heard src s)))) ∧
  (∀ (k : ReqKind) (src : Station) (p : List Byte) (s : State), s.held = false → s.lnk.sending = none →
    s.lnk.receiver ≠ .silenceWait → s.lnk.soft = .answering → s.lnk.waiting.isSome = true →
    exec (requestCmd k src p) s = .next (settle s (hearFrame s)) ∧ (hearFrame s).lnk.soft = .due) ∧
  ∀ (k : ReqKind) (src : Station) (p : List Byte) (s : State), s.held = false →
    (s.lnk.sending.isSome = true ∨ s.lnk.receiver = .silenceWait ∨ s.lnk.soft = .due) →
    exec (requestCmd k src p) s = .next (settle s s)

/-! ### The roof link -/

/-- The checks of a complete frame, in order (R191): a bad CRC is FRAME_CRC, a frame to another station is passed over,
an unknown source is UNKNOWN_SOURCE, and an answer from a known station is FRAME_FORMAT.
A frame that passes every check is no frame to discard (log entry 29). -/
def Obligations.FrameChecksInOrder : Prop :=
  ∀ (f : List Byte) (s : State), Listening s → frameComplete f = true →
    let h := hearFrame s
    let becomes := fun (u : State) => exec (.frameDiscarded f) s = .next (settle s u)
    (crcGood f = false → becomes (offer h ⟨.frameCrc, none, false⟩)) ∧
    (crcGood f = true →
      (byteAt f 0 ≠ 0x10 + s.pst.straps.toNat % 4 → becomes h) ∧
      (byteAt f 0 = 0x10 + s.pst.straps.toNat % 4 →
        ((byteAt f 1 = 0 ∨ 4 < byteAt f 1) →
          becomes (offer h ⟨.unknownSource, some (.station (byteAt f 1)), false⟩)) ∧
        (∀ src, byteAt f 1 = stationAddress src → 0x80 ≤ byteAt f 2 →
          becomes (offer (refreshActivity src h) ⟨.frameFormat, none, false⟩))))

/-- The receiver (R190), while no answer waits or is sent: SILENCE_WAIT hears nothing until the silence ends, IDLE waits for
the marker, RECEIVING gathers characters until the frame is whole; a length above 48, a character without its stop
bit or a gap breaks the frame. Answers (R193, R194, R187): a waiting answer is sent whole; a character that comes
first withdraws it; and a soft reset is due when its answer has been sent or withdrawn.
A gap after the marker alone, and CHARACTER_RECEIVED with a completing or breaking character, are as log entries 25 and 28. -/
def Obligations.ReceiverAndAnswers : Prop :=
  (∀ (c : Byte) (s : State), s.held = false → s.lnk.sending = none → s.lnk.waiting = none → s.lnk.soft ≠ .due →
    let line := fun (r : Receiver) (buf : List Byte) =>
      s.withLnk { s.lnk with receiver := r, buffer := buf, quietMs := 0 }
    let char := fun (u : State) => exec (.characterReceived c) s = .next (settle s u)
    let broken := fun (r : Receiver) => offer (line r []) ⟨.frameFormat, none, false⟩
    (s.lnk.receiver = .silenceWait → char (line .silenceWait s.lnk.buffer) ∧
      exec .silenceEnd s = .next (settle s (s.withLnk { s.lnk with receiver := .idle }))) ∧
    (s.lnk.receiver = .idle → c = 0xC5#8 → char (line .receiving [])) ∧
    (s.lnk.receiver = .idle → c ≠ 0xC5#8 → char (line .idle s.lnk.buffer)) ∧
    (s.lnk.receiver = .receiving →
      exec .frameGapTimeout s = .next (settle s (broken .idle)) ∧
      exec (.frameFormatAbort c false) s = .next (settle s (broken .silenceWait)) ∧
      (s.lnk.buffer.length = 3 → 48 < c.toNat → char (broken .silenceWait) ∧
        exec (.frameFormatAbort c true) s = .next (settle s (broken .silenceWait))) ∧
      ((s.lnk.buffer.length ≠ 3 ∨ c.toNat ≤ 48) →
        (bufferComplete (s.lnk.buffer ++ [c]) = false → char (line .receiving (s.lnk.buffer ++ [c]))) ∧
        (bufferComplete (s.lnk.buffer ++ [c]) = true →
          char (frameFate (s.lnk.buffer ++ [c]) (line .idle [])))))) ∧
  ((∀ (a : Answer) (s : State), s.held = false → s.lnk.waiting = some a → s.lnk.sending = none →
    exec .answerSend s = .next (settle s (s.withLnk { s.lnk with
      waiting := none, sending := some a, quietMs := 0 }))) ∧
  (∀ (a : Answer) (s : State), s.held = false → s.lnk.sending = some a →
    exec .answerEnd s = .next (settle s (s.withLnk { s.lnk with
      sending := none, receiver := .idle, buffer := [], quietMs := 0
      soft := if s.lnk.soft = .answering then .due else s.lnk.soft })) ∧
    ∀ c : Byte, exec (.characterReceived c) s = .next (settle s s)) ∧
  ∀ (a : Answer) (c : Byte) (s : State), s.held = false → s.lnk.waiting = some a → s.lnk.sending = none →
    (s.lnk.soft = .answering → exec (.answerWithdrawn c) s = .next (settle s (s.withLnk { s.lnk with
      waiting := none, soft := .due, quietMs := 0 }))) ∧
    (s.lnk.soft = .none → exec (.answerWithdrawn c) s = .next (settle s (receive c true (s.withLnk { s.lnk with
      waiting := none, quietMs := 0 })))))

/-- A request that crosses the line as a frame (R189), character by character, marker first and CRC last, does to a listening
part what the request's own taking does (R190 to R192); and the CRC of R191 differs wherever one character does.
That a request row stands for its whole frame is the model's choice (log entry 28). -/
def Obligations.FramesCarryTheirRequests : Prop :=
  (∀ (k : ReqKind) (src : Station) (p : List Byte) (s : State), Listening s → s.lnk.receiver = .idle →
    p.length ≤ 48 →
    (frameChars (BitVec.ofNat 8 (0x10 + s.pst.straps.toNat % 4)) src (BitVec.ofNat 8 (reqCode k)) p).foldl
      (fun u c => charArrives c true u) s = takeKind k src p s) ∧
  (∀ (a b : List Byte) (x y : Byte), x ≠ y → crcChars (a ++ x :: b) ≠ crcChars (a ++ y :: b))

/-! ### Resets and the profile store -/

/-- While a power-on or a pin reset is held (R171), every block has its reset values: the identifier those of Table 1-13, the
channels of Table 2-14, the outputs of Table 3-8, the cab unit of Table 4-6, the section map of Table 5-10, the
sequencer of Table 6-11 and R110, ice clearing of Table 7-13, the profile store of Table 9-9, the link of R198. The inputs
keep their levels, and a pin reset keeps the fault banks, which a power-on reset clears (R169).
The straps are sampled at the release; until then the model keeps the old sample (log entry 1). That the commands which
wait stay is its reading (log entry 35); profile_source before a load, and the values of the model's own fields
lossLimit, serviceLapseMs and serviceLapsed, are its choice (log entries 23 and 22). -/
def Obligations.HeldResetGivesTheResetValues : Prop :=
  ∀ s : State, ∃ t u, exec .powerOnReset s = .next t ∧ exec .pinReset s = .next u ∧
    u.flt = s.flt ∧ t = u.withFlt t.flt ∧ (∀ b, bank t.flt b = ⟨none, 0, false, false, false, false⟩) ∧
    u.pending = s.pending ∧ u.held = true ∧ u.roofState = .starting ∧ u.now = 0 ∧ u.runMs = 0 ∧
    u.lsi = {
      filling := ⟨[], 0, 0, 0⟩, evaluating := none, candidate := none, runCount := 0, measured := .none
      record := { count := 0, source := none, sat := 0, meanV := 0, rmsV := 0, crossings := 0, fcHz := 0, cls := .none
                  reason := none }
      checkPattern := none, checkResult := .notRun } ∧
    (∀ c, chan u c = {
      state := .lowered, role := .none, heightMm := 0, heightValid := false, forceN := 0, forceTarget := 40
      integrator := 0, arcArmed := false, stateTime := 0, lowForceTime := 0, dumpOn := false, lockout := none
      headok := (chan s c).headok, forceRangeArmed := true, hold := .idle, lastInvalid := false, lowForce := false
      lossLimit := 1000 }) ∧
    u.pcu = { chans := u.pcu.chans, preferred := none, collectorHold := false, scraperHold := false } ∧
    (∀ c, valve u c = ⟨.loop, .none, 0, 0, false, 0⟩) ∧ (∀ z, zoneOut u z = ⟨.loop, .none, 0, 0, false, 0⟩) ∧
    u.ros.auxok = s.ros.auxok ∧
    u.cau = {
      actA := none, actB := none, actTool := none, active := none, activeSince := 0, demand := none
      conv := ⟨.off, none, none, false⟩, serviceLapseMs := 3000, serviceLapsed := false } ∧
    u.smp = {
      table := []
      pos := { valid := false, positionM := 0, remainderMm := 0, track := 0, minus := false, speed := 0
               speedClamped := false, reportTime := none, stale := false, travelMm := 0 }
      outlook := { valid := false, kind := .unknown, conflict := false, iceHere := false, lookaheadM := 0, next := none
                   distance := none, following := none }
      prevConflict := false } ∧
    (∀ b, brk u b = ⟨if (brk s b).feedback = true then .opening else .opened, false, false, (brk s b).feedback, 0⟩) ∧
    u.chg = {
      bka := u.chg.bka, bkd := u.chg.bkd, target := none, inForce := none, seq := none, ended := [], shed := true } ∧
    u.ice = {
      mode := .off, index := 0, level := .clear, arcCount := 0, watch := false, ambient := 0, ambientValid := false
      ambientArmed := true, strip := ⟨0, 0, 0, 0⟩, stripHot := ⟨false, false, false, false⟩, counters := ⟨0, 0, 0, 0⟩
      pointer := none, slot := .idle, scraperRequest := false, winterRequest := false } ∧
    u.pst = {
      straps := s.pst.straps, live := false, profile := [], link := [], winter := [], winterHeld := []
      winterState := .off, fromEeprom := false, reason := none, segs := List.replicate 9 .notRead, reverted := []
      descriptors := [], load := .idle, lastSet := none, settle := false } ∧
    u.lnk = {
      receiver := .silenceWait, buffer := [], waiting := none, sending := none, soft := .none, quietMs := 0 }

/-- The release of a reset (R171, R172, R174): roof time starts from 0, the straps are sampled, and the load waits for
the header; with STRAP4 at 0 STARTING ends at once with the defaults. A soft reset acts as a pin reset released at
once (R187).
profile_source before the load is the model's (log entry 23); the straps of a soft reset are its operand (log entry 26);
that a release with no reset held changes nothing is the model's reading (log entry 35). -/
def Obligations.ReleaseBeginsTheLoad : Prop :=
  ∀ (straps : BitVec 5) (s : State),
    let fresh := fun (u : State) => (((u.withHeld false).withNow 0).withRoof .starting).withPst
      { Pst.reset straps with load := .header }
    let defaults := fun (t : State) =>
      t.held = false ∧ t.now = 0 ∧ t.pst.straps = straps ∧ t.pst.live = true ∧ t.pst.fromEeprom = false ∧
      t.pst.reason = some .strap ∧ t.pst.load = .idle ∧ t.pst.profile = [] ∧
      t.roofState = if anyCorrupt t.flt = true then .safeHeld else .ready
    (s.held = true → straps.getLsbD 4 = true → exec (.resetRelease straps) s = .next (fresh s)) ∧
    (s.held = true → straps.getLsbD 4 = false → ∃ t, exec (.resetRelease straps) s = .next t ∧ defaults t) ∧
    (s.held = false → exec (.resetRelease straps) s = .next s) ∧
    (s.held = false → s.lnk.soft = .due → straps.getLsbD 4 = true →
      exec (.softResetAction straps) s = .next (fresh (holdReset s.flt s))) ∧
    (s.held = false → s.lnk.soft = .due → straps.getLsbD 4 = false →
      ∃ t, exec (.softResetAction straps) s = .next t ∧ defaults t)

/-- The end of STARTING (R179, R170, R110): the loaded table is in force, identification starts afresh, a breaker is
OPEN or, with its feedback still CLOSED, FAILED and with roof_corrupt set (where the records hold, `RecordsHold`), and
the roof is SAFE_HELD exactly with a roof_corrupt.
The order of the blocks is the model's reading (log entry 17). -/
def Obligations.StartingEndsReadyOrSafeHeld : Prop :=
  ∀ s : State, s.roofState = .starting →
    let t := endStarting s
    t.pst = { s.pst with live := true, load := .idle } ∧ t.runMs = 0 ∧ t.held = s.held ∧ t.now = s.now ∧
    t.roofState = (if anyCorrupt t.flt = true then .safeHeld else .ready) ∧
    t.lsi.measured = .none ∧ t.lsi.candidate = none ∧ t.lsi.filling = Window.empty ∧ t.smp.table = s.smp.table ∧
    (∀ b, (brk t b).state = if (brk s b).feedback = true then .failed else .opened) ∧
    (RecordsHold s → ∀ b, (brk s b).feedback = true → anyCorrupt t.flt = true) ∧
    (t.ice.slot = if s.ros.auxok = true then .idle else .held)

/-- The reads of the profile load: the freeing of the bus by up to nine clock pulses and the header (R174), a segment
(R175), each read by up to three attempts (R197), and an EEPROM that stops answering (R177). The end of a winter read
and its failure (R185, R186): values are held until a force control period applies them, those of a cancelled read are
dropped, and only a read that was not cancelled reports WINTER_UNREAD.
The offers of a cancelled read, and their order, are the model's reading (log entries 15 and 18); that a failed winter
read leaves the segment's load state is its choice (log entry 44), and so is that a failed read of a segment with a
partial length offers the fault of the read alone (log entry 49); how the operands carry a read is log entry 46. -/
def Obligations.ProfileAndWinterReads : Prop :=
  (∀ s : State, s.held = false → s.roofState = .starting →
    let becomes := fun (c : Instr) (u : State) => exec c s = .next (settle s u)
    (s.pst.load = .header →
      (∀ sda a, (SdaStuck sda ∨ (SdaFreed sda ∧ ReadFails a)) → becomes (.profileHeaderRead ⟨sda, a⟩)
        (fallBack (offer s ⟨.eepromNoAnswer, none, false⟩) .noAnswer)) ∧
      ∀ sda a bs, SdaFreed sda → ReadGives a bs →
        (headerOk bs = false → becomes (.profileHeaderRead ⟨sda, a⟩)
          (fallBack (offer s ⟨.headerMissing, none, false⟩) .header)) ∧
        (headerOk bs = true → becomes (.profileHeaderRead ⟨sda, a⟩) (advanceLoad
          (s.withPst { s.pst with fromEeprom := true, descriptors := readDescriptors bs })
          [.common, variantSeg (s.pst.straps.toNat / 4 % 4), .system, .sections, .ice]))) ∧
    ∀ g rest, s.pst.load = .segment g rest →
      (∀ a bs, ReadGives a bs → bs.length = (descriptor s.pst g).last + 1 - (descriptor s.pst g).first →
        becomes (.segmentRead a) (advanceLoad (takeSegment g bs s) rest)) ∧
      (∀ a, ReadFails a → exec (.segmentRead a) s = exec .loadEepromNoAnswer s) ∧
      ∃ t, exec .loadEepromNoAnswer s = .next t ∧ t.pst.profile = [] ∧ t.pst.fromEeprom = false ∧
        t.pst.reason = some .noAnswer ∧ t.pst.segs = List.replicate 9 .notRead ∧ t.pst.reverted = [] ∧
        t.smp.table = s.smp.table.filter (fun e => !e.isFixed) ∧ t.pst.live = true) ∧
  (∀ s : State, s.held = false →
    let becomes := fun (c : Instr) (u : State) => exec c s = .next (settle s u)
    (∀ a bs, ReadGives a bs → bs.length = (descriptor s.pst .winter).last + 1 - (descriptor s.pst .winter).first →
      let r := winterTake bs s
      (s.pst.winterState = .reading →
        becomes (.winterReadEnd a) (r.1.withPst { r.1.pst with winterHeld := r.2, winterState := .pending })) ∧
      (s.pst.winterState = .cancelled →
        becomes (.winterReadEnd a) (r.1.withPst { r.1.pst with winterState := .off }))) ∧
    (∀ a, ReadFails a → exec (.winterReadEnd a) s = exec .winterReadFail s) ∧
    (s.pst.winterState = .reading → becomes .winterReadFail
      (offer (s.withPst { s.pst with winterState := .off }) ⟨.winterUnread, none, false⟩)) ∧
    (s.pst.winterState = .cancelled → becomes .winterReadFail (s.withPst { s.pst with winterState := .off }))) ∧
  ∀ (n : Nat) (s : State), s.held = false → n ≤ 2 →
    exec (.segmentRead (List.replicate n none)) s = .next (settle s s) ∧
    exec (.winterReadEnd (List.replicate n none)) s = .next (settle s s) ∧
    ∀ m sda, m ≤ 9 → SdaFreed sda →
      exec (.profileHeaderRead ⟨List.replicate m false, []⟩) s = .next (settle s s) ∧
      exec (.profileHeaderRead ⟨sda, List.replicate n none⟩) s = .next (settle s s)

/-! ### The line system identifier -/

/-- The mean of a window (R6): the nearest integer to S1/1,200, of two equally near the one farther from zero, and
mean_V is twice it. -/
def Obligations.MeanIsTheNearestInteger : Prop :=
  (∀ x : Int, 2 * (1200 * meanM x - x).natAbs ≤ 1200 ∧
    (2 * (1200 * meanM x - x).natAbs = 1200 → x.natAbs < 1200 * (meanM x).natAbs)) ∧
  meanM 945000 = 788 ∧ meanM (-945000) = -788 ∧
  (∀ x : Int, 1200 * -32768 ≤ x → x ≤ 1200 * 32767 → -32768 ≤ meanM x ∧ meanM x ≤ 32767) ∧
  ∀ (s : State) (w : Window), (windowRecord s w).meanV = 2 * meanM w.s1

/-- The variance figure and its root (R7). Over codes the numerator is not negative, V is at most 1,073,709,056, R is the
largest integer whose square does not exceed V and at most 32,767, rms_V is 2R, and a constant offset leaves it. -/
def Obligations.RmsIsTheIntegerRoot : Prop :=
  (∀ v : Nat, v < 4294967296 → rootOf v ^ 2 ≤ v ∧ v < (rootOf v + 1) ^ 2) ∧
  (∀ (s : State) (w : Window), (windowRecord s w).rmsV = 2 * rootOf (varianceV w)) ∧
  (∀ w : Window, SumsHold w → w.samples.length = 1200 →
    w.s1.natAbs ^ 2 ≤ 1200 * w.s2 ∧ varianceV w = (1200 * w.s2 - w.s1.natAbs ^ 2) / 1440000 ∧
    ((∀ x ∈ w.samples, -32768 ≤ x ∧ x ≤ 32767) → varianceV w ≤ 1073709056 ∧ rootOf (varianceV w) ≤ 32767)) ∧
  ∀ (w u : Window) (d : Int), SumsHold w → SumsHold u → w.samples.length = 1200 →
    u.samples = w.samples.map (· + d) → rootOf (varianceV u) = rootOf (varianceV w)

/-- A sample joins the window in progress (R1, R2): the divider's code or, in CHECK, the pattern's; the 1,200th passes the
window to evaluation. Its publication (R3, R11 to R13) shows its figures, class, run count and, where the run is long
enough, measured_system together; SATURATION is offered first. At a qualified result the breakers are examined
(Table 1-6), the sense check result is decided at the first one after entry to CHECK (R19), and an IDENTIFY stage is
ended, halted or kept waiting by its class (R124).
A window still evaluated is replaced (the model's choice, log entry 33); that a qualified INVALID halts the sequence before
INVALID_SYSTEM is offered is its reading (log entry 8). -/
def Obligations.WindowsAreFilledPublishedExamined : Prop :=
  (∀ (code : BitVec 16) (s : State), s.held = false →
    (s.roofState = .starting → exec (.roofVoltageSample code) s = .next (settle s s)) ∧
    ∀ x : Int, (s.roofState = .ready ∨ s.roofState = .safeHeld ∨ s.roofState = .check ∧ s.lsi.checkPattern = none →
        x = code.toInt) →
      (∀ p, s.roofState = .check → s.lsi.checkPattern = some p → x = patternSample p s.lsi.filling.samples.length) →
      s.roofState ≠ .starting →
      (s.lsi.filling.samples.length < 1199 →
        exec (.roofVoltageSample code) s = .next (settle s (s.withLsi { s.lsi with filling := s.lsi.filling.add x }))) ∧
      (s.lsi.filling.samples.length = 1199 →
        exec (.roofVoltageSample code) s = .next (settle s (s.withLsi { s.lsi with
          filling := Window.empty, evaluating := some (s.lsi.filling.add x) })))) ∧
  (∀ (w : Window) (s : State), s.held = false → s.lsi.evaluating = some w →
    let r := windowRecord s w
    let run := if s.lsi.candidate = some r.cls then min 255 (s.lsi.runCount + 1) else 1
    let needed := match r.cls with
      | .sys _ => effNat s Par.qualifyWindows
      | .none => effNat s Par.noneWindows
      | .invalid => effNat s Par.invalidWindows
    let shown := fun (m : LineClass) => s.withLsi { s.lsi with
      evaluating := none, record := r, candidate := some r.cls, runCount := run, measured := m }
    let warned := fun (u : State) => if 0 < w.sat then offer u ⟨.saturation, none, false⟩ else u
    (needed ≤ run →
      exec .windowPublication s = .next (settle s (handResult r.cls (warned (shown r.cls))))) ∧
    (run < needed → exec .windowPublication s = .next (settle s (warned (shown s.lsi.measured))))) ∧
  ((∀ (s : State) (k : LineClass),
    (closedBrk s = none → examineLine k s = s) ∧
    ∀ b, closedBrk s = some b →
      (k = .none → examineLine k s = offer s ⟨.lossOfLine, some (.breaker b), false⟩) ∧
      (k = .invalid → examineLine k s = offer s ⟨.invalidSystem, some (.breaker b), false⟩) ∧
      ∀ t, k = .sys t →
        (s.chg.inForce = some t → examineLine k s = s) ∧
        (s.chg.inForce ≠ some t → examineLine k s = offer s ⟨.lineMismatch, some (.breaker b), false⟩)) ∧
  (∀ (s : State) (k : LineClass),
    handResult k s = identifyResult k (examineLine k (decideCheck k s)) ∧
    ((∀ q, s.chg.seq = some q → q.stage ≠ .identify) → identifyResult k s = s) ∧
    ∀ q t, s.chg.seq = some q → q.stage = .identify → q.target = some t →
      let ctx := some (Ctx.breaker (brkOf (classOf t)))
      (k = .sys t → identifyResult k s = putSeq s { q with exit := some .next }) ∧
      (∀ u, k = .sys u → u ≠ t → identifyResult k s = offer s ⟨.changeMismatch, ctx, false⟩) ∧
      (k = .invalid → identifyResult k s = offer (endSeq s (.halted .invalidSystem) 0) ⟨.invalidSystem, ctx, false⟩) ∧
      (k = .none → identifyResult k s = s)) ∧
  ∀ (s : State) (k : LineClass) (p : Fin 4), s.lsi.checkPattern = some p →
    (s.roofState = .check → s.lsi.checkResult = .pending →
      (k = expectedClass p → decideCheck k s = s.withLsi { s.lsi with checkResult := .pass }) ∧
      (k ≠ expectedClass p → decideCheck k s =
        offer (s.withLsi { s.lsi with checkResult := .fail }) ⟨.checkFail, none, false⟩)) ∧
    ((s.roofState ≠ .check ∨ s.lsi.checkResult ≠ .pending) → decideCheck k s = s))

/-! ### Channels and outputs -/

/-- The readings of a channel (R25, R26, R28, R29, R33, R35). They are stored, force and strip temperature always and the
height in its range; a height outside it starts the hold, a force that needs clamping offers FORCE_RANGE once; and those
of a running roof take the transitions they meet.
The order of a failure's report and its offer is log entry 7.
That a channel which changes its state keeps low_force_time and arc_armed is the model's reading (log entry 21). -/
def Obligations.ReadingsMoveTheChannel : Prop :=
  ∀ (c : Chan) (h f t : Int) (s : State), s.held = false →
    let u := takeReading c h f t s
    exec (.channelReading c h f t) s = .next (settle s u) ∧
    (chan u c).forceN = (clampInt 0 500 f).toNat ∧ u.ice.strip.get c = t ∧
    (0 ≤ h → h ≤ 3200 → (chan u c).heightMm = h.toNat ∧ (chan u c).heightValid = true) ∧
    ((h < 0 ∨ 3200 < h) → (chan u c).heightMm = (chan s c).heightMm ∧
      (chan u c).heightValid = (chan s c).heightValid) ∧
    (Running s → fitted s c = true → 0 ≤ h → h ≤ 3200 → 0 ≤ f → f ≤ 500 → -600 ≤ t → t ≤ 1500 → t ≤ eff s Par.stripMax →
      let r := { chan s c with
        forceN := f.toNat, forceRangeArmed := true, heightMm := h.toNat, heightValid := true, lastInvalid := false,
        hold := .idle }
      let base := (putChan s c r).withIce { s.ice with
        strip := s.ice.strip.set c t, stripHot := s.ice.stripHot.set c false }
      (r.state = .raising → eff s Par.contactForce ≤ f → u = putChan base c { r with
        state := .inContact, stateTime := 0, lowForce := false, integrator := 0, arcArmed := true, lowForceTime := 0,
        lossLimit := effNat s Par.contactLossMs }) ∧
      (r.state = .raising → f < eff s Par.contactForce → h < eff s Par.maxHeight → u = base) ∧
      (r.state = .raising → f < eff s Par.contactForce → eff s Par.maxHeight ≤ h →
        u = offer (failLower base c) ⟨.noWire, some (.channel c), false⟩) ∧
      (r.state = .lowering → h < eff s Par.restHeight → u = putChan base c { r with
        state := .lowered, stateTime := 0, lowForce := false, dumpOn := false, lockout := none, role := .none,
        forceTarget := forceTargetOf s c .none }) ∧
      (r.state = .dropped → h < eff s Par.restHeight → u = putChan base c { r with
        state := .lockedOut, stateTime := 0, lowForce := false, dumpOn := false, lockout := some .headPressure,
        role := .none, forceTarget := forceTargetOf s c .none }) ∧
      (r.state = .inContact → eff s Par.lossForce ≤ f → eff s Par.contactForce ≤ f → u = putChan base c { r with
        lowForce := false, lowForceTime := 0, lossLimit := effNat s Par.contactLossMs, arcArmed := true }) ∧
      (r.state = .inContact → f < eff s Par.lossForce → r.arcArmed = true → r.lowForce = false →
        0 < effNat s Par.contactLossMs → r.role = .collector →
        let arc := offer (putChan base c { r with
          lowForce := true, lowForceTime := 0, lossLimit := effNat s Par.contactLossMs, arcArmed := false })
          ⟨.arc, some (.channel c), false⟩
        u = arc.withIce { arc.ice with arcCount := min 65535 (s.ice.arcCount + 1) }) ∧
      (r.state = .stuck → h < eff s Par.restHeight → u = putChan base c { r with
        state := if r.headok = true then .lowered else .lockedOut, stateTime := 0, lowForce := false, dumpOn := false
        lockout := if r.headok = true then none else some .headPressure, role := .none
        forceTarget := forceTargetOf s c .none }) ∧
      ((r.state = .lowering ∨ r.state = .dropped ∨ r.state = .stuck) → eff s Par.restHeight ≤ h → u = base) ∧
      ((r.state = .lowered ∨ r.state = .lockedOut ∨ r.state = .service) → u = base)) ∧
    (Running s → fitted s c = true → raised (chan s c) = false → (h < 0 ∨ 3200 < h) → 0 ≤ f → f ≤ 500 → -600 ≤ t →
      t ≤ 1500 → t ≤ eff s Par.stripMax →
      u = (putChan s c { chan s c with
        forceN := f.toNat, forceRangeArmed := true, lastInvalid := true
        hold := if (chan s c).hold = .idle then .running 0 else (chan s c).hold }).withIce { s.ice with
          strip := s.ice.strip.set c t, stripHot := s.ice.stripHot.set c false }) ∧
    ((h < 0 ∨ 3200 < h) → s.roofState = .starting → (chan u c).hold = (chan s c).hold) ∧
    (Running s → fitted s c = true → (chan s c).state = .lowered → 0 ≤ h → h ≤ 3200 → (f < 0 ∨ 500 < f) → -600 ≤ t →
      t ≤ 1500 → t ≤ eff s Par.stripMax →
      let stored := (putChan s c { chan s c with
        forceN := (clampInt 0 500 f).toNat, forceRangeArmed := false, heightMm := h.toNat, heightValid := true
        lastInvalid := false, hold := .idle }).withIce { s.ice with
          strip := s.ice.strip.set c t, stripHot := s.ice.stripHot.set c false }
      ((chan s c).forceRangeArmed = true → u = logOffer stored .forceRange (some (.channel c))) ∧
      ((chan s c).forceRangeArmed = false → u = stored))

/-- The loss and return of HEADOK (Table 2-6), and the failure of a height sensor (Table 2-3), for a fitted channel of a
running roof.
The order of a failure's report and its offer is log entry 7.
That a channel which changes its state keeps low_force_time and arc_armed is the model's reading (log entry 21). -/
def Obligations.HeadokAndHeightSensorFail : Prop :=
  ∀ (c : Chan) (s : State), Running s → fitted s c = true →
    let r := chan s c
    let ctx := some (Ctx.channel c)
    (exec (.headokRestored c) s = .next (settle s (putChan s c { r with headok := true }))) ∧
    (r.headok = true →
      let low := putChan s c { r with headok := false }
      let becomes := fun (u : State) => exec (.headokLost c) s = .next (settle s u)
      let drops := fun (u : State) => becomes (offer u ⟨.autoDrop, ctx, r.role == .collector⟩)
      ((r.state = .raising ∨ r.state = .inContact) → drops (failInto low c .dropped)) ∧
      (r.state = .lowering → drops (putChan low c { r with headok := false, state := .dropped, dumpOn := true })) ∧
      (r.state = .lowered → drops (putChan low c { r with
        headok := false, state := .lockedOut, stateTime := 0, lowForce := false, lockout := some .headPressure })) ∧
      (r.state = .stuck → drops low) ∧
      (r.state = .service → drops (dumpInService low c)) ∧
      ((r.state = .dropped ∨ r.state = .lockedOut) → becomes low)) ∧
    (∀ ms, r.hold = .running ms → 100 ≤ ms →
      let dead := { r with heightValid := false, hold := .failed }
      let fails := fun (u : State) =>
        exec (.heightSensor c) s = .next (settle s (offer u ⟨.heightSensor, ctx, false⟩))
      ((r.state = .raising ∨ r.state = .inContact) → fails (failInto (putChan s c dead) c .lowering)) ∧
      ((r.state = .lowering ∨ r.state = .dropped ∨ r.state = .stuck) →
        fails (putChan s c { dead with dumpOn := true })) ∧
      (r.state = .lowered → fails (putChan s c { dead with
        state := .lockedOut, stateTime := 0, lowForce := false, lockout := some .heightSensor })) ∧
      (r.state = .lockedOut → fails (putChan s c dead)) ∧
      (r.state = .service → fails (dumpInService (putChan s c dead) c)))

/-- The channel timers (R28, R30, R33, R35): raise_timeout_ms and contact_loss_ms lower the channel by a failure;
lower_timeout_ms leaves it STUCK with the dump on and brings the roof to SAFE_HELD.
The order of a failure's report and its offer is log entry 7.
That a channel which changes its state keeps low_force_time and arc_armed is the model's reading (log entry 21). -/
def Obligations.ChannelTimersExpire : Prop :=
  ∀ (c : Chan) (s : State), Running s →
    let r := chan s c
    (r.state = .raising → effNat s Par.raiseTimeoutMs ≤ r.stateTime → exec (.raiseTimeout c) s =
      .next (settle s (offer (failLower s c) ⟨.raiseTimeout, some (.channel c), false⟩))) ∧
    (r.state = .inContact → r.lowForce = true → r.lossLimit ≤ r.lowForceTime → exec (.contactLoss c) s =
      .next (settle s (offer (failLower s c) ⟨.noWire, some (.channel c), false⟩))) ∧
    ((r.state = .lowering ∨ r.state = .dropped) → effNat s Par.lowerTimeoutMs ≤ r.stateTime →
      exec (.lowerTimeout c) s = .next (settle s (offer (putChan s c { r with
        state := .stuck, stateTime := 0, lowForce := false, dumpOn := true })
        ⟨.lowerTimeout, some (.channel c), false⟩)) ∧
      ∀ t, exec (.lowerTimeout c) s = .next t → t.roofState = .safeHeld)

/-- A force control period (R48, R50 to R52, R186): every target is computed, the loops run, and then the overlay is applied or
removed. The loop of a channel IN_CONTACT writes u clamped to 0–1000, and moves its integrator unless the valve is
saturated in the error's direction. Every force target lies within [F_min, F_max] (R49).
The order within the period is the model's reading (log entry 16). -/
def Obligations.ForceLoopFollowsItsLaw : Prop :=
  ((∀ s : State, Running s → exec .forceControlPeriod s =
    .next (settle s (winterPeriod (allChans.foldl forceLoop (retargetAll s))))) ∧
  ∀ (s : State) (c : Chan), (chan s c).state = .inContact →
    let r := chan s c
    let e := r.forceTarget - (r.forceN : Int)
    let u := eff s Par.dHold + Int.tdiv (eff s Par.kp * e) 16 + Int.tdiv r.integrator 256
    chan (forceLoop s c) c = { r with integrator :=
      (if (1000 < u ∧ 0 < e) ∨ (u < 0 ∧ e < 0) then r.integrator
      else clampInt (-256000) 256000 (r.integrator + eff s Par.ki * e)) } ∧
    ((valve s c).owner = .loop → (valve s c).handover = .none →
      valve (forceLoop s c) c = { valve s c with
        buffered := (clampInt 0 1000 u).toNat
        applied := if eff s Par.dutyImmediate = 1 then (clampInt 0 1000 u).toNat else (valve s c).applied })) ∧
  (∀ s : State, eff s Par.fMin ≤ eff s Par.fMax →
    (∀ c role, eff s Par.fMin ≤ forceTargetOf s c role ∧ forceTargetOf s c role ≤ eff s Par.fMax) ∧
    (∀ c, (chan (retargetAll s) c).forceTarget = forceTargetOf s c (chan s c).role) ∧
    ∀ c role, fitted s c = false → forceTargetOf s c role = eff s Par.fMin)

/-- Period boundaries (R55): each applied duty becomes the buffered one, and a safe period runs on. The end of a safe period
(R58, R60): a take that was cancelled, or of a valve whose channel is no longer LOWERED, gives the output back; any
other makes it SERVICE's; a return gives it to the loop, and a channel leaves SERVICE. A service lapse (R61) returns
every output, once for each silence of the tool.
The latched lapse time and mark are the model's (log entry 22); that the end of a safe period with no handover in
progress changes nothing is its reading (log entry 4).
That a channel which changes its state keeps low_force_time and arc_armed is the model's reading (log entry 21). -/
def Obligations.OutputPeriodsAndServiceLapse : Prop :=
  (∀ s : State, s.held = false →
    let next := fun (o : Out) => { o with
      applied := o.buffered, safeLeft := if o.handover = .none then o.safeLeft else o.safeLeft - 1 }
    ∃ u w, exec .valvePeriodBoundary s = .next (settle s u) ∧ exec .heaterPeriodBoundary s = .next (settle s w) ∧
      u = s.withRos { s.ros with valves := u.ros.valves } ∧ (∀ c, valve u c = next (valve s c)) ∧
      w = s.withRos { s.ros with zones := w.ros.zones } ∧ ∀ z, zoneOut w z = next (zoneOut s z)) ∧
  (∀ (o : Output) (s : State), s.held = false → (outOf s o).safeLeft = 0 →
    let r := outOf s o
    let becomes := fun (u : State) => exec (.safePeriodEnd o) s = .next (settle s u)
    let back := putOut s o { r with handover := .none, cancelled := false }
    let mine := putOut s o { r with owner := .service, handover := .none }
    (r.handover = .toService → r.cancelled = true → becomes back) ∧
    (r.handover = .toService → r.cancelled = false →
      (∀ z, o = .zone z → becomes mine) ∧
      ∀ c, o = .valve c →
        ((chan s c).state ≠ .lowered → becomes back) ∧
        ((chan s c).state = .lowered → becomes (putChan mine c { chan s c with
          state := .service, stateTime := 0, lowForce := false }))) ∧
    (r.handover = .toLoop →
      let given := putOut s o { r with owner := .loop, handover := .none }
      (∀ z, o = .zone z → becomes given) ∧
      ∀ c, o = .valve c → becomes (leaveService given c)) ∧
    (r.handover = .none → becomes s)) ∧
  (∀ (m : Nat) (s : State), s.held = false → s.cau.actTool = some m → s.cau.serviceLapseMs ≤ s.now - m →
    s.cau.serviceLapsed = false → (∃ o, (outOf s o).owner = .service ∨ (outOf s o).handover = .toService) →
    let told := offer (s.withCau { s.cau with serviceLapsed := true }) ⟨.serviceLapse, some (.station 4), false⟩
    exec .serviceLapse s = .next (settle s (mapZones (mapValves told returnOut) returnOut)))

/-! ### Ice clearing -/

/-- The ambient reading (R134) and the AUXOK input (R64, R147): zones are cut at once when AUXOK goes inactive, and the slot
is HELD with AUX_LOST offered; on its return the slot leaves HELD.
That inputs are followed while a reset is held is the model's reading (log entry 35), and so is a loss of AUXOK that is
inactive already, which changes nothing (log entries 4 and 32). -/
def Obligations.AmbientAndAuxokAreTaken : Prop :=
  ∀ (t : Int) (s : State),
    (s.held = false →
      let becomes := fun (u : State) => exec (.ambientReading t) s = .next (settle s u)
      (-600 ≤ t → t ≤ 1000 → becomes (s.withIce { s.ice with
        ambient := t, ambientValid := true, ambientArmed := true })) ∧
      ((t < -600 ∨ 1000 < t) → s.ice.ambientValid = true → s.ice.ambientArmed = true →
        becomes (offer (s.withIce { s.ice with ambientArmed := false }) ⟨.ambientSensor, none, false⟩)) ∧
      ((t < -600 ∨ 1000 < t) → (s.ice.ambientValid = false ∨ s.ice.ambientArmed = false) → becomes s)) ∧
    (s.ros.auxok = true → ∃ u, u = s.withRos { s.ros with auxok := false, zones := u.ros.zones } ∧
      (∀ z, zoneOut u z = { zoneOut s z with applied := 0, buffered := 0 }) ∧
      (s.roofState = .starting → exec .auxokLost s = .next (settle s u)) ∧
      (s.roofState ≠ .starting → exec .auxokLost s = .next (settle s
        (offer (u.withIce { s.ice with slot := .held }) ⟨.auxLost, none, false⟩)))) ∧
    (s.ros.auxok = false → exec .auxokLost s = .next (settle s s)) ∧
    exec .auxokReturn s = .next (settle s ((s.withRos { s.ros with auxok := true }).withIce { s.ice with
      slot := if s.ice.slot = .held then .idle else s.ice.slot }))

/-- The index update (R136 to R138): the sum of Table 7-2 clamped to 0–1000, the arcs used up, the level by Table 7-3, and
PST asked for the overlay on entry to ICING and for its removal on entry to CLEAR. -/
def Obligations.IceIndexIsUpdated : Prop :=
  (∀ s : State, Running s →
    let arcs : Int := s.ice.arcCount * eff s Par.wArc
    let cold : Int := if s.ice.ambientValid = true ∧ eff s Par.tLowLimit ≤ s.ice.ambient ∧ s.ice.ambient ≤ eff s Par.tIce
      then eff s Par.wCold else 0
    let watch : Int := if s.ice.watch = true then eff s Par.wWatch else 0
    let index := (clampInt 0 1000 ((s.ice.index : Int) + arcs + cold + watch - eff s Par.decay)).toNat
    let level := nextLevel s s.ice.level index
    let u := s.withIce { s.ice with index := index, arcCount := 0, level := level }
    let becomes := fun (u : State) => exec .iceIndexUpdate s = .next (settle s u)
    (level = s.ice.level → becomes u) ∧
    (level ≠ s.ice.level → level = .alert → becomes u) ∧
    (level ≠ s.ice.level → level = .icing → becomes (winterApply (u.withIce { u.ice with winterRequest := true }))) ∧
    (level ≠ s.ice.level → level = .clear →
      becomes (winterRemove (u.withIce { u.ice with winterRequest := false })))) ∧
  ∀ (s : State) (i : Nat),
    (nextLevel s .clear i = if eff s Par.icingOn ≤ i then .icing else if eff s Par.alertOn ≤ i then .alert else .clear) ∧
    (nextLevel s .alert i = if eff s Par.icingOn ≤ i then .icing else if (i : Int) < eff s Par.alertOff then .clear
      else .alert) ∧
    (nextLevel s .icing i = if (i : Int) < eff s Par.alertOff then .clear else if (i : Int) < eff s Par.icingOff
      then .alert else .icing)

/-- The expiry of a slot is a slot start (R142, R145), and while HELD no slot starts. Where no zone is eligible the slot is
IDLE, every LOOP zone is written 0, and nothing else changes. Else the first group with an eligible zone is chosen, after
group_pointer in group order (R142); its zones are examined step by step from its counter, by order 0 or 1, and the
eligible ones taken until the take limit is reached or every position has been examined, and the counter moves past the
positions examined (R143); the duty is that of R144; and every LOOP zone is written, those taken with the duty and all
others with 0 (R145). -/
def Obligations.SlotStartsTakeEligibleZones : Prop :=
  (∀ (x : Slot) (s : State), s.held = false → s.ice.slot = .running x → effNat s Par.slotMs ≤ x.time →
    exec .slotExpiry s = .next (settle s (slotStart s))) ∧
  ∀ s : State,
    let t := slotStart s
    let written := fun (duty : Fin 16 → Nat) => ∀ z, zoneOut t z =
      if loopOwns (zoneOut s z) = true then { zoneOut s z with buffered := duty z } else zoneOut s z
    (s.ice.slot = .held → t = s) ∧
    (s.ice.slot ≠ .held → eligibleZones s = [] →
      t = (s.withIce { s.ice with slot := .idle }).withRos t.ros ∧ t.ros.valves = s.ros.valves ∧
      t.ros.auxok = s.ros.auxok ∧ written fun _ => 0) ∧
    ∀ n, (n = 4 ∨ n = 8) → effNat s Par.groupSize = n → s.ice.slot ≠ .held → eligibleZones s ≠ [] →
      let zone := fun (g j : Nat) => Fin.ofNat 16 (n * g + j)
      let usable := fun (g : Nat) => ∃ j, j < n ∧ zoneEligible s (zone g j) = true
      let first := match s.ice.pointer with
        | some g => chanIndex g + 1
        | none => 0
      ∃ i m x,
        let g := (first + i) % (16 / n)
        let c := s.ice.counters.get (chanAt g)
        let pos := fun (k : Nat) => if eff s Par.order = 1 then c ^^^ k else (c + k) % n
        let taken := fun (k : Nat) => ((List.range k).map fun k => zone g (pos k)).filter (zoneEligible s)
        i < 16 / n ∧ usable g ∧ (∀ h, h < i → ¬ usable ((first + h) % (16 / n))) ∧
        m ≤ n ∧ x.zones = taken m ∧ x.zones.length ≤ takeLimit s ∧ (m = n ∨ x.zones.length = takeLimit s) ∧
        (∀ k, k < m → (taken k).length < takeLimit s) ∧
        x.group = chanAt g ∧ x.time = 0 ∧ x.rate2x = slotRate2x s ∧
        (x.rate2x = true ↔ eff s Par.rateFixed2x = 1 ∨
          (eff s Par.rateTrack = 1 ∧ s.ice.ambientValid = true ∧ s.ice.ambient ≤ eff s Par.tCold2x)) ∧
        x.duty = (if x.rate2x = true then min 1000 (2 * effNat s Par.baseDuty) else effNat s Par.baseDuty) ∧
        t = (s.withIce { s.ice with
          pointer := some (chanAt g), counters := s.ice.counters.set (chanAt g) ((c + m) % n)
          slot := .running x }).withRos t.ros ∧
        t.ros.valves = s.ros.valves ∧ t.ros.auxok = s.ros.auxok ∧
        written fun z => if z ∈ x.zones then x.duty else 0

/-- In a running roof no more heater zones than heater_budget have a buffered duty above 0, and none has a duty above 0
while AUXOK is inactive (R63, R64).
That the applied duties are not counted is the model's choice (log entry 42). -/
def Obligations.HeatersFitBudgetAndSupply : Prop :=
  ∀ s t : State, step s = .next t → (BudgetHolds s → BudgetHolds t) ∧ (AuxHolds s → AuxHolds t)

/-! ### The cab's timers, the converter's age and the position -/

/-- The times that lapse in the cab unit: the cab (R73), the raise demand (R76) and the converter record (R80). An odometer
pulse (R96) moves a valid position, clamped at both ends, and recomputes the outlook after each 10 m (R101); a
position lapse (R97) makes it stale. A change of converter_lapse_ms applies at once, in both directions (R80).
That an early CAB_LAPSE or POSITION_LAPSE changes nothing is the model's reading (log entry 4). -/
def Obligations.TimesOfTheCabAndThePosition : Prop :=
  (∀ s : State, s.held = false →
    (∀ v, s.cau.active = some v →
      (∀ m, activityOf s.cau v = some m → effNat s Par.cabLapseMs ≤ s.now - max m s.cau.activeSince →
        let told := offer s ⟨.cabLapse, some (.station (stationAddress (vcuStation v))), false⟩
        exec .cabLapse s = .next (settle s (roofDownRequest
          (told.withCau { told.cau with active := none, activeSince := told.now }) .cabLapse (vcuOrigin v)))) ∧
      (∀ m, activityOf s.cau v = some m → s.now - max m s.cau.activeSince < effNat s Par.cabLapseMs →
        exec .cabLapse s = .next (settle s s))) ∧
    (∀ d, s.cau.demand = some d → effNat s Par.demandLifetimeMs ≤ s.now - d.refresh →
      exec .demandExpiry s = .next (settle s (roofDownRequest s .demandExpiry (vcuOrigin d.origin)))) ∧
    (∀ m, s.cau.conv.fresh = true → s.cau.conv.reportTime = some m → effNat s Par.converterLapseMs ≤ s.now - m →
      exec .converterStale s = .next (settle s (examineConverter
        (s.withCau { s.cau with conv := { s.cau.conv with fresh := false } }))))) ∧
  (∀ (v : Int) (m : Nat) (s : State), s.cau.conv.reportTime = some m →
    let u := takeSet Par.converterLapseMs v s
    eff u Par.converterLapseMs ≠ eff s Par.converterLapseMs →
      (u.cau.conv.fresh = true ↔ s.now - m < effNat u Par.converterLapseMs) ∧
      u.cau.conv = { s.cau.conv with fresh := u.cau.conv.fresh }) ∧
  (∀ s : State, s.held = false →
    (s.smp.pos.valid = false → exec .odometerPulse s = .next (settle s s)) ∧
    (s.smp.pos.valid = true →
      let mm := effNat s Par.odometerMm
      let a := s.smp.pos.positionM * 1000 + s.smp.pos.remainderMm
      let b := if s.smp.pos.minus = true then a - mm else min 16777215000 (a + mm)
      let travel := s.smp.pos.travelMm + ((a - b) + (b - a))
      let moved := fun (n : Nat) => s.withSmp { s.smp with pos := { s.smp.pos with
        positionM := b / 1000, remainderMm := b % 1000, travelMm := n } }
      (travel < 10000 → exec .odometerPulse s = .next (settle s (moved travel))) ∧
      (10000 ≤ travel → exec .odometerPulse s = .next (settle s (newOutlook (moved (travel - 10000)))))) ∧
    ∀ m, s.smp.pos.valid = true → s.smp.pos.stale = false → s.smp.pos.reportTime = some m →
      (effNat s Par.positionLapseS * 1000 ≤ s.now - m → exec .positionLapse s = .next (settle s (newOutlook
        (offer (s.withSmp { s.smp with pos := { s.smp.pos with stale := true } })
          ⟨.positionLapse, some (.position s.smp.pos.positionM), false⟩)))) ∧
      (s.now - m < effNat s Par.positionLapseS * 1000 → exec .positionLapse s = .next (settle s s)))

/-! ### Breakers and stage timers -/

/-- Feedback changes (R105, R107, R108, R110) and the ends of close_time and open_time (R106, R107).
The order within an event, and a level that is no change, are the model's reading (log entries 8, 9, 32). -/
def Obligations.BreakersFollowTheirFeedback : Prop :=
  ∀ (b : Brk) (s : State),
    let r := brk s b
    let rest := fun (fb : Bool) (st : BrkState) => putBrk s b ⟨st, false, false, fb, 0⟩
    let change := fun (fb : Bool) (u : State) => exec (.breakerFeedbackChange b fb) s = .next (settle s u)
    let shed := fun (u : State) => u.withChg { u.chg with shed := true }
    (change r.feedback s) ∧
    (s.roofState = .starting → r.feedback = false → change true (rest true .opening)) ∧
    (s.roofState = .starting → r.feedback = true → change false (rest false .opened)) ∧
    (s.roofState ≠ .starting → r.feedback = false →
      (r.state = .closing →
        let made := putBrk s b ⟨.closed, false, true, true, 0⟩
        change true (automaticStart (examineConverter (forceChanged s.chg.inForce (recordEnd
          (made.withChg { made.chg with inForce := s.chg.target, shed := false }) .complete 0))))) ∧
      (r.state = .opened → change true
        (offer (openBrk (rest true .failed) (otherBrk b)) ⟨.breakerUncommanded, some (.breaker b), false⟩))) ∧
    (s.roofState ≠ .starting → r.feedback = true →
      (r.state = .closed → change false (offer (shed (rest false .opened)) ⟨.breakerTripped, some (.breaker b), false⟩)) ∧
      ((r.state = .opening ∨ r.state = .failed) → change false (rest false .opened))) ∧
    (s.held = false → r.state = .closing → effNat s Par.closeTime ≤ r.opTime → ∀ fb,
      exec (.closeTimeExpiry b fb) s = .next (settle s (offer
        (endSeq (rest r.feedback (if fb = true then .failed else .opened)) (.halted .closeFailed) 0)
        ⟨.breakerCloseFail, some (.breaker b), false⟩))) ∧
    (s.held = false → s.roofState ≠ .starting → r.state = .opening → effNat s Par.openTime ≤ r.opTime →
      exec (.openTimeExpiry b true) s = .next (settle s
        (offer (rest r.feedback .failed) ⟨.breakerOpenFail, some (.breaker b), false⟩)) ∧
      exec (.openTimeExpiry b false) s = .next (settle s (rest r.feedback .opened)))

/-- The stage timers (R118, R121, R122, R124, R125): a timer's fault names the breaker of the target's class or, while the
target is absent, of the class of the system left. The test of an outlook in WAIT_SECTION, of a NEUTRAL_PASS or
LOWER_PASS (R121) and of a CHANGEOVER (R122), and how a stage that it ends is left. The settle interval ends 100 ms
after the last PARAMETER SET answered DONE, and no sooner (R184).
That a LOWER_ZONE is looked at first, where channels of a CHANGEOVER are up by the roof-down condition, is the model's
reading (log entries 11 and 30), and so is an early SETTLE_INTERVAL_END, which changes nothing (log entry 4). -/
def Obligations.StageTimersAndSettleInterval : Prop :=
  (∀ (q : Sequence) (s : State), s.held = false → s.chg.seq = some q →
    let ctx : Option Ctx := (if q.target.isSome = true then q.target else q.fromSys).map
      fun t => .breaker (brkOf (classOf t))
    (q.stage = .shed → effNat s Par.shedTimeout ≤ q.stageTime →
      exec .shedTimeout s = .next (settle s (putSeq
        (offer s ⟨.shedTimeout, (closedBrk s).map .breaker, false⟩) { q with exit := some .next }))) ∧
    ((q.stage = .waitSection ∨ q.stage = .identify) → effNat s Par.deadRunS * 1000 ≤ q.stageTime →
      exec .deadRun s = .next (settle s (offer s ⟨.deadRun, ctx, false⟩))) ∧
    (∀ m, q.stage = .identify → q.identifyTime = some m → effNat s Par.identifyTimeout ≤ m →
      exec .identifyTimeout s = .next (settle s (offer s ⟨.deadRun, ctx, false⟩))) ∧
    (q.stage = .converter → q.convTimerDone = false → effNat s Par.converterTimeout ≤ q.stageTime →
      exec .converterTimeout s = .next (settle s
        (offer (putSeq s { q with convTimerDone := true }) ⟨.converterTimeout, ctx, false⟩)))) ∧
  (∀ (q : Sequence) (s : State), s.chg.seq = some q → q.stage = .waitSection →
    let o := s.smp.outlook
    let becomes := fun (r : Sequence) => waitTest s = putSeq s r
    let lower : Prop := o.kind = .lowerZone ∨ o.next = some .lowerZone
    (q.kind ≠ .changeover → o.valid = false → becomes { q with exit := some .next }) ∧
    (q.kind = .neutralPass → o.valid = true → lower → becomes { q with
      kind := .lowerPass, awaited := some .lowerZone, lowerAll := true, exit := some .lowering }) ∧
    (q.kind ≠ .changeover → o.valid = true → (q.kind = .neutralPass → ¬ lower) →
      let inside : Prop := q.phase = some .inside ∨ ∃ a, q.awaited = some a ∧ o.kind = awaitedKind a
      let gone : Prop := if q.kind = .lowerPass then o.kind ≠ .lowerZone else o.kind ≠ .neutral ∧ o.kind ≠ .separation
      (inside → gone → becomes { q with phase := some .inside, exit := some .next }) ∧
      (inside → ¬ gone → becomes { q with phase := some .inside }) ∧
      (¬ inside → (∃ a, q.awaited = some a ∧ o.next = some (awaitedKind a)) → becomes q) ∧
      (¬ inside → (¬ ∃ a, q.awaited = some a ∧ o.next = some (awaitedKind a)) → becomes { q with exit := some .next })) ∧
    (q.kind = .changeover →
      (o.valid = false → q.target.isSome = true → becomes { q with exit := some .next }) ∧
      (o.valid = false → q.target = none → becomes { q with exit := some (.halt .noTarget 0) }) ∧
      (o.valid = true → lower → roofDown s = false → becomes { q with lowerAll := true, exit := some .lowering }) ∧
      (o.valid = true → (lower → roofDown s = true) →
        (∀ g, q.target = some g →
          (o.kind = .sys g → becomes { q with exit := some .next }) ∧ (o.kind ≠ .sys g → becomes q)) ∧
        (q.target = none →
          ((∀ g, o.kind ≠ .sys g) → becomes { q with phase := some .inside }) ∧
          ∀ g, o.kind = .sys g →
            ((q.phase = some .inside ∨ q.fromSys ≠ some g) → waitTest s = s.withChg { s.chg with
              target := some g, seq := some { q with target := some g, exit := some .next } }) ∧
            (q.phase ≠ some .inside → q.fromSys = some g → becomes q)))) ∧
    (q.exit = none → stageStep s = none) ∧ (q.exit = some .lowering → stageStep s = some (enterStage .lowering s)) ∧
    (∀ r n, q.exit = some (.halt r n) → stageStep s = some (endSeq s (.halted r) n)) ∧
    (q.exit = some .next → stageStep s = some
      (if q.kind = .neutralPass then enterStage .identify s else enterStage .raising s))) ∧
  (∀ (m : Nat) (s : State), s.held = false → s.pst.settle = true → s.pst.lastSet = some m →
    (100 ≤ s.now - m → exec .settleIntervalEnd s = .next (settle s (s.withPst { s.pst with settle := false }))) ∧
    (s.now - m < 100 → exec .settleIntervalEnd s = .next (settle s s)))

/-! ### Protection -/

/-- Logging by priority and counting (Table 8-2, R157, R158). -/
def Obligations.OffersAreLoggedByPriority : Prop :=
  ∀ (b : Bank) (k : FaultKind) (ctx : Option Ctx) (time : BitVec 32) (pos : Option Nat),
    let a := bankOffer b k ctx time pos
    let enabled := !kindClassE k || (if k = .shedTimeout then b.maskShed else b.maskConv)
    let written := fun (lost : Bool) => some (⟨k, enabled, ctx, lost, kindCorrupt k, time, pos⟩ : FaultRecord)
    (k = .shedTimeout → b.maskShed = false → a.record = b.record) ∧
    ((k ≠ .shedTimeout ∨ b.maskShed = true) →
      (b.record = none → a.record = written false) ∧
      ∀ r, b.record = some r →
        (kindUncorrected k = false → a.record = some { r with overflow := true }) ∧
        (kindUncorrected k = true → kindUncorrected r.kind = false → a.record = written true) ∧
        (kindUncorrected k = true → kindUncorrected r.kind = true →
          (r.kind = k → r.ctx = ctx → a.record = some { r with overflow := true }) ∧
          ((r.kind ≠ k ∨ r.ctx ≠ ctx) → a.record = some { r with overflow := true, corrupt := true }))) ∧
    ((b.countEnable = false ∨ kindUncorrected k = true ∨ 4095 ≤ b.counter) →
      a.counter = b.counter ∧ a.counterOverflow = b.counterOverflow) ∧
    (b.countEnable = true → kindUncorrected k = false → b.counter < 4095 →
      a.counter = b.counter + 1 ∧ a.counterOverflow = (b.counterOverflow || b.counter == 4094)) ∧
    a.countEnable = b.countEnable ∧ a.maskShed = b.maskShed ∧ a.maskConv = b.maskConv

/-- ROOF SAFE (R130, R162, R163): the running sequence ends ABORTED, an OPEN of origin PROTECTION opens both breakers, every
fitted channel leaves RAISING and IN_CONTACT, the demand is dead, and the roof is SAFE_HELD; in CHECK the sense check
ends with it (R21). A kind whose action is ROOF SAFE calls it. A protection OPEN (R130) joins an OPEN of origin
PROTECTION and a ROOF_DOWN; any other sequence ends ABORTED for an OPEN that opens both breakers.
The order of the actions is the model's reading (log entries 6 and 7). -/
def Obligations.RoofSafeAndProtectionOpen : Prop :=
  ((∀ s : State, s.roofState = .ready ∨ s.roofState = .check →
    let t := roofSafe s
    t.roofState = .safeHeld ∧ (s.roofState = .ready → t.cau.demand = none ∧ t.pcu.collectorHold = false) ∧
    (s.roofState = .check → t.lsi.measured = .none ∧ t.lsi.checkResult ≠ .pending) ∧
    (∀ b, (brk t b).closeCoil = (brk s b).closeCoil ∧ (brk t b).state = (brk s b).state ∧
        brkMade (brk s b) = false ∨
      (brk t b).state = .opening ∧ (brk t b).closeCoil = false ∧ (brk t b).holdCoil = false) ∧
    (∀ c, fitted s c = true → raised (chan t c) = false) ∧
    (∀ c, fitted s c = true → raised (chan s c) = true → (chan t c).state = .lowering ∧ (chan t c).dumpOn = true) ∧
    (t.chg.seq.map fun q => (q.kind, q.origin, q.stage)) = some (.open, .protection, .opening) ∧
    ∀ q, s.chg.seq = some q → t.chg.ended.head? =
      some ⟨q.kind, q.origin, q.target, .aborted .roofSafe, q.stage, 0, roofTime s⟩) ∧
  ∀ (s : State) (k : FaultKind), kindAction k = .roofSafe →
    ∀ ctx, offer s ⟨k, ctx, false⟩ = roofSafe (logOffer s k ctx)) ∧
  (∀ (s : State) (b : Brk), brkMade (brk s b) = true →
    let t := protectionOpen s b
    (brk t b).state = .opening ∧ (brk t b).closeCoil = false ∧ (brk t b).holdCoil = false ∧ t.chg.shed = true ∧
    (joins s = true → t.chg.seq = s.chg.seq ∧ t.chg.ended = s.chg.ended) ∧
    (joins s = false →
      (t.chg.seq.map fun q => (q.kind, q.origin, q.stage)) = some (.open, .protection, .opening) ∧
      (∀ d, brkMade (brk t d) = false) ∧
      ∀ q, s.chg.seq = some q → t.chg.ended.head? =
        some ⟨q.kind, q.origin, q.target, .aborted .protection, q.stage, 0, roofTime s⟩))

/-- A channel rises only as the COLLECTOR, where the ten raise conditions hold (Table 2-10, R41), or as the SCRAPER, where
the five of R40 hold: after any step that finds a channel RAISING which was not. It rises with dump off, state_time at
0 and raise_duty in its valve; the collector choice is that of R39. The scraper request (R148 to R150) is SET only under the
set conditions of Table 7-10, stays SET only under the keep conditions, and its withdrawal lowers the SCRAPER.
That the scraper conditions are tested at the end of every event is the model's reading (log entry 13).
That a channel which changes its state keeps low_force_time and arc_armed is the model's reading (log entry 21). -/
def Obligations.ChannelsRiseUnderTheirConditions : Prop :=
  (∀ (s t : State) (c : Chan), step s = .next t → (chan s c).state ≠ .raising → (chan t c).state = .raising →
    (chan t c).stateTime = 0 ∧ (chan t c).dumpOn = false ∧ t.roofState = .ready ∧
    (chan t c).forceTarget = forceTargetOf t c (chan t c).role ∧
    (loopOwns (valve t c) = true → (valve t c).buffered = effNat t Par.raiseDuty) ∧
    (((chan t c).role = .collector ∧ t.cau.demand.isSome = true ∧ anyService t = false ∧ t.pst.settle = false ∧
        (t.chg.seq = none ∨ t.chg.seq.map (·.stage) = some .raising) ∧ (∀ d, (chan t d).role = .collector → d = c) ∧
        t.pcu.collectorHold = false ∧ t.pcu.preferred = none ∧
        ∃ g, t.chg.target = some g ∧ chanClass t c = some (classOf g) ∧
          ∀ d, fitted t d = true → chanClass t d ≠ some (classOf g) → awayFromRest t d = false) ∨
      ((chan t c).role = .scraper ∧ t.ice.scraperRequest = true ∧ t.pcu.scraperHold = false ∧
        (collectorInContact t).isSome = true ∧ (∀ d, (chan t d).role = .scraper → d = c) ∧
        ∃ p, collector t = some p ∧ chanClass t c = chanClass t p ∧ nearer t c p = true))) ∧
  (∀ s : State, raiseCandidate s = none → collectorRaise s = s) ∧
  (∀ (s : State) (c : Chan), raiseCandidate s = some c →
    (∃ t, s.chg.target = some t ∧ chanClass s c = some (classOf t) ∧
      (∀ d, fitted s d = true → chanClass s d ≠ some (classOf t) → awayFromRest s d = false) ∧
      (∀ p, s.pcu.preferred = some p → available s p = true → chanClass s p = some (classOf t) → c = p) ∧
      ((∀ p, s.pcu.preferred = some p → available s p = false ∨ chanClass s p ≠ some (classOf t)) →
        ∀ d, available s d = true → chanClass s d = some (classOf t) → nearer s c d = false)) ∧
    s.cau.demand.isSome = true ∧ s.roofState = .ready ∧ anyService s = false ∧ s.pst.settle = false ∧
    (s.chg.seq = none ∨ s.chg.seq.map (·.stage) = some .raising) ∧ collector s = none ∧
    s.pcu.collectorHold = false ∧ (chan s c).state = .lowered ∧
    let t := collectorRaise s
    chan t c = { chan s c with
      state := .raising, stateTime := 0, lowForce := false, dumpOn := false, role := .collector
      forceTarget := forceTargetOf s c .collector } ∧
    (∀ d, d ≠ c → chan t d = chan s d) ∧ t.pcu.preferred = none ∧
    (loopOwns (valve s c) = true → (valve t c).buffered = effNat s Par.raiseDuty)) ∧
  (∀ s t : State, step s = .next t →
    (s.ice.scraperRequest = false → t.ice.scraperRequest = true → ScraperSettable t) ∧ (ScraperHolds s → ScraperHolds t)) ∧
  ∀ s : State,
    (s.ice.scraperRequest = true → ScraperKept s → scraperTest s = s) ∧
    (s.ice.scraperRequest = false → ScraperSettable s → (scraperChoice s).isSome = true →
      scraperTest s = s.withIce { s.ice with scraperRequest := true }) ∧
    (s.ice.scraperRequest = false → (¬ ScraperSettable s ∨ scraperChoice s = none) → scraperTest s = s) ∧
    (s.ice.scraperRequest = true → ¬ ScraperKept s →
      let u := scraperTest s
      u.ice = { s.ice with scraperRequest := false } ∧
      u.pcu = { s.pcu with chans := u.pcu.chans, scraperHold := false } ∧
      ∀ c, ((chan s c).role = .scraper → raised (chan s c) = true →
          chan u c = { chan s c with state := .lowering, stateTime := 0, lowForce := false, dumpOn := false } ∧
          (loopOwns (valve s c) = true → (valve u c).buffered = 0)) ∧
        (((chan s c).role ≠ .scraper ∨ raised (chan s c) = false) → chan u c = chan s c ∧ valve u c = valve s c))

/-! ### Laws that every step keeps -/

/-- The laws hold after a power-on reset. -/
def Obligations.ResetMeetsTheLaws : Prop :=
  CountersHold State.reset ∧ SafeHeldLaw State.reset ∧ BreakersHold State.reset ∧ DemandHolds State.reset ∧
  RolesHold State.reset ∧ TableHolds State.reset.smp.table ∧ OutcomesHold State.reset ∧ WindowsHold State.reset ∧
  DutiesHold State.reset ∧ IceHolds State.reset ∧ PositionHolds State.reset ∧ ChannelsHold State.reset ∧
  LinkHolds State.reset ∧ AuxHolds State.reset ∧ BudgetHolds State.reset ∧ ScraperHolds State.reset ∧
  ClassesHold State.reset

/-- Each threshold counter stays within 0–4095, with its overflow flag set exactly at 4095 (R158). -/
def Obligations.CountersStayInRange : Prop :=
  ∀ s t : State, CountersHold s → step s = .next t → CountersHold t

/-- The roof is SAFE_HELD exactly while a fault record holds roof_corrupt, which no correctable fault does
(R156, R163, R167). -/
def Obligations.SafeHeldFollowsRoofCorrupt : Prop :=
  ∀ s t : State, SafeHeldLaw s → step s = .next t → SafeHeldLaw t

/-- No breaker is CLOSING or CLOSED while the other is in any state other than OPEN (R109), or while the roof is not READY;
SHED is released only while a breaker is CLOSED (R82). -/
def Obligations.BreakersStayInterlocked : Prop :=
  ∀ s t : State, BreakersHold s → step s = .next t → BreakersHold t

/-- A live raise demand is the active VCU's and lives in READY alone (R74). -/
def Obligations.DemandStaysWithTheActiveVcu : Prop :=
  ∀ s t : State, DemandHolds s → step s = .next t → DemandHolds t

/-- At most one channel has role COLLECTOR and at most one has role SCRAPER, and a SCRAPER is RAISING or IN_CONTACT only while
a COLLECTOR of its class is IN_CONTACT (R38). No channel of one class is RAISING, IN_CONTACT or SERVICE, nor being taken,
while one of the other class is away from rest or being taken (R41, R57, R58). The second law is kept together with the
conditions of `ClassesHold`: that a raised channel is fitted, that the Service Tool has the valves of SERVICE channels
alone, and that the winter layers carry what R186 lets them. -/
def Obligations.RolesAndClassesStayApart : Prop :=
  ∀ s t : State, step s = .next t → (RolesHold s → RolesHold t) ∧ (ClassesHold s → ClassesHold t)

/-- The section table stays in order, without duplicates, of at most 16 fixed and 48 route entries (R85). -/
def Obligations.SectionTableStaysOrdered : Prop :=
  ∀ s t : State, TableHolds s.smp.table → step s = .next t → TableHolds t.smp.table

/-- Windows keep their lengths and sums, and the run count stays within 0–255 (R2, R5, R12). -/
def Obligations.WindowsKeepTheirSums : Prop :=
  ∀ s t : State, WindowsHold s → step s = .next t → WindowsHold t

/-- Every valve and heater duty stays within 0–1000 per mille (R53), and every value of a layer in its range. -/
def Obligations.DutiesStayInRange : Prop :=
  ∀ s t : State, DutiesHold s → step s = .next t → DutiesHold t

/-- The bounds of the outcome list (R116), the ice index and arc count (R135, R136), the position record (Table 5-6),
and a channel's height, force and integrator (R25, R52). -/
def Obligations.RecordsStayInBounds : Prop :=
  ∀ s t : State, step s = .next t →
    (OutcomesHold s → OutcomesHold t) ∧ (IceHolds s → IceHolds t) ∧ (PositionHolds s → PositionHolds t) ∧
    (ChannelsHold s → ChannelsHold t)

/-- The receiver holds characters only within a frame, which stays short of its announced length, and no answer
waits while one is sent (R190, R193). -/
def Obligations.ReceiverStaysWithinItsFrame : Prop :=
  ∀ s t : State, LinkHolds s → step s = .next t → LinkHolds t
end

