-- ==== Sys2Proof/Laws/State.lean ====
section
/-!
SUPPORT. Each block of the state after each replacement of a block: one lemma for each pair, true by definition.
-/

namespace Sys2Proof.Machine.State

@[simp] theorem withPending_pending (s : State) (x : List Instr) : (s.withPending x).pending = x := rfl
@[simp] theorem withPending_held (s : State) (x : List Instr) : (s.withPending x).held = s.held := rfl
@[simp] theorem withPending_roofState (s : State) (x : List Instr) : (s.withPending x).roofState = s.roofState := rfl
@[simp] theorem withPending_now (s : State) (x : List Instr) : (s.withPending x).now = s.now := rfl
@[simp] theorem withPending_runMs (s : State) (x : List Instr) : (s.withPending x).runMs = s.runMs := rfl
@[simp] theorem withPending_lsi (s : State) (x : List Instr) : (s.withPending x).lsi = s.lsi := rfl
@[simp] theorem withPending_pcu (s : State) (x : List Instr) : (s.withPending x).pcu = s.pcu := rfl
@[simp] theorem withPending_ros (s : State) (x : List Instr) : (s.withPending x).ros = s.ros := rfl
@[simp] theorem withPending_cau (s : State) (x : List Instr) : (s.withPending x).cau = s.cau := rfl
@[simp] theorem withPending_smp (s : State) (x : List Instr) : (s.withPending x).smp = s.smp := rfl
@[simp] theorem withPending_chg (s : State) (x : List Instr) : (s.withPending x).chg = s.chg := rfl
@[simp] theorem withPending_ice (s : State) (x : List Instr) : (s.withPending x).ice = s.ice := rfl
@[simp] theorem withPending_flt (s : State) (x : List Instr) : (s.withPending x).flt = s.flt := rfl
@[simp] theorem withPending_pst (s : State) (x : List Instr) : (s.withPending x).pst = s.pst := rfl
@[simp] theorem withPending_lnk (s : State) (x : List Instr) : (s.withPending x).lnk = s.lnk := rfl

@[simp] theorem withHeld_pending (s : State) (x : Bool) : (s.withHeld x).pending = s.pending := rfl
@[simp] theorem withHeld_held (s : State) (x : Bool) : (s.withHeld x).held = x := rfl
@[simp] theorem withHeld_roofState (s : State) (x : Bool) : (s.withHeld x).roofState = s.roofState := rfl
@[simp] theorem withHeld_now (s : State) (x : Bool) : (s.withHeld x).now = s.now := rfl
@[simp] theorem withHeld_runMs (s : State) (x : Bool) : (s.withHeld x).runMs = s.runMs := rfl
@[simp] theorem withHeld_lsi (s : State) (x : Bool) : (s.withHeld x).lsi = s.lsi := rfl
@[simp] theorem withHeld_pcu (s : State) (x : Bool) : (s.withHeld x).pcu = s.pcu := rfl
@[simp] theorem withHeld_ros (s : State) (x : Bool) : (s.withHeld x).ros = s.ros := rfl
@[simp] theorem withHeld_cau (s : State) (x : Bool) : (s.withHeld x).cau = s.cau := rfl
@[simp] theorem withHeld_smp (s : State) (x : Bool) : (s.withHeld x).smp = s.smp := rfl
@[simp] theorem withHeld_chg (s : State) (x : Bool) : (s.withHeld x).chg = s.chg := rfl
@[simp] theorem withHeld_ice (s : State) (x : Bool) : (s.withHeld x).ice = s.ice := rfl
@[simp] theorem withHeld_flt (s : State) (x : Bool) : (s.withHeld x).flt = s.flt := rfl
@[simp] theorem withHeld_pst (s : State) (x : Bool) : (s.withHeld x).pst = s.pst := rfl
@[simp] theorem withHeld_lnk (s : State) (x : Bool) : (s.withHeld x).lnk = s.lnk := rfl

@[simp] theorem withRoof_pending (s : State) (x : RoofState) : (s.withRoof x).pending = s.pending := rfl
@[simp] theorem withRoof_held (s : State) (x : RoofState) : (s.withRoof x).held = s.held := rfl
@[simp] theorem withRoof_roofState (s : State) (x : RoofState) : (s.withRoof x).roofState = x := rfl
@[simp] theorem withRoof_now (s : State) (x : RoofState) : (s.withRoof x).now = s.now := rfl
@[simp] theorem withRoof_runMs (s : State) (x : RoofState) : (s.withRoof x).runMs = s.runMs := rfl
@[simp] theorem withRoof_lsi (s : State) (x : RoofState) : (s.withRoof x).lsi = s.lsi := rfl
@[simp] theorem withRoof_pcu (s : State) (x : RoofState) : (s.withRoof x).pcu = s.pcu := rfl
@[simp] theorem withRoof_ros (s : State) (x : RoofState) : (s.withRoof x).ros = s.ros := rfl
@[simp] theorem withRoof_cau (s : State) (x : RoofState) : (s.withRoof x).cau = s.cau := rfl
@[simp] theorem withRoof_smp (s : State) (x : RoofState) : (s.withRoof x).smp = s.smp := rfl
@[simp] theorem withRoof_chg (s : State) (x : RoofState) : (s.withRoof x).chg = s.chg := rfl
@[simp] theorem withRoof_ice (s : State) (x : RoofState) : (s.withRoof x).ice = s.ice := rfl
@[simp] theorem withRoof_flt (s : State) (x : RoofState) : (s.withRoof x).flt = s.flt := rfl
@[simp] theorem withRoof_pst (s : State) (x : RoofState) : (s.withRoof x).pst = s.pst := rfl
@[simp] theorem withRoof_lnk (s : State) (x : RoofState) : (s.withRoof x).lnk = s.lnk := rfl

@[simp] theorem withNow_pending (s : State) (x : Nat) : (s.withNow x).pending = s.pending := rfl
@[simp] theorem withNow_held (s : State) (x : Nat) : (s.withNow x).held = s.held := rfl
@[simp] theorem withNow_roofState (s : State) (x : Nat) : (s.withNow x).roofState = s.roofState := rfl
@[simp] theorem withNow_now (s : State) (x : Nat) : (s.withNow x).now = x := rfl
@[simp] theorem withNow_runMs (s : State) (x : Nat) : (s.withNow x).runMs = s.runMs := rfl
@[simp] theorem withNow_lsi (s : State) (x : Nat) : (s.withNow x).lsi = s.lsi := rfl
@[simp] theorem withNow_pcu (s : State) (x : Nat) : (s.withNow x).pcu = s.pcu := rfl
@[simp] theorem withNow_ros (s : State) (x : Nat) : (s.withNow x).ros = s.ros := rfl
@[simp] theorem withNow_cau (s : State) (x : Nat) : (s.withNow x).cau = s.cau := rfl
@[simp] theorem withNow_smp (s : State) (x : Nat) : (s.withNow x).smp = s.smp := rfl
@[simp] theorem withNow_chg (s : State) (x : Nat) : (s.withNow x).chg = s.chg := rfl
@[simp] theorem withNow_ice (s : State) (x : Nat) : (s.withNow x).ice = s.ice := rfl
@[simp] theorem withNow_flt (s : State) (x : Nat) : (s.withNow x).flt = s.flt := rfl
@[simp] theorem withNow_pst (s : State) (x : Nat) : (s.withNow x).pst = s.pst := rfl
@[simp] theorem withNow_lnk (s : State) (x : Nat) : (s.withNow x).lnk = s.lnk := rfl

@[simp] theorem withRun_pending (s : State) (x : Nat) : (s.withRun x).pending = s.pending := rfl
@[simp] theorem withRun_held (s : State) (x : Nat) : (s.withRun x).held = s.held := rfl
@[simp] theorem withRun_roofState (s : State) (x : Nat) : (s.withRun x).roofState = s.roofState := rfl
@[simp] theorem withRun_now (s : State) (x : Nat) : (s.withRun x).now = s.now := rfl
@[simp] theorem withRun_runMs (s : State) (x : Nat) : (s.withRun x).runMs = x := rfl
@[simp] theorem withRun_lsi (s : State) (x : Nat) : (s.withRun x).lsi = s.lsi := rfl
@[simp] theorem withRun_pcu (s : State) (x : Nat) : (s.withRun x).pcu = s.pcu := rfl
@[simp] theorem withRun_ros (s : State) (x : Nat) : (s.withRun x).ros = s.ros := rfl
@[simp] theorem withRun_cau (s : State) (x : Nat) : (s.withRun x).cau = s.cau := rfl
@[simp] theorem withRun_smp (s : State) (x : Nat) : (s.withRun x).smp = s.smp := rfl
@[simp] theorem withRun_chg (s : State) (x : Nat) : (s.withRun x).chg = s.chg := rfl
@[simp] theorem withRun_ice (s : State) (x : Nat) : (s.withRun x).ice = s.ice := rfl
@[simp] theorem withRun_flt (s : State) (x : Nat) : (s.withRun x).flt = s.flt := rfl
@[simp] theorem withRun_pst (s : State) (x : Nat) : (s.withRun x).pst = s.pst := rfl
@[simp] theorem withRun_lnk (s : State) (x : Nat) : (s.withRun x).lnk = s.lnk := rfl

@[simp] theorem withLsi_pending (s : State) (x : Lsi) : (s.withLsi x).pending = s.pending := rfl
@[simp] theorem withLsi_held (s : State) (x : Lsi) : (s.withLsi x).held = s.held := rfl
@[simp] theorem withLsi_roofState (s : State) (x : Lsi) : (s.withLsi x).roofState = s.roofState := rfl
@[simp] theorem withLsi_now (s : State) (x : Lsi) : (s.withLsi x).now = s.now := rfl
@[simp] theorem withLsi_runMs (s : State) (x : Lsi) : (s.withLsi x).runMs = s.runMs := rfl
@[simp] theorem withLsi_lsi (s : State) (x : Lsi) : (s.withLsi x).lsi = x := rfl
@[simp] theorem withLsi_pcu (s : State) (x : Lsi) : (s.withLsi x).pcu = s.pcu := rfl
@[simp] theorem withLsi_ros (s : State) (x : Lsi) : (s.withLsi x).ros = s.ros := rfl
@[simp] theorem withLsi_cau (s : State) (x : Lsi) : (s.withLsi x).cau = s.cau := rfl
@[simp] theorem withLsi_smp (s : State) (x : Lsi) : (s.withLsi x).smp = s.smp := rfl
@[simp] theorem withLsi_chg (s : State) (x : Lsi) : (s.withLsi x).chg = s.chg := rfl
@[simp] theorem withLsi_ice (s : State) (x : Lsi) : (s.withLsi x).ice = s.ice := rfl
@[simp] theorem withLsi_flt (s : State) (x : Lsi) : (s.withLsi x).flt = s.flt := rfl
@[simp] theorem withLsi_pst (s : State) (x : Lsi) : (s.withLsi x).pst = s.pst := rfl
@[simp] theorem withLsi_lnk (s : State) (x : Lsi) : (s.withLsi x).lnk = s.lnk := rfl

@[simp] theorem withPcu_pending (s : State) (x : Pcu) : (s.withPcu x).pending = s.pending := rfl
@[simp] theorem withPcu_held (s : State) (x : Pcu) : (s.withPcu x).held = s.held := rfl
@[simp] theorem withPcu_roofState (s : State) (x : Pcu) : (s.withPcu x).roofState = s.roofState := rfl
@[simp] theorem withPcu_now (s : State) (x : Pcu) : (s.withPcu x).now = s.now := rfl
@[simp] theorem withPcu_runMs (s : State) (x : Pcu) : (s.withPcu x).runMs = s.runMs := rfl
@[simp] theorem withPcu_lsi (s : State) (x : Pcu) : (s.withPcu x).lsi = s.lsi := rfl
@[simp] theorem withPcu_pcu (s : State) (x : Pcu) : (s.withPcu x).pcu = x := rfl
@[simp] theorem withPcu_ros (s : State) (x : Pcu) : (s.withPcu x).ros = s.ros := rfl
@[simp] theorem withPcu_cau (s : State) (x : Pcu) : (s.withPcu x).cau = s.cau := rfl
@[simp] theorem withPcu_smp (s : State) (x : Pcu) : (s.withPcu x).smp = s.smp := rfl
@[simp] theorem withPcu_chg (s : State) (x : Pcu) : (s.withPcu x).chg = s.chg := rfl
@[simp] theorem withPcu_ice (s : State) (x : Pcu) : (s.withPcu x).ice = s.ice := rfl
@[simp] theorem withPcu_flt (s : State) (x : Pcu) : (s.withPcu x).flt = s.flt := rfl
@[simp] theorem withPcu_pst (s : State) (x : Pcu) : (s.withPcu x).pst = s.pst := rfl
@[simp] theorem withPcu_lnk (s : State) (x : Pcu) : (s.withPcu x).lnk = s.lnk := rfl

@[simp] theorem withRos_pending (s : State) (x : Ros) : (s.withRos x).pending = s.pending := rfl
@[simp] theorem withRos_held (s : State) (x : Ros) : (s.withRos x).held = s.held := rfl
@[simp] theorem withRos_roofState (s : State) (x : Ros) : (s.withRos x).roofState = s.roofState := rfl
@[simp] theorem withRos_now (s : State) (x : Ros) : (s.withRos x).now = s.now := rfl
@[simp] theorem withRos_runMs (s : State) (x : Ros) : (s.withRos x).runMs = s.runMs := rfl
@[simp] theorem withRos_lsi (s : State) (x : Ros) : (s.withRos x).lsi = s.lsi := rfl
@[simp] theorem withRos_pcu (s : State) (x : Ros) : (s.withRos x).pcu = s.pcu := rfl
@[simp] theorem withRos_ros (s : State) (x : Ros) : (s.withRos x).ros = x := rfl
@[simp] theorem withRos_cau (s : State) (x : Ros) : (s.withRos x).cau = s.cau := rfl
@[simp] theorem withRos_smp (s : State) (x : Ros) : (s.withRos x).smp = s.smp := rfl
@[simp] theorem withRos_chg (s : State) (x : Ros) : (s.withRos x).chg = s.chg := rfl
@[simp] theorem withRos_ice (s : State) (x : Ros) : (s.withRos x).ice = s.ice := rfl
@[simp] theorem withRos_flt (s : State) (x : Ros) : (s.withRos x).flt = s.flt := rfl
@[simp] theorem withRos_pst (s : State) (x : Ros) : (s.withRos x).pst = s.pst := rfl
@[simp] theorem withRos_lnk (s : State) (x : Ros) : (s.withRos x).lnk = s.lnk := rfl

@[simp] theorem withCau_pending (s : State) (x : Cau) : (s.withCau x).pending = s.pending := rfl
@[simp] theorem withCau_held (s : State) (x : Cau) : (s.withCau x).held = s.held := rfl
@[simp] theorem withCau_roofState (s : State) (x : Cau) : (s.withCau x).roofState = s.roofState := rfl
@[simp] theorem withCau_now (s : State) (x : Cau) : (s.withCau x).now = s.now := rfl
@[simp] theorem withCau_runMs (s : State) (x : Cau) : (s.withCau x).runMs = s.runMs := rfl
@[simp] theorem withCau_lsi (s : State) (x : Cau) : (s.withCau x).lsi = s.lsi := rfl
@[simp] theorem withCau_pcu (s : State) (x : Cau) : (s.withCau x).pcu = s.pcu := rfl
@[simp] theorem withCau_ros (s : State) (x : Cau) : (s.withCau x).ros = s.ros := rfl
@[simp] theorem withCau_cau (s : State) (x : Cau) : (s.withCau x).cau = x := rfl
@[simp] theorem withCau_smp (s : State) (x : Cau) : (s.withCau x).smp = s.smp := rfl
@[simp] theorem withCau_chg (s : State) (x : Cau) : (s.withCau x).chg = s.chg := rfl
@[simp] theorem withCau_ice (s : State) (x : Cau) : (s.withCau x).ice = s.ice := rfl
@[simp] theorem withCau_flt (s : State) (x : Cau) : (s.withCau x).flt = s.flt := rfl
@[simp] theorem withCau_pst (s : State) (x : Cau) : (s.withCau x).pst = s.pst := rfl
@[simp] theorem withCau_lnk (s : State) (x : Cau) : (s.withCau x).lnk = s.lnk := rfl

@[simp] theorem withSmp_pending (s : State) (x : Smp) : (s.withSmp x).pending = s.pending := rfl
@[simp] theorem withSmp_held (s : State) (x : Smp) : (s.withSmp x).held = s.held := rfl
@[simp] theorem withSmp_roofState (s : State) (x : Smp) : (s.withSmp x).roofState = s.roofState := rfl
@[simp] theorem withSmp_now (s : State) (x : Smp) : (s.withSmp x).now = s.now := rfl
@[simp] theorem withSmp_runMs (s : State) (x : Smp) : (s.withSmp x).runMs = s.runMs := rfl
@[simp] theorem withSmp_lsi (s : State) (x : Smp) : (s.withSmp x).lsi = s.lsi := rfl
@[simp] theorem withSmp_pcu (s : State) (x : Smp) : (s.withSmp x).pcu = s.pcu := rfl
@[simp] theorem withSmp_ros (s : State) (x : Smp) : (s.withSmp x).ros = s.ros := rfl
@[simp] theorem withSmp_cau (s : State) (x : Smp) : (s.withSmp x).cau = s.cau := rfl
@[simp] theorem withSmp_smp (s : State) (x : Smp) : (s.withSmp x).smp = x := rfl
@[simp] theorem withSmp_chg (s : State) (x : Smp) : (s.withSmp x).chg = s.chg := rfl
@[simp] theorem withSmp_ice (s : State) (x : Smp) : (s.withSmp x).ice = s.ice := rfl
@[simp] theorem withSmp_flt (s : State) (x : Smp) : (s.withSmp x).flt = s.flt := rfl
@[simp] theorem withSmp_pst (s : State) (x : Smp) : (s.withSmp x).pst = s.pst := rfl
@[simp] theorem withSmp_lnk (s : State) (x : Smp) : (s.withSmp x).lnk = s.lnk := rfl

@[simp] theorem withChg_pending (s : State) (x : Chg) : (s.withChg x).pending = s.pending := rfl
@[simp] theorem withChg_held (s : State) (x : Chg) : (s.withChg x).held = s.held := rfl
@[simp] theorem withChg_roofState (s : State) (x : Chg) : (s.withChg x).roofState = s.roofState := rfl
@[simp] theorem withChg_now (s : State) (x : Chg) : (s.withChg x).now = s.now := rfl
@[simp] theorem withChg_runMs (s : State) (x : Chg) : (s.withChg x).runMs = s.runMs := rfl
@[simp] theorem withChg_lsi (s : State) (x : Chg) : (s.withChg x).lsi = s.lsi := rfl
@[simp] theorem withChg_pcu (s : State) (x : Chg) : (s.withChg x).pcu = s.pcu := rfl
@[simp] theorem withChg_ros (s : State) (x : Chg) : (s.withChg x).ros = s.ros := rfl
@[simp] theorem withChg_cau (s : State) (x : Chg) : (s.withChg x).cau = s.cau := rfl
@[simp] theorem withChg_smp (s : State) (x : Chg) : (s.withChg x).smp = s.smp := rfl
@[simp] theorem withChg_chg (s : State) (x : Chg) : (s.withChg x).chg = x := rfl
@[simp] theorem withChg_ice (s : State) (x : Chg) : (s.withChg x).ice = s.ice := rfl
@[simp] theorem withChg_flt (s : State) (x : Chg) : (s.withChg x).flt = s.flt := rfl
@[simp] theorem withChg_pst (s : State) (x : Chg) : (s.withChg x).pst = s.pst := rfl
@[simp] theorem withChg_lnk (s : State) (x : Chg) : (s.withChg x).lnk = s.lnk := rfl

@[simp] theorem withIce_pending (s : State) (x : Ice) : (s.withIce x).pending = s.pending := rfl
@[simp] theorem withIce_held (s : State) (x : Ice) : (s.withIce x).held = s.held := rfl
@[simp] theorem withIce_roofState (s : State) (x : Ice) : (s.withIce x).roofState = s.roofState := rfl
@[simp] theorem withIce_now (s : State) (x : Ice) : (s.withIce x).now = s.now := rfl
@[simp] theorem withIce_runMs (s : State) (x : Ice) : (s.withIce x).runMs = s.runMs := rfl
@[simp] theorem withIce_lsi (s : State) (x : Ice) : (s.withIce x).lsi = s.lsi := rfl
@[simp] theorem withIce_pcu (s : State) (x : Ice) : (s.withIce x).pcu = s.pcu := rfl
@[simp] theorem withIce_ros (s : State) (x : Ice) : (s.withIce x).ros = s.ros := rfl
@[simp] theorem withIce_cau (s : State) (x : Ice) : (s.withIce x).cau = s.cau := rfl
@[simp] theorem withIce_smp (s : State) (x : Ice) : (s.withIce x).smp = s.smp := rfl
@[simp] theorem withIce_chg (s : State) (x : Ice) : (s.withIce x).chg = s.chg := rfl
@[simp] theorem withIce_ice (s : State) (x : Ice) : (s.withIce x).ice = x := rfl
@[simp] theorem withIce_flt (s : State) (x : Ice) : (s.withIce x).flt = s.flt := rfl
@[simp] theorem withIce_pst (s : State) (x : Ice) : (s.withIce x).pst = s.pst := rfl
@[simp] theorem withIce_lnk (s : State) (x : Ice) : (s.withIce x).lnk = s.lnk := rfl

@[simp] theorem withFlt_pending (s : State) (x : Flt) : (s.withFlt x).pending = s.pending := rfl
@[simp] theorem withFlt_held (s : State) (x : Flt) : (s.withFlt x).held = s.held := rfl
@[simp] theorem withFlt_roofState (s : State) (x : Flt) : (s.withFlt x).roofState = s.roofState := rfl
@[simp] theorem withFlt_now (s : State) (x : Flt) : (s.withFlt x).now = s.now := rfl
@[simp] theorem withFlt_runMs (s : State) (x : Flt) : (s.withFlt x).runMs = s.runMs := rfl
@[simp] theorem withFlt_lsi (s : State) (x : Flt) : (s.withFlt x).lsi = s.lsi := rfl
@[simp] theorem withFlt_pcu (s : State) (x : Flt) : (s.withFlt x).pcu = s.pcu := rfl
@[simp] theorem withFlt_ros (s : State) (x : Flt) : (s.withFlt x).ros = s.ros := rfl
@[simp] theorem withFlt_cau (s : State) (x : Flt) : (s.withFlt x).cau = s.cau := rfl
@[simp] theorem withFlt_smp (s : State) (x : Flt) : (s.withFlt x).smp = s.smp := rfl
@[simp] theorem withFlt_chg (s : State) (x : Flt) : (s.withFlt x).chg = s.chg := rfl
@[simp] theorem withFlt_ice (s : State) (x : Flt) : (s.withFlt x).ice = s.ice := rfl
@[simp] theorem withFlt_flt (s : State) (x : Flt) : (s.withFlt x).flt = x := rfl
@[simp] theorem withFlt_pst (s : State) (x : Flt) : (s.withFlt x).pst = s.pst := rfl
@[simp] theorem withFlt_lnk (s : State) (x : Flt) : (s.withFlt x).lnk = s.lnk := rfl

@[simp] theorem withPst_pending (s : State) (x : Pst) : (s.withPst x).pending = s.pending := rfl
@[simp] theorem withPst_held (s : State) (x : Pst) : (s.withPst x).held = s.held := rfl
@[simp] theorem withPst_roofState (s : State) (x : Pst) : (s.withPst x).roofState = s.roofState := rfl
@[simp] theorem withPst_now (s : State) (x : Pst) : (s.withPst x).now = s.now := rfl
@[simp] theorem withPst_runMs (s : State) (x : Pst) : (s.withPst x).runMs = s.runMs := rfl
@[simp] theorem withPst_lsi (s : State) (x : Pst) : (s.withPst x).lsi = s.lsi := rfl
@[simp] theorem withPst_pcu (s : State) (x : Pst) : (s.withPst x).pcu = s.pcu := rfl
@[simp] theorem withPst_ros (s : State) (x : Pst) : (s.withPst x).ros = s.ros := rfl
@[simp] theorem withPst_cau (s : State) (x : Pst) : (s.withPst x).cau = s.cau := rfl
@[simp] theorem withPst_smp (s : State) (x : Pst) : (s.withPst x).smp = s.smp := rfl
@[simp] theorem withPst_chg (s : State) (x : Pst) : (s.withPst x).chg = s.chg := rfl
@[simp] theorem withPst_ice (s : State) (x : Pst) : (s.withPst x).ice = s.ice := rfl
@[simp] theorem withPst_flt (s : State) (x : Pst) : (s.withPst x).flt = s.flt := rfl
@[simp] theorem withPst_pst (s : State) (x : Pst) : (s.withPst x).pst = x := rfl
@[simp] theorem withPst_lnk (s : State) (x : Pst) : (s.withPst x).lnk = s.lnk := rfl

@[simp] theorem withLnk_pending (s : State) (x : Lnk) : (s.withLnk x).pending = s.pending := rfl
@[simp] theorem withLnk_held (s : State) (x : Lnk) : (s.withLnk x).held = s.held := rfl
@[simp] theorem withLnk_roofState (s : State) (x : Lnk) : (s.withLnk x).roofState = s.roofState := rfl
@[simp] theorem withLnk_now (s : State) (x : Lnk) : (s.withLnk x).now = s.now := rfl
@[simp] theorem withLnk_runMs (s : State) (x : Lnk) : (s.withLnk x).runMs = s.runMs := rfl
@[simp] theorem withLnk_lsi (s : State) (x : Lnk) : (s.withLnk x).lsi = s.lsi := rfl
@[simp] theorem withLnk_pcu (s : State) (x : Lnk) : (s.withLnk x).pcu = s.pcu := rfl
@[simp] theorem withLnk_ros (s : State) (x : Lnk) : (s.withLnk x).ros = s.ros := rfl
@[simp] theorem withLnk_cau (s : State) (x : Lnk) : (s.withLnk x).cau = s.cau := rfl
@[simp] theorem withLnk_smp (s : State) (x : Lnk) : (s.withLnk x).smp = s.smp := rfl
@[simp] theorem withLnk_chg (s : State) (x : Lnk) : (s.withLnk x).chg = s.chg := rfl
@[simp] theorem withLnk_ice (s : State) (x : Lnk) : (s.withLnk x).ice = s.ice := rfl
@[simp] theorem withLnk_flt (s : State) (x : Lnk) : (s.withLnk x).flt = s.flt := rfl
@[simp] theorem withLnk_pst (s : State) (x : Lnk) : (s.withLnk x).pst = s.pst := rfl
@[simp] theorem withLnk_lnk (s : State) (x : Lnk) : (s.withLnk x).lnk = x := rfl

end Sys2Proof.Machine.State
end

