-- ==== Sys2Proof/Laws/Due.lean ====
section
/-!
SUPPORT. When a command is among those that an idle step puts to wait, and small facts of the sequence record.
-/

namespace Sys2Proof.Machine

@[simp] theorem mem_allChans (c : Chan) : c ∈ allChans := by cases c <;> decide

@[simp] theorem mem_allZones (z : Fin 16) : z ∈ allZones := by revert z; decide

@[simp] theorem mem_dueIf (b : Bool) (i j : Instr) : j ∈ dueIf b i ↔ b = true ∧ j = i := by
  unfold dueIf; cases b <;> simp

/-- What the running sequence brings due: the timers of its stage. -/
theorem mem_seqDue (j : Instr) (s : State) : j ∈ seqDue s ↔ ∃ q, s.chg.seq = some q ∧
    (shedDue s q = true ∧ j = .shedTimeout ∨ deadRunDue s q = true ∧ j = .deadRun ∨
      identifyDue s q = true ∧ j = .identifyTimeout ∨ converterTimeoutDue s q = true ∧ j = .converterTimeout) := by
  unfold seqDue
  cases s.chg.seq <;> simp

/-- What a channel brings due. -/
theorem mem_chanDue (j : Instr) (s : State) (c : Chan) : j ∈ chanDue s c ↔
    holdDue (chan s c) = true ∧ j = .heightSensor c ∨ raiseDue s c = true ∧ j = .raiseTimeout c ∨
      contactDue s c = true ∧ j = .contactLoss c ∨ lowerDue s c = true ∧ j = .lowerTimeout c := by
  simp [chanDue]

/-- What a breaker brings due, with the level of its input last taken. -/
theorem mem_brkDue (j : Instr) (s : State) (b : Brk) : j ∈ brkDue s b ↔
    closeDue s b = true ∧ j = .closeTimeExpiry b (brk s b).feedback ∨
      openDue s b = true ∧ j = .openTimeExpiry b (brk s b).feedback := by
  simp [brkDue]

/-- Writing the running sequence back changes nothing. -/
theorem putSeq_self {s : State} {q : Sequence} (h : s.chg.seq = some q) : putSeq s q = s := by
  unfold putSeq
  rw [← h]
  rfl

@[simp] theorem putSeq_putSeq (s : State) (q r : Sequence) : putSeq (putSeq s q) r = putSeq s r := rfl

@[simp] theorem putSeq_seq (s : State) (q : Sequence) : (putSeq s q).chg.seq = some q := rfl

@[simp] theorem kindSystem_eq_some (k : CombKind) (g : Sys) : kindSystem k = some g ↔ k = .sys g := by
  cases k <;> simp [kindSystem]

end Sys2Proof.Machine
end

