-- ==== Sys2Proof/Laws/Eeprom.lean ====
section
/-!
SUPPORT. What the freeing of the two-wire bus and a read of the EEPROM come to (R174, R197), for the levels and attempts
that a read can meet.
-/

namespace Sys2Proof.Machine

/-- Levels low for as many looks as pulses are left, and then released. -/
theorem freeBusFrom_freed (n given left : Nat) (rest : List Bool) (h : n ≤ left) :
    freeBusFrom given left (List.replicate n false ++ true :: rest) = .freed (given + n) := by
  induction n generalizing given left with
  | zero => cases left <;> rfl
  | succ n ih =>
    cases left with
    | zero => omega
    | succ left =>
      rw [List.replicate_succ, List.cons_append, freeBusFrom, ih _ _ (by omega)]
      congr 1; omega

/-- A bus that at most nine pulses release is freed. -/
theorem freeBus_freed {sda : List Bool} (h : SdaFreed sda) : ∃ n, n ≤ 9 ∧ freeBus sda = .freed n := by
  obtain ⟨n, rest, hn, rfl⟩ := h
  exact ⟨n, hn, by rw [freeBus, freeBusFrom_freed n 0 9 rest hn, Nat.zero_add]⟩

/-- A bus that nine pulses do not release is stuck. -/
theorem freeBus_stuck {sda : List Bool} (h : SdaStuck sda) : freeBus sda = .stuck := by
  obtain ⟨rest, rfl⟩ := h
  rfl

/-- Until then PST goes on giving pulses. -/
theorem freeBusFrom_pulsing (n given left : Nat) (h : n ≤ left) :
    freeBusFrom given left (List.replicate n false) = .pulsing := by
  induction n generalizing given left with
  | zero => cases left <;> rfl
  | succ n ih =>
    cases left with
    | zero => omega
    | succ left => rw [List.replicate_succ, freeBusFrom, ih _ _ (by omega)]

theorem freeBus_pulsing {n : Nat} (h : n ≤ 9) : freeBus (List.replicate n false) = .pulsing :=
  freeBusFrom_pulsing n 0 9 h

/-- The first acknowledged attempt gives the bytes. -/
theorem readWithin_gave (n left : Nat) (bs : List Byte) (rest : Attempts) (h : n < left) :
    readWithin left (List.replicate n none ++ some bs :: rest) = .gave bs := by
  induction n generalizing left with
  | zero => cases left with
    | zero => omega
    | succ left => rfl
  | succ n ih => cases left with
    | zero => omega
    | succ left => rw [List.replicate_succ, List.cons_append, readWithin, ih _ (by omega)]

theorem eepromRead_gave {a : Attempts} {bs : List Byte} (h : ReadGives a bs) : eepromRead a = .gave bs := by
  obtain ⟨n, rest, hn, rfl⟩ := h
  exact readWithin_gave n 3 bs rest (by omega)

/-- The third failure is the last. -/
theorem eepromRead_noAnswer {a : Attempts} (h : ReadFails a) : eepromRead a = .noAnswer := by
  obtain ⟨rest, rfl⟩ := h
  rfl

/-- One or two failures leave a read going on. -/
theorem eepromRead_goesOn {n : Nat} (h : n ≤ 2) : eepromRead (List.replicate n none) = .goesOn := by
  match n, h with
  | 0, _ | 1, _ | 2, _ => rfl

@[simp] theorem eepromRead_neverAnswered : eepromRead neverAnswered = .noAnswer := rfl

/-- What the read of bytes 0 to 38 comes to: the bus first, and then the attempts. -/
theorem headerResult_stuck {sda : List Bool} (h : SdaStuck sda) (a : Attempts) : headerResult ⟨sda, a⟩ = .noAnswer := by
  rw [headerResult, freeBus_stuck h]

theorem headerResult_freed {sda : List Bool} (h : SdaFreed sda) (a : Attempts) :
    headerResult ⟨sda, a⟩ = eepromRead a := by
  obtain ⟨n, _, h⟩ := freeBus_freed h
  rw [headerResult, h]

theorem headerResult_pulsing {n : Nat} (h : n ≤ 9) (a : Attempts) :
    headerResult ⟨List.replicate n false, a⟩ = .goesOn := by
  rw [headerResult, freeBus_pulsing h]

end Sys2Proof.Machine
end

