-- ==== Sys2Proof/Laws/Ops.lean ====
section
/-!
SUPPORT. What reads give after writes: channels, valves, zones, breakers and banks.
-/

namespace Sys2Proof.Machine

/-! ### Four of a kind -/

@[simp] theorem Quad.get_set_self {α : Type} (q : Quad α) (c : Chan) (a : α) : (q.set c a).get c = a := by
  cases c <;> rfl

theorem Quad.get_set_other {α : Type} (q : Quad α) {c d : Chan} (a : α) (h : d ≠ c) :
    (q.set c a).get d = q.get d := by
  cases c <;> cases d <;> first | rfl | exact absurd rfl h

theorem Quad.get_set {α : Type} (q : Quad α) (c d : Chan) (a : α) :
    (q.set c a).get d = if d = c then a else q.get d := by
  split
  · subst_vars; exact Quad.get_set_self ..
  · exact Quad.get_set_other _ _ ‹_›

@[simp] theorem Quad.set_set {α : Type} (q : Quad α) (c : Chan) (a b : α) : (q.set c a).set c b = q.set c b := by
  cases c <;> rfl

@[simp] theorem Quad.set_get {α : Type} (q : Quad α) (c : Chan) : q.set c (q.get c) = q := by cases c <;> rfl

@[simp] theorem quadMap_get {α : Type} (f : α → α) (q : Quad α) (c : Chan) : (quadMap f q).get c = f (q.get c) := by
  cases c <;> rfl

/-- Quads with equal members are equal. -/
theorem Quad.ext_get {α : Type} {q r : Quad α} (h : ∀ c, q.get c = r.get c) : q = r := by
  cases q; cases r
  have h1 := h .p1; have h2 := h .p2; have h3 := h .p3; have h4 := h .p4
  simp only [Quad.get] at h1 h2 h3 h4
  subst_vars; rfl

/-! ### Channels -/

@[simp] theorem chan_putChan_self (s : State) (c : Chan) (r : Channel) : chan (putChan s c r) c = r := by
  simp [chan, putChan]

theorem chan_putChan_other (s : State) {c d : Chan} (r : Channel) (h : d ≠ c) : chan (putChan s c r) d = chan s d := by
  simp [chan, putChan, Quad.get_set_other _ _ h]

theorem chan_putChan (s : State) (c d : Chan) (r : Channel) :
    chan (putChan s c r) d = if d = c then r else chan s d := by
  simp [chan, putChan, Quad.get_set]

@[simp] theorem putChan_putChan (s : State) (c : Chan) (r t : Channel) :
    putChan (putChan s c r) c t = putChan s c t := by
  simp [putChan, State.withPcu]

/-- A write to a channel touches the channels alone. -/
theorem putChan_frame (s : State) (c : Chan) (r : Channel) :
    putChan s c r = s.withPcu { s.pcu with chans := s.pcu.chans.set c r } := rfl

@[simp] theorem putChan_ros (s : State) (c : Chan) (r : Channel) : (putChan s c r).ros = s.ros := rfl
@[simp] theorem putChan_cau (s : State) (c : Chan) (r : Channel) : (putChan s c r).cau = s.cau := rfl
@[simp] theorem putChan_chg (s : State) (c : Chan) (r : Channel) : (putChan s c r).chg = s.chg := rfl
@[simp] theorem putChan_smp (s : State) (c : Chan) (r : Channel) : (putChan s c r).smp = s.smp := rfl
@[simp] theorem putChan_ice (s : State) (c : Chan) (r : Channel) : (putChan s c r).ice = s.ice := rfl
@[simp] theorem putChan_flt (s : State) (c : Chan) (r : Channel) : (putChan s c r).flt = s.flt := rfl
@[simp] theorem putChan_pst (s : State) (c : Chan) (r : Channel) : (putChan s c r).pst = s.pst := rfl
@[simp] theorem putChan_roofState (s : State) (c : Chan) (r : Channel) : (putChan s c r).roofState = s.roofState := rfl
@[simp] theorem putChan_eff (s : State) (c : Chan) (r : Channel) (n : Nat) : eff (putChan s c r) n = eff s n := rfl
@[simp] theorem putChan_chanClass (s : State) (c : Chan) (r : Channel) (d : Chan) :
    chanClass (putChan s c r) d = chanClass s d := rfl
@[simp] theorem putChan_fitted (s : State) (c : Chan) (r : Channel) (d : Chan) :
    fitted (putChan s c r) d = fitted s d := rfl
@[simp] theorem putChan_valve (s : State) (c : Chan) (r : Channel) (d : Chan) :
    valve (putChan s c r) d = valve s d := rfl

/-! ### Valves and zones -/

@[simp] theorem valve_putValve_self (s : State) (c : Chan) (o : Out) : valve (putValve s c o) c = o := by
  simp [valve, putValve]

theorem valve_putValve_other (s : State) {c d : Chan} (o : Out) (h : d ≠ c) : valve (putValve s c o) d = valve s d := by
  simp [valve, putValve, Quad.get_set_other _ _ h]

@[simp] theorem putValve_chan (s : State) (c : Chan) (o : Out) (d : Chan) : chan (putValve s c o) d = chan s d := rfl

/-- A zone is one of its head's four: its head and its place name it. -/
theorem zone_named {y z : Fin 16} (h : zoneHead y = zoneHead z) (p : zonePlace y = zonePlace z) : y = z := by
  revert y z; decide

@[simp] theorem zoneOut_putZone_self (s : State) (z : Fin 16) (o : Out) : zoneOut (putZone s z o) z = o := by
  simp [zoneOut, putZone]

theorem zoneOut_putZone_other (s : State) {y z : Fin 16} (o : Out) (h : y ≠ z) :
    zoneOut (putZone s z o) y = zoneOut s y := by
  unfold zoneOut putZone
  simp only [State.withRos_ros]
  by_cases e : zoneHead y = zoneHead z
  · rw [e, Quad.get_set_self, Quad.get_set_other _ _ fun p => h (zone_named e p)]
  · rw [Quad.get_set_other _ _ e]

@[simp] theorem putZone_chan (s : State) (z : Fin 16) (o : Out) (d : Chan) : chan (putZone s z o) d = chan s d := rfl
@[simp] theorem putZone_auxok (s : State) (z : Fin 16) (o : Out) : (putZone s z o).ros.auxok = s.ros.auxok := rfl
@[simp] theorem putZone_eff (s : State) (z : Fin 16) (o : Out) (n : Nat) : eff (putZone s z o) n = eff s n := rfl

/-- What a write of a valve duty by the PCU can do (R55): nothing, or the buffered duty and perhaps the applied one. -/
theorem writeValve_cases (s : State) (c : Chan) (duty : Nat) :
    writeValve s c duty = s ∨
      ∃ a, (a = duty ∨ a = (valve s c).applied) ∧
        writeValve s c duty = putValve s c { valve s c with buffered := duty, applied := a } := by
  unfold writeValve
  dsimp only
  split
  · right
    refine ⟨_, ?_, rfl⟩
    split
    · exact .inl rfl
    · exact .inr rfl
  · exact .inl rfl

@[simp] theorem writeValve_chan (s : State) (c : Chan) (duty : Nat) (d : Chan) :
    chan (writeValve s c duty) d = chan s d := by
  rcases writeValve_cases s c duty with h | ⟨a, -, h⟩ <;> rw [h]; rfl

/-- What a heater write by ICE can do (R55, R63, R64): nothing, or the buffered duty. -/
theorem writeZone_cases (s : State) (z : Fin 16) (duty : Nat) :
    writeZone s z duty = s ∨ writeZone s z duty = putZone s z { zoneOut s z with buffered := duty } := by
  unfold writeZone
  dsimp only
  split
  · exact .inl rfl
  · exact .inr rfl

/-! ### Breakers -/

@[simp] theorem brk_putBrk_self (s : State) (b : Brk) (r : Breaker) : brk (putBrk s b r) b = r := by cases b <;> rfl

@[simp] theorem brk_putBrk_other (s : State) (b : Brk) (r : Breaker) :
    brk (putBrk s b r) (otherBrk b) = brk s (otherBrk b) := by
  cases b <;> rfl

theorem brk_putBrk (s : State) (b d : Brk) (r : Breaker) : brk (putBrk s b r) d = if d = b then r else brk s d := by
  cases b <;> cases d <;> rfl

@[simp] theorem setShed_brk (s : State) (b : Brk) : brk (setShed s) b = brk s b := by cases b <;> rfl

/-- An open (R107) leaves a breaker that is made in OPENING without coils, and any other as it is. -/
theorem brk_openBrk (s : State) (b d : Brk) :
    brk (openBrk s b) d = if d = b ∧ brkMade (brk s b) = true
      then { brk s b with state := .opening, closeCoil := false, holdCoil := false, opTime := 0 } else brk s d := by
  unfold openBrk
  dsimp only
  split
  · rw [setShed_brk, brk_putBrk]; simp_all
  · simp_all

@[simp] theorem openBrk_open (s : State) (b : Brk) : brkMade (brk (openBrk s b) b) = false := by
  rw [brk_openBrk]
  split
  · rfl
  · simp_all

/-! ### Banks -/

@[simp] theorem bank_putBank_self (f : Flt) (b : BankId) (r : Bank) : bank (putBank f b r) b = r := by cases b <;> rfl

theorem bank_putBank_other (f : Flt) {b d : BankId} (r : Bank) (h : d ≠ b) : bank (putBank f b r) d = bank f d := by
  cases b <;> cases d <;> first | rfl | exact absurd rfl h

theorem bank_putBank (f : Flt) (b d : BankId) (r : Bank) :
    bank (putBank f b r) d = if d = b then r else bank f d := by
  split
  · subst_vars; exact bank_putBank_self ..
  · exact bank_putBank_other _ _ ‹_›

end Sys2Proof.Machine
end

