-- ==== Sys2Proof/Laws/Kept.lean ====
section
/-!
SUPPORT. What no protection, no sequence and no following of an event touches (`kept`), and what the following alone
does not touch either (`calm`). One lemma for each shared operation, so that a frame is found by `simp`.
-/

namespace Sys2Proof.Machine

/-! ### What is kept -/

/-- What a bank keeps at an offer. -/
structure BankKept where
  countEnable : Bool
  maskShed : Bool
  maskConv : Bool

def bankKept (b : Bank) : BankKept := ⟨b.countEnable, b.maskShed, b.maskConv⟩

/-- What a channel keeps but for its readings, its input and its force loop. -/
structure ChanKept where
  headok : Bool
  heightMm : Nat
  heightValid : Bool
  forceN : Nat
  forceRangeArmed : Bool
  integrator : Int

def chanKept (r : Channel) : ChanKept :=
  ⟨r.headok, r.heightMm, r.heightValid, r.forceN, r.forceRangeArmed, r.integrator⟩

/-- What only a command's own effect changes: no protection action, no sequence, no raise, no heater test. -/
structure Kept where
  pending : List Instr
  held : Bool
  now : Nat
  runMs : Nat
  lnk : Lnk
  pst : Pst
  table : List Entry
  pos : Position
  cau : Cau
  auxok : Bool
  chans : Quad ChanKept
  banks : List BankKept
  iceRest : Ice

def kept (s : State) : Kept where
  pending := s.pending
  held := s.held
  now := s.now
  runMs := s.runMs
  lnk := s.lnk
  pst := s.pst
  table := s.smp.table
  pos := s.smp.pos
  cau := { s.cau with demand := none }
  auxok := s.ros.auxok
  chans := ⟨chanKept s.pcu.chans.p1, chanKept s.pcu.chans.p2, chanKept s.pcu.chans.p3, chanKept s.pcu.chans.p4⟩
  banks := allBanks.map fun b => bankKept (bank s.flt b)
  iceRest := { s.ice with
    watch := false, stripHot := Quad.const false, counters := Quad.const 0, pointer := none, slot := .idle,
    scraperRequest := false }

/-- What nothing but a command's own effect or an offer changes. -/
structure Calm where
  kept : Kept
  lsi : Lsi
  cau : Cau
  roofState : RoofState

def calm (s : State) : Calm := ⟨kept s, s.lsi, s.cau, s.roofState⟩

theorem calm_mk {s t : State} (h1 : kept t = kept s) (h2 : t.lsi = s.lsi) (h3 : t.cau = s.cau)
    (h4 : t.roofState = s.roofState) : calm t = calm s := by
  simp [calm, h1, h2, h3, h4]

/-! #### Reading it -/

theorem kept_pending {s t : State} (h : kept t = kept s) : t.pending = s.pending := congrArg Kept.pending h
theorem kept_held {s t : State} (h : kept t = kept s) : t.held = s.held := congrArg Kept.held h
theorem kept_now {s t : State} (h : kept t = kept s) : t.now = s.now := congrArg Kept.now h
theorem kept_runMs {s t : State} (h : kept t = kept s) : t.runMs = s.runMs := congrArg Kept.runMs h
theorem kept_lnk {s t : State} (h : kept t = kept s) : t.lnk = s.lnk := congrArg Kept.lnk h
theorem kept_pst {s t : State} (h : kept t = kept s) : t.pst = s.pst := congrArg Kept.pst h
theorem kept_table {s t : State} (h : kept t = kept s) : t.smp.table = s.smp.table := congrArg Kept.table h
theorem kept_pos {s t : State} (h : kept t = kept s) : t.smp.pos = s.smp.pos := congrArg Kept.pos h
theorem kept_auxok {s t : State} (h : kept t = kept s) : t.ros.auxok = s.ros.auxok := congrArg Kept.auxok h
theorem kept_ice_mode {s t : State} (h : kept t = kept s) : t.ice.mode = s.ice.mode :=
  congrArg (fun k => k.iceRest.mode) h
theorem kept_ice_index {s t : State} (h : kept t = kept s) : t.ice.index = s.ice.index :=
  congrArg (fun k => k.iceRest.index) h
theorem kept_ice_level {s t : State} (h : kept t = kept s) : t.ice.level = s.ice.level :=
  congrArg (fun k => k.iceRest.level) h
theorem kept_arcCount {s t : State} (h : kept t = kept s) : t.ice.arcCount = s.ice.arcCount :=
  congrArg (fun k => k.iceRest.arcCount) h
theorem kept_strip {s t : State} (h : kept t = kept s) : t.ice.strip = s.ice.strip :=
  congrArg (fun k => k.iceRest.strip) h
theorem kept_active {s t : State} (h : kept t = kept s) : t.cau.active = s.cau.active :=
  congrArg (fun k => k.cau.active) h
theorem kept_conv {s t : State} (h : kept t = kept s) : t.cau.conv = s.cau.conv := congrArg (fun k => k.cau.conv) h

theorem kept_eff {s t : State} (h : kept t = kept s) (n : Nat) : eff t n = eff s n := by
  simp [eff, kept_pst h]

theorem kept_chan {s t : State} (h : kept t = kept s) (c : Chan) : chanKept (chan t c) = chanKept (chan s c) := by
  have e := congrArg Kept.chans h
  cases c
  · exact congrArg Quad.p1 e
  · exact congrArg Quad.p2 e
  · exact congrArg Quad.p3 e
  · exact congrArg Quad.p4 e

theorem kept_bank {s t : State} (h : kept t = kept s) (b : BankId) :
    bankKept (bank t.flt b) = bankKept (bank s.flt b) := by
  have e := congrArg Kept.banks h
  simp only [kept, allBanks, List.map_cons, List.map_nil, List.cons.injEq] at e
  cases b <;> simp_all [bank]

theorem calm_kept {s t : State} (h : calm t = calm s) : kept t = kept s := congrArg Calm.kept h
theorem calm_lsi {s t : State} (h : calm t = calm s) : t.lsi = s.lsi := congrArg Calm.lsi h
theorem calm_cau {s t : State} (h : calm t = calm s) : t.cau = s.cau := congrArg Calm.cau h
theorem calm_roofState {s t : State} (h : calm t = calm s) : t.roofState = s.roofState := congrArg Calm.roofState h

/-! ### Repetition -/

theorem kept_foldl {α : Type} (f : State → α → State) (h : ∀ s x, kept (f s x) = kept s) (l : List α) (s : State) :
    kept (l.foldl f s) = kept s := by
  induction l generalizing s with
  | nil => rfl
  | cons x xs ih => rw [List.foldl_cons, ih, h]

theorem calm_foldl {α : Type} (f : State → α → State) (h : ∀ s x, calm (f s x) = calm s) (l : List α) (s : State) :
    calm (l.foldl f s) = calm s := by
  induction l generalizing s with
  | nil => rfl
  | cons x xs ih => rw [List.foldl_cons, ih, h]

/-! ### Single writes -/

theorem calm_putChan (s : State) (c : Chan) (r : Channel) (h : chanKept r = chanKept (chan s c)) :
    calm (putChan s c r) = calm s := by
  refine calm_mk ?_ rfl rfl rfl
  cases c <;> simp_all [kept, putChan, Quad.set, chan, Quad.get]

@[simp] theorem calm_putValve (s : State) (c : Chan) (o : Out) : calm (putValve s c o) = calm s := rfl
@[simp] theorem calm_putZone (s : State) (z : Fin 16) (o : Out) : calm (putZone s z o) = calm s := rfl
@[simp] theorem calm_withChg (s : State) (x : Chg) : calm (s.withChg x) = calm s := rfl
@[simp] theorem calm_putSeq (s : State) (q : Sequence) : calm (putSeq s q) = calm s := rfl
@[simp] theorem calm_putBrk (s : State) (b : Brk) (r : Breaker) : calm (putBrk s b r) = calm s := by cases b <;> rfl
@[simp] theorem calm_setShed (s : State) : calm (setShed s) = calm s := rfl

@[simp] theorem calm_openBrk (s : State) (b : Brk) : calm (openBrk s b) = calm s := by
  unfold openBrk; dsimp only; split <;> simp

@[simp] theorem calm_closeBrk (s : State) (b : Brk) : calm (closeBrk s b) = calm s := by simp [closeBrk]

@[simp] theorem calm_writeValve (s : State) (c : Chan) (d : Nat) : calm (writeValve s c d) = calm s := by
  rcases writeValve_cases s c d with h | ⟨a, -, h⟩ <;> rw [h]; rfl

@[simp] theorem calm_writeZone (s : State) (z : Fin 16) (d : Nat) : calm (writeZone s z d) = calm s := by
  rcases writeZone_cases s z d with h | h <;> rw [h]; rfl

@[simp] theorem bankKept_bankOffer (b : Bank) (k : FaultKind) (c : Option Ctx) (t : BitVec 32) (p : Option Nat) :
    bankKept (bankOffer b k c t p) = bankKept b := by
  unfold bankOffer countOffer
  dsimp only
  split <;> split <;> rfl

@[simp] theorem calm_logOffer (s : State) (k : FaultKind) (c : Option Ctx) : calm (logOffer s k c) = calm s := by
  refine calm_mk ?_ rfl rfl rfl
  simp only [kept, logOffer, State.withFlt_flt, allBanks, List.map_cons, List.map_nil]
  congr 1
  cases kindBank k <;> simp [bank, putBank]

/-! ### Channels -/

@[simp] theorem chanKept_inState (r : Channel) (st : ChanState) : chanKept (inState r st) = chanKept r := rfl

@[simp] theorem calm_giveRole (s : State) (c : Chan) (x : Role) : calm (giveRole s c x) = calm s :=
  calm_putChan _ _ _ rfl

@[simp] theorem calm_ordinaryLower (s : State) (c : Chan) : calm (ordinaryLower s c) = calm s := by
  unfold ordinaryLower
  split
  · exact (calm_writeValve ..).trans (calm_putChan _ _ _ rfl)
  · rfl

@[simp] theorem calm_lowerAllFitted (s : State) : calm (lowerAllFitted s) = calm s :=
  calm_foldl _ (fun s c => by split <;> simp) _ _

@[simp] theorem calm_lowerScraper (s : State) : calm (lowerScraper s) = calm s :=
  calm_foldl _ (fun s c => by split <;> simp) _ _

@[simp] theorem calm_dropScraper (s : State) : calm (dropScraper s) = calm s := by
  unfold dropScraper; split <;> simp

@[simp] theorem calm_noteFailure (s : State) (r : Role) : calm (noteFailure s r) = calm s := by
  unfold noteFailure; split <;> rfl

@[simp] theorem calm_startRaise (s : State) (c : Chan) (r : Role) : calm (startRaise s c r) = calm s := by
  unfold startRaise
  exact (calm_writeValve ..).trans ((calm_giveRole ..).trans (calm_putChan _ _ _ rfl))

theorem calm_withPcu (s : State) (x : Pcu) (h : x.chans = s.pcu.chans) : calm (s.withPcu x) = calm s := by
  refine calm_mk ?_ rfl rfl rfl
  simp [kept, h]

@[simp] theorem calm_collectorRaise (s : State) : calm (collectorRaise s) = calm s := by
  unfold collectorRaise
  split
  · exact (calm_withPcu _ _ rfl).trans (calm_startRaise ..)
  · rfl

@[simp] theorem calm_scraperRaise (s : State) : calm (scraperRaise s) = calm s := by
  unfold scraperRaise; split <;> simp

@[simp] theorem calm_dumpInService (s : State) (c : Chan) : calm (dumpInService s c) = calm s := by
  unfold dumpInService; exact (calm_putValve ..).trans (calm_putChan _ _ _ rfl)

@[simp] theorem calm_stateFromReadings (s : State) (c : Chan) (d : Bool) : calm (stateFromReadings s c d) = calm s := by
  unfold stateFromReadings
  dsimp only
  rw [calm_writeValve]
  split <;> split <;> exact calm_putChan _ _ _ rfl

@[simp] theorem calm_leaveService (s : State) (c : Chan) : calm (leaveService s c) = calm s := by
  unfold leaveService; split <;> simp

@[simp] theorem calm_startHold (s : State) (c : Chan) : calm (startHold s c) = calm s := by
  unfold startHold
  split
  · exact calm_putChan _ _ _ rfl
  · rfl

@[simp] theorem calm_initialState (s : State) (c : Chan) : calm (initialState s c) = calm s := by
  unfold initialState; split <;> simp

@[simp] theorem calm_retarget (s : State) (c : Chan) : calm (retarget s c) = calm s := calm_putChan _ _ _ rfl

@[simp] theorem calm_retargetAll (s : State) : calm (retargetAll s) = calm s := calm_foldl _ calm_retarget _ _

/-! ### Ice clearing -/

@[simp] theorem calm_testStrip (s : State) (c : Chan) : calm (testStrip s c) = calm s := by
  unfold testStrip; dsimp only; split
  · rw [calm_logOffer]; rfl
  · rfl

@[simp] theorem calm_testAllStrips (s : State) : calm (testAllStrips s) = calm s := calm_foldl _ calm_testStrip _ _

@[simp] theorem calm_writeSlot (s : State) (zs : List (Fin 16)) (d : Nat) : calm (writeSlot s zs d) = calm s := by
  unfold writeSlot
  dsimp only
  rw [calm_foldl _ (fun s z => calm_writeZone s z d), calm_foldl _ fun s z => by split <;> simp]

@[simp] theorem calm_slotStart (s : State) : calm (slotStart s) = calm s := by
  unfold slotStart
  split
  · rfl
  · split <;> (dsimp only; rw [calm_writeSlot]; rfl)

@[simp] theorem calm_budgetCut (s : State) : calm (budgetCut s) = calm s :=
  calm_foldl _ (fun _ _ => calm_putZone _ _ _) _ _

@[simp] theorem calm_withdrawScraper (s : State) : calm (withdrawScraper s) = calm s := by
  have h : calm (lowerScraper (s.withIce { s.ice with scraperRequest := false })) = calm s := by
    rw [calm_lowerScraper]; rfl
  unfold withdrawScraper
  dsimp only
  generalize lowerScraper (s.withIce { s.ice with scraperRequest := false }) = u at h ⊢
  exact (calm_withPcu u _ rfl).trans h

@[simp] theorem calm_scraperTest (s : State) : calm (scraperTest s) = calm s := by
  unfold scraperTest
  split
  · split <;> simp
  · split <;> rfl

/-! ### Sequences -/

@[simp] theorem calm_recompute (s : State) : calm (recompute s) = calm s := by
  unfold recompute; dsimp only; split
  · rw [calm_logOffer]; rfl
  · rfl

@[simp] theorem calm_forceChanged (b : Option Sys) (s : State) : calm (forceChanged b s) = calm s := by
  unfold forceChanged; split <;> simp

@[simp] theorem calm_waitTest (s : State) : calm (waitTest s) = calm s := by
  unfold waitTest
  split
  · rfl
  · split
    · split
      · dsimp only; split <;> simp
      · simp
    · rfl

@[simp] theorem calm_identifyTest (s : State) : calm (identifyTest s) = calm s := by
  unfold identifyTest
  split
  · split <;> simp
  · rfl

@[simp] theorem calm_enterWork (st : Stage) (s : State) : calm (enterWork st s) = calm s := by
  unfold enterWork
  split
  · rfl
  · split
    · rw [calm_setShed]; split <;> simp
    · simp
    · dsimp only; split <;> simp
    · simp
    · simp
    · split <;> simp
    · rfl
    · split <;> simp

@[simp] theorem calm_enterStage (st : Stage) (s : State) : calm (enterStage st s) = calm s := by
  unfold enterStage; split <;> simp

@[simp] theorem calm_recordEnd (s : State) (r : Result) (n : Nat) : calm (recordEnd s r n) = calm s := by
  unfold recordEnd; split <;> rfl

@[simp] theorem calm_cancelClose (s : State) : calm (cancelClose s) = calm s := by
  unfold cancelClose; dsimp only; split <;> split <;> simp

@[simp] theorem calm_abortSeq (s : State) (r : Reason) : calm (abortSeq s r) = calm s := by
  unfold abortSeq; split <;> simp

@[simp] theorem calm_startReported (s : State) : calm (startReported s) = calm s := by
  unfold startReported; split <;> simp

@[simp] theorem calm_startSeq (s : State) (k : SeqKind) (o : Origin) (t : Option Sys) (a : Option Awaited)
    (st : Stage) : calm (startSeq s k o t a st) = calm s := by
  simp [startSeq]

@[simp] theorem calm_automaticStart (s : State) : calm (automaticStart s) = calm s := by
  unfold automaticStart
  split
  · split <;> simp
  · rfl

@[simp] theorem calm_endSeq (s : State) (r : Result) (n : Nat) : calm (endSeq s r n) = calm s := by
  unfold endSeq; split <;> simp

@[simp] theorem calm_handOutlook (s : State) : calm (handOutlook s) = calm s := by simp [handOutlook]
@[simp] theorem calm_newOutlook (s : State) : calm (newOutlook s) = calm s := by simp [newOutlook]

@[simp] theorem calm_openingEnds (s : State) (q : Sequence) : calm (openingEnds s q) = calm s := by
  unfold openingEnds; split <;> simp

@[simp] theorem calm_leaveStage (s : State) (q : Sequence) : calm (leaveStage s q) = calm s := by
  unfold leaveStage; dsimp only; split <;> simp

/-- A stage left touches none of it. -/
theorem calm_stageStep {s t : State} (h : stageStep s = some t) : calm t = calm s := by
  unfold stageStep at h
  split at h
  · cases h
  · split at h
    · cases h; simp
    · cases h; simp
    · cases h; simp
    · split at h
      · cases h; simp
      · cases h

@[simp] theorem calm_progressFuel (n : Nat) (s : State) : calm (progressFuel n s) = calm s := by
  induction n generalizing s with
  | zero => rfl
  | succ n ih =>
    unfold progressFuel
    split
    · rename_i t h
      rw [ih, calm_stageStep h]
    · rfl

@[simp] theorem calm_progress (s : State) : calm (progress s) = calm s := calm_progressFuel _ _

@[simp] theorem calm_roofDownSeq (s : State) (r : Reason) (o : Origin) : calm (roofDownSeq s r o) = calm s := by
  simp [roofDownSeq]

@[simp] theorem calm_protectionOpen (s : State) (b : Brk) : calm (protectionOpen s b) = calm s := by
  unfold protectionOpen; split <;> simp

@[simp] theorem calm_collectorFailed (s : State) : calm (collectorFailed s) = calm s := by
  have h : ∀ x : State, calm x = calm s →
      calm (match madeBrk s with | some b => protectionOpen x b | none => x) = calm s := by
    intro x hx; split <;> simp [hx]
  unfold collectorFailed
  dsimp only
  apply h
  split
  · split <;> simp
  · rfl

@[simp] theorem calm_roofSafeSeq (s : State) : calm (roofSafeSeq s) = calm s := by
  unfold roofSafeSeq; dsimp only; split <;> simp

@[simp] theorem calm_haltSeq (s : State) (r : Reason) : calm (haltSeq s r) = calm s := by simp [haltSeq]

/-! ### Protection: what is kept -/

@[simp] theorem calm_failed (s : State) (r : Role) : calm (failed s r) = calm s := by
  unfold failed; dsimp only; split <;> simp

@[simp] theorem calm_failInto (s : State) (c : Chan) (st : ChanState) : calm (failInto s c st) = calm s := by
  unfold failInto; exact (calm_failed ..).trans ((calm_writeValve ..).trans (calm_putChan _ _ _ rfl))

@[simp] theorem calm_protLower (s : State) (c : Chan) : calm (protLower s c) = calm s := by
  unfold protLower
  split <;> first | rfl | exact calm_putChan _ _ _ rfl | simp

@[simp] theorem calm_protLowerAll (s : State) : calm (protLowerAll s) = calm s :=
  calm_foldl _ (fun s c => by split <;> simp) _ _

theorem kept_withPcu (s : State) (x : Pcu) (h : x.chans = s.pcu.chans) : kept (s.withPcu x) = kept s :=
  calm_kept (calm_withPcu s x h)

@[simp] theorem kept_withRoof (s : State) (r : RoofState) : kept (s.withRoof r) = kept s := rfl
@[simp] theorem kept_withLsi (s : State) (x : Lsi) : kept (s.withLsi x) = kept s := rfl

@[simp] theorem kept_endDemand (s : State) : kept (endDemand s) = kept s := by
  unfold endDemand; split
  · exact (kept_withPcu _ _ rfl).trans rfl
  · rfl

@[simp] theorem kept_leaveCheck (s : State) : kept (leaveCheck s) = kept s := rfl

@[simp] theorem kept_enterSafeHeld (s : State) : kept (enterSafeHeld s) = kept s := by
  unfold enterSafeHeld
  split
  · exact (kept_withPcu _ _ rfl).trans (by simp)
  · simp
  · rfl
  · rfl

@[simp] theorem kept_roofSafe (s : State) : kept (roofSafe s) = kept s := by
  unfold roofSafe
  rw [kept_enterSafeHeld, calm_kept (calm_protLowerAll _), calm_kept (calm_roofSafeSeq _)]

@[simp] theorem calm_openAction (s : State) (b : Brk) : calm (openAction s b) = calm s := by
  unfold openAction; split <;> simp

@[simp] theorem calm_takeAction (s : State) (o : Offer) (m : Option Brk) : calm (takeAction s o m) = calm s := by
  unfold takeAction
  split
  · dsimp only; split <;> simp
  · simp
  · simp
  · split <;> simp
  · rfl

/-- What an offer never touches: the link, the profile store, the section table, the position, and everything of
the cab unit but the raise demand. -/
@[simp] theorem kept_offer (s : State) (o : Offer) : kept (offer s o) = kept s := by
  have h : calm (if kindEnabled (bank s.flt (kindBank o.kind)) o.kind = true
      then takeAction (logOffer s o.kind o.ctx) o (madeBrk s) else logOffer s o.kind o.ctx) = calm s := by
    split <;> simp
  unfold offer
  dsimp only
  split
  · rw [kept_roofSafe, calm_kept h]
  · exact calm_kept h

@[simp] theorem kept_offerPlain (s : State) (k : FaultKind) : kept (offerPlain s k) = kept s := kept_offer ..
@[simp] theorem kept_offerChan (s : State) (k : FaultKind) (c : Chan) : kept (offerChan s k c) = kept s := kept_offer ..
@[simp] theorem kept_offerBrk (s : State) (k : FaultKind) (b : Brk) : kept (offerBrk s k b) = kept s := kept_offer ..

@[simp] theorem kept_haltThenOffer (s : State) (r : Reason) (k : FaultKind) (b : Brk) :
    kept (haltThenOffer s r k b) = kept s := by
  unfold haltThenOffer; rw [kept_offerBrk, calm_kept (calm_endSeq _ _ _)]

/-! ### What follows an event -/

@[simp] theorem calm_resetRotation (b s : State) : calm (resetRotation b s) = calm s := by
  unfold resetRotation; split <;> rfl

@[simp] theorem calm_heaterTest (b s : State) : calm (heaterTest b s) = calm s := by
  unfold heaterTest; dsimp only; split <;> simp

/-- What follows an event never touches the identifier, the cab unit, the link, the profile store, the section table,
the position or the roof state. -/
@[simp] theorem calm_settle (b s : State) : calm (settle b s) = calm s := by
  unfold settle; split <;> simp

theorem settle_held (b s : State) (h : s.held = true) : settle b s = s := by simp [settle, h]

theorem settle_starting (b s : State) (h : s.roofState = .starting) : settle b s = s := by simp [settle, h]

theorem event_next (f : State → State) (s : State) :
    ∃ t, event f s = .next t ∧ ((s.held = true ∧ t = s) ∨ (s.held = false ∧ t = settle s (f s))) := by
  unfold event
  cases h : s.held
  · exact ⟨_, rfl, .inr ⟨rfl, rfl⟩⟩
  · exact ⟨_, rfl, .inl ⟨rfl, rfl⟩⟩

end Sys2Proof.Machine
end

