-- ==== Sys2Proof/Laws/PerInstr.lean ====
section
/-!
SUPPORT. Statements made command by command. `Payload`: a well-formed command carries no more payload than a frame can
(R189), so that a well-formed request could have come over the roof link.
-/

namespace Sys2Proof.Laws.Payload

/-- The payload of a request; every other command has none. -/
def carried : Instr → List Byte
  | .statusRead _ p | .cabTake _ p | .cabRelease _ p | .cabPass _ p | .roofUp _ p | .roofDown _ p
  | .systemSelect _ p | .breakerClose _ p | .breakerOpen _ p | .position _ p | .sectionLoad _ p
  | .sectionClear _ p | .sectionRead _ p | .converterReport _ p | .iceMode _ p | .parameterSet _ p
  | .parameterRead _ p | .faultRead _ p | .faultClear _ p | .thresholdSet _ p | .lockoutClear _ p
  | .outputTake _ p | .outputDrive _ p | .outputReturn _ p | .senseCheckStart _ p | .senseCheckEnd _ p
  | .softReset _ p => p
  | .unknownKind _ _ | .frameDiscarded _ | .frameFormatAbort _ _ | .frameGapTimeout | .silenceEnd
  | .answerSend | .answerWithdrawn _ | .softResetAction _ | .powerOnReset | .pinReset | .resetRelease _
  | .profileHeaderRead _ | .segmentRead _ | .loadEepromNoAnswer | .winterReadEnd _ | .winterReadFail
  | .windowPublication | .channelReading _ _ _ _ | .ambientReading _ | .heightSensor _ | .headokLost _
  | .headokRestored _ | .raiseTimeout _ | .contactLoss _ | .lowerTimeout _ | .forceControlPeriod
  | .valvePeriodBoundary | .heaterPeriodBoundary | .safePeriodEnd _ | .serviceLapse | .auxokLost
  | .auxokReturn | .cabLapse | .demandExpiry | .converterStale | .odometerPulse | .positionLapse
  | .breakerFeedbackChange _ _ | .closeTimeExpiry _ _ | .openTimeExpiry _ _ | .shedTimeout | .deadRun
  | .identifyTimeout | .converterTimeout | .settleIntervalEnd | .iceIndexUpdate | .slotExpiry
  | .roofVoltageSample _ | .characterReceived _ | .answerEnd => []

/-- A well-formed command carries at most 48 payload characters (R189). -/
def Statement (i : Instr) : Prop := i.wellFormed = true → (carried i).length ≤ 48

/-- What a well-formed request says of its payload. -/
theorem of_fits {p : List Byte} (h : payloadFits p = true) : p.length ≤ 48 := by simpa [payloadFits] using h

/-- A command without a payload. -/
theorem of_none {i : Instr} (h : carried i = []) : Statement i := fun _ => by simp [h]

theorem statusRead (src : Station) (payload : List Byte) : Statement (.statusRead src payload) := of_fits
theorem cabTake (src : Station) (payload : List Byte) : Statement (.cabTake src payload) := of_fits
theorem cabRelease (src : Station) (payload : List Byte) : Statement (.cabRelease src payload) := of_fits
theorem cabPass (src : Station) (payload : List Byte) : Statement (.cabPass src payload) := of_fits
theorem roofUp (src : Station) (payload : List Byte) : Statement (.roofUp src payload) := of_fits
theorem roofDown (src : Station) (payload : List Byte) : Statement (.roofDown src payload) := of_fits
theorem systemSelect (src : Station) (payload : List Byte) : Statement (.systemSelect src payload) := of_fits
theorem breakerClose (src : Station) (payload : List Byte) : Statement (.breakerClose src payload) := of_fits
theorem breakerOpen (src : Station) (payload : List Byte) : Statement (.breakerOpen src payload) := of_fits
theorem position (src : Station) (payload : List Byte) : Statement (.position src payload) := of_fits
theorem sectionLoad (src : Station) (payload : List Byte) : Statement (.sectionLoad src payload) := of_fits
theorem sectionClear (src : Station) (payload : List Byte) : Statement (.sectionClear src payload) := of_fits
theorem sectionRead (src : Station) (payload : List Byte) : Statement (.sectionRead src payload) := of_fits
theorem converterReport (src : Station) (payload : List Byte) : Statement (.converterReport src payload) := of_fits
theorem iceMode (src : Station) (payload : List Byte) : Statement (.iceMode src payload) := of_fits
theorem parameterSet (src : Station) (payload : List Byte) : Statement (.parameterSet src payload) := of_fits
theorem parameterRead (src : Station) (payload : List Byte) : Statement (.parameterRead src payload) := of_fits
theorem faultRead (src : Station) (payload : List Byte) : Statement (.faultRead src payload) := of_fits
theorem faultClear (src : Station) (payload : List Byte) : Statement (.faultClear src payload) := of_fits
theorem thresholdSet (src : Station) (payload : List Byte) : Statement (.thresholdSet src payload) := of_fits
theorem lockoutClear (src : Station) (payload : List Byte) : Statement (.lockoutClear src payload) := of_fits
theorem outputTake (src : Station) (payload : List Byte) : Statement (.outputTake src payload) := of_fits
theorem outputDrive (src : Station) (payload : List Byte) : Statement (.outputDrive src payload) := of_fits
theorem outputReturn (src : Station) (payload : List Byte) : Statement (.outputReturn src payload) := of_fits
theorem senseCheckStart (src : Station) (payload : List Byte) : Statement (.senseCheckStart src payload) := of_fits
theorem senseCheckEnd (src : Station) (payload : List Byte) : Statement (.senseCheckEnd src payload) := of_fits
theorem softReset (src : Station) (payload : List Byte) : Statement (.softReset src payload) := of_fits
theorem unknownKind (src : Station) (kind : Byte) : Statement (.unknownKind src kind) := of_none rfl
theorem frameDiscarded (frame : List Byte) : Statement (.frameDiscarded frame) := of_none rfl
theorem frameFormatAbort (char : Byte) (stopBit : Bool) : Statement (.frameFormatAbort char stopBit) := of_none rfl
theorem frameGapTimeout : Statement .frameGapTimeout := of_none rfl
theorem silenceEnd : Statement .silenceEnd := of_none rfl
theorem answerSend : Statement .answerSend := of_none rfl
theorem answerWithdrawn (char : Byte) : Statement (.answerWithdrawn char) := of_none rfl
theorem softResetAction (straps : BitVec 5) : Statement (.softResetAction straps) := of_none rfl
theorem powerOnReset : Statement .powerOnReset := of_none rfl
theorem pinReset : Statement .pinReset := of_none rfl
theorem resetRelease (straps : BitVec 5) : Statement (.resetRelease straps) := of_none rfl
theorem profileHeaderRead (read : HeaderRead) : Statement (.profileHeaderRead read) := of_none rfl
theorem segmentRead (attempts : Attempts) : Statement (.segmentRead attempts) := of_none rfl
theorem loadEepromNoAnswer : Statement .loadEepromNoAnswer := of_none rfl
theorem winterReadEnd (attempts : Attempts) : Statement (.winterReadEnd attempts) := of_none rfl
theorem winterReadFail : Statement .winterReadFail := of_none rfl
theorem windowPublication : Statement .windowPublication := of_none rfl
theorem channelReading (ch : Chan) (height : Int) (force : Int) (strip : Int) : Statement (.channelReading ch height force strip) := of_none rfl
theorem ambientReading (temp : Int) : Statement (.ambientReading temp) := of_none rfl
theorem heightSensor (ch : Chan) : Statement (.heightSensor ch) := of_none rfl
theorem headokLost (ch : Chan) : Statement (.headokLost ch) := of_none rfl
theorem headokRestored (ch : Chan) : Statement (.headokRestored ch) := of_none rfl
theorem raiseTimeout (ch : Chan) : Statement (.raiseTimeout ch) := of_none rfl
theorem contactLoss (ch : Chan) : Statement (.contactLoss ch) := of_none rfl
theorem lowerTimeout (ch : Chan) : Statement (.lowerTimeout ch) := of_none rfl
theorem forceControlPeriod : Statement .forceControlPeriod := of_none rfl
theorem valvePeriodBoundary : Statement .valvePeriodBoundary := of_none rfl
theorem heaterPeriodBoundary : Statement .heaterPeriodBoundary := of_none rfl
theorem safePeriodEnd (out : Output) : Statement (.safePeriodEnd out) := of_none rfl
theorem serviceLapse : Statement .serviceLapse := of_none rfl
theorem auxokLost : Statement .auxokLost := of_none rfl
theorem auxokReturn : Statement .auxokReturn := of_none rfl
theorem cabLapse : Statement .cabLapse := of_none rfl
theorem demandExpiry : Statement .demandExpiry := of_none rfl
theorem converterStale : Statement .converterStale := of_none rfl
theorem odometerPulse : Statement .odometerPulse := of_none rfl
theorem positionLapse : Statement .positionLapse := of_none rfl
theorem breakerFeedbackChange (b : Brk) (closed : Bool) : Statement (.breakerFeedbackChange b closed) := of_none rfl
theorem closeTimeExpiry (b : Brk) (closed : Bool) : Statement (.closeTimeExpiry b closed) := of_none rfl
theorem openTimeExpiry (b : Brk) (closed : Bool) : Statement (.openTimeExpiry b closed) := of_none rfl
theorem shedTimeout : Statement .shedTimeout := of_none rfl
theorem deadRun : Statement .deadRun := of_none rfl
theorem identifyTimeout : Statement .identifyTimeout := of_none rfl
theorem converterTimeout : Statement .converterTimeout := of_none rfl
theorem settleIntervalEnd : Statement .settleIntervalEnd := of_none rfl
theorem iceIndexUpdate : Statement .iceIndexUpdate := of_none rfl
theorem slotExpiry : Statement .slotExpiry := of_none rfl
theorem roofVoltageSample (code : BitVec 16) : Statement (.roofVoltageSample code) := of_none rfl
theorem characterReceived (char : Byte) : Statement (.characterReceived char) := of_none rfl
theorem answerEnd : Statement .answerEnd := of_none rfl

end Sys2Proof.Laws.Payload
end

