-- ==== Sys2Proof/Laws/Requests.lean ====
section
/-!
SUPPORT. What hearing a frame leaves alone, and what becomes of an accepted request: its own rule decides, and the answer
waits.
-/

namespace Sys2Proof.Machine

/-! ### Hearing a frame -/

@[simp] theorem heard_held (src : Station) (s : State) : (heard src s).held = s.held := by cases src <;> rfl
@[simp] theorem heard_pending (src : Station) (s : State) : (heard src s).pending = s.pending := by cases src <;> rfl
@[simp] theorem heard_now (src : Station) (s : State) : (heard src s).now = s.now := by cases src <;> rfl
@[simp] theorem heard_roofState (src : Station) (s : State) : (heard src s).roofState = s.roofState := by
  cases src <;> rfl
@[simp] theorem heard_lsi (src : Station) (s : State) : (heard src s).lsi = s.lsi := by cases src <;> rfl
@[simp] theorem heard_pcu (src : Station) (s : State) : (heard src s).pcu = s.pcu := by cases src <;> rfl
@[simp] theorem heard_ros (src : Station) (s : State) : (heard src s).ros = s.ros := by cases src <;> rfl
@[simp] theorem heard_smp (src : Station) (s : State) : (heard src s).smp = s.smp := by cases src <;> rfl
@[simp] theorem heard_chg (src : Station) (s : State) : (heard src s).chg = s.chg := by cases src <;> rfl
@[simp] theorem heard_ice (src : Station) (s : State) : (heard src s).ice = s.ice := by cases src <;> rfl
@[simp] theorem heard_flt (src : Station) (s : State) : (heard src s).flt = s.flt := by cases src <;> rfl
@[simp] theorem heard_pst (src : Station) (s : State) : (heard src s).pst = s.pst := by cases src <;> rfl
@[simp] theorem heard_active (src : Station) (s : State) : (heard src s).cau.active = s.cau.active := by
  cases src <;> rfl
@[simp] theorem heard_demand (src : Station) (s : State) : (heard src s).cau.demand = s.cau.demand := by
  cases src <;> rfl
@[simp] theorem heard_conv (src : Station) (s : State) : (heard src s).cau.conv = s.cau.conv := by cases src <;> rfl
@[simp] theorem heard_eff (src : Station) (s : State) (n : Nat) : eff (heard src s) n = eff s n := by cases src <;> rfl
@[simp] theorem heard_chan (src : Station) (s : State) (c : Chan) : chan (heard src s) c = chan s c := by
  cases src <;> rfl
@[simp] theorem heard_chanClass (src : Station) (s : State) (c : Chan) :
    chanClass (heard src s) c = chanClass s c := by cases src <;> rfl
@[simp] theorem heard_brk (src : Station) (s : State) (b : Brk) : brk (heard src s) b = brk s b := by
  cases src <;> rfl
@[simp] theorem heard_roofQuiet (src : Station) (s : State) : roofQuiet (heard src s) = roofQuiet s := by
  cases src <;> rfl
@[simp] theorem heard_closeFailing (src : Station) (s : State) : closeFailing (heard src s) = closeFailing s := by
  cases src <;> rfl

/-! ### Acceptance -/

theorem hears_of_listening {s : State} (h : Listening s) : hears s = true := by
  simp [hears, h.held, h.sending, h.receiver, h.soft]

theorem soft_of_listening {s : State} (h : Listening s) : (hearFrame s).lnk.soft = .none := by
  simp [hearFrame, softWithdrawn, h.soft]

/-- No step of R68 refuses an accepted request. -/
theorem refusal_of_accepted {k : ReqKind} {src : Station} {s : State} (h : Accepted k src s) :
    refusal k src (heard src s) = none := by
  have h1 := h.role
  have h2 := h.starting
  have h3 := h.check
  have h4 := h.cab
  unfold refusal
  rw [heard_roofState, heard_active]
  rcases hk : roleTable k src <;> simp_all <;> grind

/-- An accepted request of the right length: its rule's answer waits, on its rule's state. -/
theorem takeRequest_accepted {k : ReqKind} {src : Station} {p : List Byte} {body : State → State × Reply} {s : State}
    (h : Accepted k src s) (hl : reqLengthOk k p.length = true) :
    takeRequest k src p body s
      = replied src (reqCode k) (answerByte (body (heard src s)).2.code :: (body (heard src s)).2.rest)
          (body (heard src s)).1 := by
  have h1 := hears_of_listening h.listening
  have h2 := soft_of_listening h.listening
  have h3 := refusal_of_accepted h
  unfold takeRequest decideRequest
  simp only [heard] at *
  simp_all [putAnswer, replied]
  cases k <;> rfl

/-- A refused request: nothing but the hearing, and the refusal's code waits. -/
theorem takeRequest_refused {k : ReqKind} {src : Station} {p : List Byte} {body : State → State × Reply} {s : State}
    {c : AnswerCode} (h : Listening s) (hr : refusal k src (heard src s) = some c) :
    takeRequest k src p body s = replied src (reqCode k) [answerByte c] (heard src s) := by
  have h1 := hears_of_listening h
  have h2 := soft_of_listening h
  unfold takeRequest decideRequest
  simp only [heard] at *
  simp_all [putAnswer, replied, plain]
  cases k <;> rfl

/-- An event while no reset is held. -/
theorem event_live {f : State → State} {s : State} (h : s.held = false) : event f s = .next (settle s (f s)) := by
  simp [event, h]

end Sys2Proof.Machine
end

