-- ==== Sys2Proof/Tests/Slice0.lean ====
section
/-!
SUPPORT. Tests. First small states; then what `WellFormed` refuses; then values of the manual's worked examples and
tables; last, for each obligation with hypotheses, states and operands that meet them, clause by clause.
-/

namespace Sys2Proof.Tests

open Sys2Proof.Machine

/-! ### Small states -/

/-- READY after a start with STRAP4 at 0, the receiver IDLE. -/
def ready : State :=
  (((State.reset.withHeld false).withRoof .ready).withPst { Pst.reset 0 with live := true, reason := some .strap }).withLnk
    { Lnk.reset with receiver := .idle }

def starting : State := ready.withRoof .starting
def safeHeld : State := ready.withRoof .safeHeld
def check : State := (ready.withRoof .check).withLsi { Lsi.reset with checkPattern := some 2, checkResult := .pending }

/-- With an active VCU. -/
def cab (v : Vcu) (s : State) : State := s.withCau { s.cau with active := some v }

/-- With a system_target. -/
def aim (t : Sys) (s : State) : State := s.withChg { s.chg with target := some t }

def withChan (c : Chan) (f : Channel → Channel) (s : State) : State := putChan s c (f (chan s c))
def inChan (st : ChanState) (c : Chan) (s : State) : State := withChan c (fun r => { r with state := st }) s

/-- A channel IN_CONTACT as COLLECTOR. -/
def contact (c : Chan) (s : State) : State :=
  withChan c (fun r => { r with state := .inContact, role := .collector, arcArmed := true }) s

def withBrk (b : Brk) (st : BrkState) (s : State) : State := putBrk s b { brk s b with state := st }
def conv (c : ConvState) (t : Option Sys) (s : State) : State :=
  s.withCau { s.cau with conv := ⟨c, t, some 0, true⟩ }
def measured (k : LineClass) (s : State) : State := s.withLsi { s.lsi with measured := k }
def running (k : SeqKind) (st : Stage) (t : Option Sys) (s : State) : State :=
  putSeq s ⟨k, .vcuA, t, none, none, st, none, false, 0, none, 0, false, false, none⟩
def linked (l : Layer) (s : State) : State := s.withPst { s.pst with link := l }
def settling (s : State) : State := s.withPst { s.pst with settle := true }
def placed (p speed : Nat) (minus : Bool) (s : State) : State := s.withSmp { s.smp with pos :=
  { valid := true, positionM := p, remainderMm := 0, track := 2, minus := minus, speed := speed, speedClamped := false,
    reportTime := some 0, stale := false, travelMm := 0 } }
def mapped (es : List Entry) (s : State) : State := s.withSmp { s.smp with table := es }
def recorded (b : BankId) (k : FaultKind) (x : Option Ctx) (s : State) : State :=
  s.withFlt (putBank s.flt b { bank s.flt b with record := some ⟨k, true, x, false, kindCorrupt k, 0, none⟩ })
def at' (t : Nat) (s : State) : State := s.withNow t
def line (f : Lnk → Lnk) (s : State) : State := s.withLnk (f s.lnk)
def iced (f : Ice → Ice) (s : State) : State := s.withIce (f s.ice)

/-- With an outlook that shows a kind and a next kind, and no following system. -/
def shows (k : CombKind) (next : Option CombKind) (s : State) : State := s.withSmp { s.smp with
  outlook := ⟨true, k, false, false, 100, next, next.map fun _ => 1, none⟩ }

/-- ICING in AUTO with the scraper enabled, on AC25 with nothing ahead. -/
def scraping (s : State) : State :=
  shows (.sys .ac25) none (linked [(Par.scraperEnable, 1)] (iced (fun i => { i with mode := .auto, level := .icing }) s))

/-- AC25 made ready to close: P1 in contact, identified, the converter READY(AC25). -/
def closable : State := conv .ready (some .ac25) (measured (.sys .ac25) (contact .p1 (aim .ac25 (cab .a ready))))

/-- BKA CLOSED on AC25. -/
def powered : State :=
  let s := withBrk .bka .closed closable
  s.withChg { s.chg with inForce := some .ac25, shed := false }

/-! ### Deciding the premises -/

def listens (s : State) : Bool :=
  !s.held && s.lnk.sending.isNone && s.lnk.receiver != .silenceWait && s.lnk.soft == .none

theorem listens_of {s : State} (h : listens s = true) : Listening s := by
  simp [listens] at h
  exact ⟨h.1.1.1, h.1.1.2, h.1.2, h.2⟩

def takes (k : ReqKind) (src : Station) (s : State) : Bool :=
  listens s && roleTable k src != .no && (s.roofState != .starting || k == .statusRead)
    && (s.roofState != .check || takenInCheck k) && (roleTable k src != .active || s.cau.active == vcuOf src)

theorem takes_of {k : ReqKind} {src : Station} {s : State} (h : takes k src s = true) : Accepted k src s := by
  simp only [takes, Bool.and_eq_true, Bool.or_eq_true, bne_iff_ne, beq_iff_eq, ne_eq] at h
  obtain ⟨⟨⟨⟨h1, h2⟩, h3⟩, h4⟩, h5⟩ := h
  exact ⟨listens_of h1, h2, fun e => h3.resolve_left fun n => n e, fun e => h4.resolve_left fun n => n e,
    fun e => h5.resolve_left fun n => n e⟩

theorem runs_of {s : State} (h : (!s.held && s.roofState != .starting) = true) : Running s := by
  simp at h; exact ⟨h.1, h.2⟩

/-- A window of equal samples holds its sums. -/
theorem sums_of_equal (n : Nat) (x : Int) (h : saturated x = false) :
    SumsHold ⟨List.replicate n x, n * x, n * x.natAbs ^ 2, 0⟩ := by
  refine ⟨?_, ?_, ?_⟩
  · simp [List.sum_replicate]
  · simp [List.map_replicate, List.sum_replicate]
  · induction n with
    | zero => rfl
    | succ n ih => simp [List.replicate_succ, h]

/-! ### WellFormed refuses -/

theorem test_wf_payload : (Instr.statusRead .tool (List.replicate 49 0)).wellFormed = false := by decide
theorem test_wf_unknownKind : (Instr.unknownKind .tool 0x1B#8).wellFormed = false := by decide
theorem test_wf_frame : (Instr.frameDiscarded [0x10, 1, 1, 2, 0, 0, 0]).wellFormed = false := by decide
theorem test_wf_abort : (Instr.frameFormatAbort 48#8 true).wellFormed = false := by decide
theorem test_wf_header : (Instr.profileHeaderRead ⟨[true], [some (List.replicate 38 0)]⟩).wellFormed = false := by
  decide
theorem test_wf_pulses : (Instr.profileHeaderRead ⟨List.replicate 11 false, []⟩).wellFormed = false := by decide
theorem test_wf_segment : (Instr.segmentRead [none, none, none, some []]).wellFormed = false := by decide
theorem test_wf_winter : (Instr.winterReadEnd [some (List.replicate 2049 0)]).wellFormed = false := by
  simp only [Instr.wellFormed, attemptsFit, List.all_cons, List.length_replicate]; decide
theorem test_wf_accepts : (Instr.statusRead .tool (List.replicate 48 0)).wellFormed = true := by decide

/-! ### Worked examples of the manual -/

set_option maxRecDepth 8000 in
/-- The check value of the CRC-16 with polynomial 0x1021 and start 0xFFFF over the characters 1 to 9. -/
theorem test_crc : crc16 [0x31, 0x32, 0x33, 0x34, 0x35, 0x36, 0x37, 0x38, 0x39] = 0x29B1#16 := by decide

/-- Chapter 1, worked windows, case 1. -/
theorem test_window_ac : varianceV ⟨[], 0, 187500000000, 0⟩ = 156250000 ∧ rootOf 156250000 = 12500 ∧
    frequency ⟨none, 1200, 9, 120, 1080⟩ = 5000 := by decide

/-- Chapter 1, worked windows, case 2: M and V. -/
theorem test_window_dead : meanM 250000 = 208 ∧ varianceV ⟨[], 250000, 109375000000, 0⟩ = 91102430 := by
  decide

/-- Table 1-12: the frequency of pattern 1. -/
theorem test_window_pattern : frequency ⟨none, 1200, 3, 239, 957⟩ = 1671 := by decide

/-- Table 3-1. -/
theorem test_force_targets :
    forceTargetOf (placed 0 300 false ready) .p1 .collector = 124 ∧
    forceTargetOf (placed 0 200 false ready) .p1 .scraper = 114 ∧
    forceTargetOf (placed 0 300 false ready) .p3 .scraper = 164 := by decide

/-- Table 3-2, periods 1 and 4. -/
theorem test_force_loop :
    (let r := { Channel.reset true with state := .inContact, forceTarget := 124, forceN := 110 }
     loopDuty ready r = 471 ∧ loopIntegrator ready r = 56) ∧
    (let r := { Channel.reset true with state := .inContact, forceTarget := 124, forceN := 131, integrator := 100 }
     loopDuty ready r = 440 ∧ loopIntegrator ready r = 72) := by decide

/-- Chapter 3, the second worked force loop: the integrator is held, and then moves. -/
theorem test_force_loop_held :
    (let r := { Channel.reset true with state := .inContact, forceTarget := 124, forceN := 60, integrator := 200000 }
     loopDuty ready r = 1000 ∧ loopIntegrator ready r = 200000) ∧
    (let r := { Channel.reset true with state := .inContact, forceTarget := 124, forceN := 180, integrator := 200000 }
     loopDuty ready r = 1000 ∧ loopIntegrator ready r = 199776) := by decide

/-- Two entries around a separation, as in chapter 5's worked outlook A. -/
def stretch : List Entry :=
  [⟨120000, 125000, .sys .ac25, 15, true⟩, ⟨125000, 125500, .separation, 15, true⟩,
   ⟨125500, 140000, .sys .dc3, 15, true⟩]

set_option maxRecDepth 8000 in
/-- Chapter 5, worked outlook A: direction PLUS at 124,600 m and 300 km/h. -/
theorem test_outlook_plus :
    computeOutlook (mapped stretch (placed 124600 300 false ready))
      = ⟨true, .sys .ac25, false, false, 500, some .separation, some 400, some .dc3⟩ := by decide

set_option maxRecDepth 8000 in
/-- Chapter 5, worked outlook B: direction MINUS at 125,700 m. -/
theorem test_outlook_minus :
    computeOutlook (mapped stretch (placed 125700 300 true ready))
      = ⟨true, .sys .dc3, false, false, 500, some .separation, some 200, some .ac25⟩ := by decide

/-- Table 7-4, updates 2 and 4. -/
theorem test_ice_index :
    nextIndex (iced (fun i => { i with index := 187, arcCount := 1, watch := true, ambient := -50, ambientValid := true })
      ready) = 214 ∧
    nextIndex (iced (fun i => { i with index := 281, arcCount := 11, watch := true, ambient := -50, ambientValid := true })
      ready) = 508 ∧
    nextLevel ready .alert 508 = .icing := by decide

set_option maxRecDepth 8000 in
/-- Table 7-8, slot 1: zones 7, 6 and 5 are taken, and the counter goes from 3 to 2. -/
theorem test_rotation :
    (let s := linked [(0x6B, 3), (0x6E, 1)] (contact .p2 (iced (fun i => { i with
        mode := .auto, level := .icing, counters := ⟨0, 3, 0, 0⟩, ambient := -120, ambientValid := true }) ready))
     let t := slotStart s
     t.ice.slot = .running ⟨.p2, [7, 6, 5], 800, true, 0⟩ ∧ t.ice.counters = ⟨0, 2, 0, 0⟩) := by decide

/-- Table 8-5: the counter after THRESHOLD SET with t 3, and the overflow of the record. -/
theorem test_panto_overflow :
    (let b : Bank := ⟨none, 4092, false, true, false, false⟩
     let b1 := bankOffer b .arc (some (.channel .p2)) 0 none
     let b2 := bankOffer b1 .noWire (some (.channel .p2)) 0 none
     let b3 := bankOffer b2 .heightSensor (some (.channel .p4)) 0 none
     b1.counter = 4093 ∧ b2.counter = 4093 ∧ b2.record.map (·.kind) = some .noWire ∧ bankCorrupt b2 = false ∧
     bankCorrupt b3 = true) := by decide

/-- Case 1 of `step`: STATUS READ page 9 is answered RANGE (R195). -/
theorem test_status_range :
    (match step (ready.withPending [.statusRead .vcuA [9, 0]]) with
     | .next t => t.lnk.waiting.map (·.payload)
     | _ => none) = some [0x08#8] := by decide

/-- CAB TAKE gives a free cab to VCU-A, and then refuses VCU-B (Table 4-3). -/
theorem test_cab_take :
    (match step (ready.withPending [.cabTake .vcuA []]) with
     | .next t => t.cau.active
     | _ => none) = some .a ∧
    (match step ((cab .a ready).withPending [.cabTake .vcuB []]) with
     | .next t => t.lnk.waiting.map (·.payload)
     | _ => none) = some [0x03#8] := by decide

/-- The release of a power-on reset with STRAP4 at 0 ends in READY on the defaults (R174, R179). -/
theorem test_release :
    (match exec (.resetRelease 0x01#5) State.reset with
     | .next t => decide (t.roofState = .ready ∧ t.pst.live = true ∧ t.pst.reason = some .strap)
     | _ => false) = true := by decide

/-- R174: nine clock pulses release SDA, or do not. -/
theorem test_free_bus : freeBus (List.replicate 9 false ++ [true]) = .freed 9 ∧
    freeBus (List.replicate 10 false) = .stuck ∧ freeBus [true] = .freed 0 := by decide

/-- R197: the third attempt in a row decides, and the byte address goes out with its more significant byte first. -/
theorem test_attempts : eepromRead [none, none, some [7#8]] = .gave [7#8] ∧ eepromRead [none, none, none] = .noAnswer ∧
    eepromRead [none, none] = .goesOn ∧ readBegins 0x0127 = (0x50, [0x01#8, 0x27#8]) := by decide

/-- R80: a record 1,200 ms old, stale under converter_lapse_ms 1,000, is fresh again at 2,000. -/
theorem test_converter_fresh_again :
    let s := at' 1200 (ready.withCau { ready.cau with conv := ⟨.ready, some .ac25, some 0, false⟩ })
    (takeSet 0x03 2000 s).cau.conv.fresh = true := by decide

/-! ### Witnesses: for each obligation, states and operands that meet its hypotheses -/

/-- A held part; a running one, with and without a hold, a slot and a low force; one in STARTING. -/
theorem witness_IdleStepPassesAMillisecond :
    (State.reset.pending = [] ∧ State.reset.held = true) ∧
    (ready.pending = [] ∧ ready.held = false ∧ ready.roofState ≠ .starting ∧ ∃ t, step ready = .next t) ∧
    (starting.pending = [] ∧ starting.held = false ∧ starting.roofState = .starting) ∧
    (chan (withChan .p1 (fun r => { r with hold := .running 99 }) ready) .p1).hold = .running 99 ∧
    (∀ ms, (chan ready .p1).hold ≠ .running ms) ∧
    (let x : Slot := ⟨.p1, [], 0, false, 1999⟩
    (iced (fun i => { i with slot := .running x }) ready).ice.slot = .running x) ∧
    (∀ x, ready.ice.slot ≠ .running x) := by
  refine ⟨by decide, ⟨rfl, rfl, by decide, ⟨_, rfl⟩⟩, by decide, rfl, ?_, rfl, ?_⟩ <;> intro x h <;> cases h

/-- A command that is no reset, no force period, bears no frame, and is none of those excepted. -/
theorem witness_OnlyTheirOwnCommandsChangeThem :
    (∃ t, exec .silenceEnd ready = .next t) ∧
    isReset .silenceEnd = false ∧
    bearsFrame .silenceEnd = false ∧
    Instr.silenceEnd ≠ .forceControlPeriod ∧
    Instr.silenceEnd ≠ .loadEepromNoAnswer ∧
    (∀ src p, Instr.silenceEnd ≠ .sectionLoad src p ∧ Instr.silenceEnd ≠ .sectionClear src p) ∧
    (∀ bs, Instr.silenceEnd ≠ .segmentRead bs) ∧
    (∀ src p, Instr.silenceEnd ≠ .parameterSet src p) ∧
    (∀ src p, Instr.silenceEnd ≠ .thresholdSet src p) := by
  refine ⟨⟨_, rfl⟩, rfl, rfl, ?_, ?_, ?_, ?_, ?_, ?_⟩ <;> simp

/-- A sender the table does not admit; STARTING; CHECK; a VCU that is not active; wrong lengths, SECTION LOAD's among
them. -/
theorem witness_RequestsAreRefusedInOrder :
    (Listening ready ∧ roleTable .converterReport .vcuA = .no) ∧
    (Listening starting ∧ roleTable .cabTake .vcuA ≠ .no ∧ starting.roofState = .starting ∧ ReqKind.cabTake ≠
    .statusRead) ∧
    (Listening check ∧ roleTable .cabTake .vcuA ≠ .no ∧ check.roofState = .check ∧ takenInCheck .cabTake =
    false) ∧
    (Listening ready ∧ roleTable .roofUp .vcuA = .active ∧ ready.roofState ≠ .starting ∧ (ready.roofState =
    .check → takenInCheck .roofUp = true) ∧ ready.cau.active ≠ vcuOf .vcuA) ∧
    (Accepted .cabTake .vcuA ready ∧ reqLengthOk .cabTake [0#8].length = false) ∧
    (Accepted .sectionLoad .tool ready ∧ reqLengthOk .sectionLoad (List.replicate 7 0#8).length = false) := by
  and_intros <;> first | decide | exact takes_of (by decide) | exact listens_of (by decide)

/-- The last page part that there is, and the first that there is not; in STARTING too. -/
theorem witness_StatusReadReportsAPagePart :
    (Accepted .statusRead .tool ready ∧ (pagePart (heard .tool ready) 3 1).isSome = true) ∧
    (pagePart (heard .tool ready) 3 2).isSome = false ∧
    Accepted .statusRead .vcuA starting := by
  and_intros <;> first | decide | exact takes_of (by decide)

/-- Both ends of the section index, a parameter that is and one that is not, and the last bank. -/
theorem witness_ReadsAnswerTheRecords :
    (Accepted .sectionRead .tcc ready ∧ (63#8).toNat ≤ 63 ∧ ¬ (64#8).toNat ≤ 63) ∧
    (Accepted .parameterRead .tool ready ∧ (paramRow 0x74).isSome = true ∧ paramRow 0x75 = none) ∧
    (Accepted .faultRead .vcuB ready ∧ bankOfCode 6 = some .profile ∧ bankOfCode 7 = none) := by
  and_intros <;> first | decide | exact takes_of (by decide)

/-- A settled state in which a read is taken. -/
theorem witness_ReadsDisturbNothing :
    ReqKind.statusRead ∈ ([.statusRead, .sectionRead, .parameterRead, .faultRead] : List ReqKind) ∧
    settle ready ready = ready ∧
    (∃ t, exec (requestCmd .statusRead .tool [0, 0]) ready = .next t) := by
  refine ⟨by decide, by decide, ⟨_, rfl⟩⟩

/-- A free cab, one's own and the other's. -/
theorem witness_CabTakeGivesAFreeCab :
    (Accepted .cabTake (vcuStation .b) ready ∧ ready.cau.active = none) ∧
    (Accepted .cabTake (vcuStation .b) (cab .b ready) ∧ (cab .b ready).cau.active = some .b) ∧
    (Accepted .cabTake (vcuStation .b) (cab .a ready) ∧ (cab .a ready).cau.active = some (otherVcu .b)) := by
  and_intros <;> first | decide | exact takes_of (by decide)

/-- Each of the four requests, BREAKER OPEN from the TCC. -/
theorem witness_CabReleaseRoofDownAndOpenRequests :
    Accepted .cabRelease (vcuStation .a) (cab .a ready) ∧
    Accepted .cabPass (vcuStation .b) (cab .b ready) ∧
    Accepted .roofDown (vcuStation .b) ready ∧
    Accepted .breakerOpen .tcc ready := by
  and_intros <;> first | decide | exact takes_of (by decide)

/-- With no sequence running and no demand, and with both. -/
theorem witness_RoofDownRequestStartsRoofDown :
    ready.chg.seq = none ∧
    (running .close .closing (some .ac25) ready).chg.seq.isSome = true ∧
    (ready.withCau { ready.cau with demand := some ⟨.a, 0⟩ }).cau.demand.isSome = true := by
  decide

/-- Every row: SAFE_HELD; settling; in SERVICE; no target; 5 is out of range and 4 is not; with a collector; the rows
of a preference and of none. -/
theorem witness_RoofUpRows :
    (Accepted .roofUp (vcuStation .a) (cab .a safeHeld) ∧ (cab .a safeHeld).roofState = .safeHeld) ∧
    (Accepted .roofUp (vcuStation .a) (settling (cab .a ready)) ∧ (settling (cab .a ready)).pst.settle = true) ∧
    (Accepted .roofUp (vcuStation .a) (inChan .service .p1 (cab .a ready)) ∧ anyService (inChan .service .p1
    (cab .a ready)) = true) ∧
    (Accepted .roofUp (vcuStation .a) (cab .a ready) ∧ (cab .a ready).chg.target = none ∧ anyService (cab .a
    ready) = false) ∧
    ((Accepted .roofUp (vcuStation .a) (aim .ac25 (cab .a ready)) ∧ 4 < (5#8).toNat ∧ ¬ 4 < (4#8).toNat)) ∧
    ((Accepted .roofUp (vcuStation .a) closable ∧ (collector closable).isSome = true ∧ anyService closable =
    false)) ∧
    (let s := aim .ac25 (cab .a ready); Accepted .roofUp (vcuStation .a) s ∧ collector s = none ∧ (4#8).toNat =
    chanNumber .p4 ∧ chanClass s .p4 ≠ some (classOf .ac25) ∧ (1#8).toNat = chanNumber .p1 ∧ chanClass s .p1 =
    some (classOf .ac25) ∧ (chan s .p1).state = .lowered ∧ classUnusable s .ac = false) ∧
    (let s := inChan .lockedOut .p1 (aim .ac25 (cab .a ready)); Accepted .roofUp (vcuStation .a) s ∧ (chan s
    .p1).state = .lockedOut ∧ collector s = none) ∧
    (let s := inChan .stuck .p1 (aim .ac25 (cab .a ready)); Accepted .roofUp (vcuStation .a) s ∧ (chan s
    .p1).state ≠ .lockedOut ∧ (chan s .p1).state ≠ .lowered ∧ collector s = none) ∧
    (let s := inChan .stuck .p1 (inChan .lockedOut .p2 (aim .ac25 (cab .a ready))); Accepted .roofUp (vcuStation
    .a) s ∧ classUnusable s .ac = true ∧ collector s = none) := by
  and_intros <;> first | decide | exact takes_of (by decide)

/-- Both ends of the range; SAFE_HELD; each row with a sequence and without. -/
theorem witness_SystemSelectRows :
    (Accepted .systemSelect (vcuStation .a) (cab .a ready) ∧ (0#8).toNat ∉ [1, 2, 3, 4] ∧ (5#8).toNat ∉ [1, 2,
    3, 4] ∧ (4#8).toNat = sysCode .dc15) ∧
    (Accepted .systemSelect (vcuStation .a) (cab .a safeHeld) ∧ (cab .a safeHeld).roofState = .safeHeld) ∧
    (let s := running .changeover .raising (some .dc3) (cab .a ready); Accepted .systemSelect (vcuStation .a) s
    ∧ s.chg.seq.isSome = true) ∧
    (let s := running .changeover .waitSection (some .dc3) (cab .a ready); Accepted .systemSelect (vcuStation
    .a) s ∧ s.chg.seq.isSome = true) ∧
    (let s := running .close .closing (some .dc3) (cab .a ready); Accepted .systemSelect (vcuStation .a) s ∧
    s.chg.seq.isSome = true) ∧
    (let s := aim .dc15 (cab .a ready); Accepted .systemSelect (vcuStation .a) s ∧ s.chg.seq = none ∧
    s.chg.target = some .dc15) ∧
    (let s := cab .a ready; s.chg.seq = none ∧ s.chg.target ≠ some .dc15 ∧ roofDown s = true ∧ bothOpen s =
    true) ∧
    (let s := inChan .raising .p1 (cab .a ready); Accepted .systemSelect (vcuStation .a) s ∧ s.chg.seq = none ∧
    s.chg.target ≠ some .dc15 ∧ roofDown s = false) ∧
    (let s := withBrk .bka .failed (cab .a ready); Accepted .systemSelect (vcuStation .a) s ∧ roofDown s = true
    ∧ bothOpen s = false) := by
  and_intros <;> first | decide | exact takes_of (by decide)

/-- Every row, and each precondition as the first that fails. -/
theorem witness_BreakerCloseRows :
    (Accepted .breakerClose (vcuStation .a) (cab .a safeHeld) ∧ (cab .a safeHeld).roofState = .safeHeld) ∧
    (Accepted .breakerClose (vcuStation .a) (settling (cab .a ready)) ∧ (settling (cab .a ready)).pst.settle =
    true) ∧
    (let s := running .open .opening none (cab .a ready); Accepted .breakerClose (vcuStation .a) s ∧
    s.chg.seq.isSome = true) ∧
    (Accepted .breakerClose (vcuStation .a) (cab .a ready) ∧ (cab .a ready).chg.target = none ∧ closeFailing
    (cab .a ready) = some 1) ∧
    (Accepted .breakerClose (vcuStation .a) powered ∧ powered.chg.target = some .ac25 ∧ (brk powered (brkOf
    (classOf .ac25))).state = .closed ∧ powered.chg.seq = none) ∧
    (Accepted .breakerClose (vcuStation .a) (aim .ac25 (cab .a ready)) ∧ closeFailing (aim .ac25 (cab .a ready))
    = some 2) ∧
    (Accepted .breakerClose (vcuStation .a) closable ∧ closeFailing closable = none ∧ (brk closable .bka).state
    ≠ .closed) ∧
    (collectorInContact closable = some .p1 ∧ chanClass closable .p1 = some (classOf .ac25)) ∧
    (closeFailing (measured .none closable) = some 3 ∧ (measured .none closable).lsi.measured ≠ .sys .ac25) ∧
    (closable.lsi.measured = .sys .ac25 ∧ converterReady (conv .off none closable) .ac25 = false) ∧
    (bothOpen (withBrk .bkd .failed closable) = false ∧ converterReady (withBrk .bkd .failed closable) .ac25 =
    true) ∧
    ((closable.withRoof .safeHeld).roofState ≠ .ready ∧ bothOpen (closable.withRoof .safeHeld) = true) := by
  and_intros <;> first | decide | exact takes_of (by decide)

set_option maxRecDepth 8000 in
/-- A BREAKER CLOSE that finds every precondition holding, and the closing that it gives; a closing stage with a failing
one; an IDENTIFY entered with and without its result, with an outlook and without; a converter ready and not. -/
theorem witness_BreakersCloseOnlyInTheClosingStage :
    ((brk closable .bka).state ≠ .closing ∧
      (match step (closable.withPending [.breakerClose .vcuA []]) with
        | .next t => (brk t .bka).state == .closing
        | _ => false) = true) ∧
    ((running .close .closing (some .ac25) closable).chg.seq.isSome = true ∧
      closeFailing (running .close .closing (some .ac25) closable) = none ∧
      closeFailing (running .close .closing (some .ac25) ready) = some 1) ∧
    (closable.lsi.measured = .sys .ac25 ∧ ready.lsi.measured ≠ .sys .ac25 ∧ ready.smp.outlook.valid = false ∧
      (shows .neutral none ready).smp.outlook.valid = true ∧ (shows .neutral none ready).smp.outlook.kind ≠ .sys .ac25 ∧
      (shows (.sys .ac25) none ready).smp.outlook.kind = .sys .ac25) ∧
    (let s := running .changeover .identify (some .ac25) ready; ∃ q, s.chg.seq = some q ∧ q.target = some .ac25 ∧
      q.stage = .identify ∧ q.identifyTime = none ∧ q.exit = none) ∧
    (let s := running .changeover .converter (some .ac25) closable; ∃ q, s.chg.seq = some q ∧ q.stage = .converter ∧
      q.exit = none ∧ converterReady s .ac25 = true ∧ converterReady (conv .running (some .ac25) s) .ac25 = false) := by
  refine ⟨by decide, by decide, by decide, ⟨_, rfl, ?_⟩, ⟨_, rfl, ?_⟩⟩ <;> decide

set_option maxRecDepth 8000 in
/-- Both ends of each range; a jump of 201 m and none of 200 m; loads of no, of five and of one entry, equal and not,
into a full table and not; each scope. -/
theorem witness_PositionAndSectionRequests :
    (Accepted .position (vcuStation .a) (cab .a ready) ∧ 14 < (15#8).toNat ∧ 1 < (2#8).toNat ∧ (14#8).toNat ≤ 14
    ∧ (1#8).toNat ≤ 1) ∧
    (let s := placed 0 0 false (cab .a ready); Accepted .position (vcuStation .a) s ∧ s.smp.pos.valid = true ∧
    effNat s Par.jumpToleranceM < 201 ∧ ¬ effNat s Par.jumpToleranceM < 200) ∧
    (Accepted .sectionLoad .tool ready ∧ ([] : List Byte).length % 8 = 0 ∧ (List.replicate 40 0#8).length % 8 =
    0 ∧ 32 < (List.replicate 40 0#8).length) ∧
    (let e : Entry := ⟨0, 16777215, .sys .ac25, 15, false⟩; 1 ≤ [e].length ∧ [e].length ≤ 4 ∧ (∀ f ∈ ([e] : List
    Entry), f.isFixed = false ∧ f.startM < f.stopM ∧ f.stopM < 16777216 ∧ f.track ≤ 15) ∧ firstDuplicate (mapped
    [e] ready).smp.table 1 [e] = some 1 ∧ firstDuplicate ready.smp.table 1 [e] = none ∧ routeCount
    ready.smp.table + 1 ≤ 48) ∧
    (let s := mapped (List.replicate 48 ⟨1, 2, .neutral, 3, false⟩) ready; Accepted .sectionLoad .tool s ∧ 48 <
    routeCount s.smp.table + 1 ∧ firstDuplicate s.smp.table 1 [⟨0, 16777215, .sys .ac25, 15, false⟩] = none) ∧
    (Accepted .sectionClear .tool ready ∧ ready.smp.pos.valid = false ∧ 1 < (2#8).toNat ∧ (placed 0 0 false
    ready).smp.pos.valid = true) := by
  and_intros <;> first | decide | exact takes_of (by decide)

set_option maxRecDepth 8000 in
/-- Each row of the combined kind, an order and its reverse; an outlook that is not valid, and valid ones with a
change ahead and without. -/
theorem witness_OutlookShowsTheNextChange :
    (∃ e ∈ [(⟨0, 9, .lowerZone, 1, true⟩ : Entry)], e.kind = .lowerZone) ∧
    (∃ e ∈ [(⟨0, 9, .separation, 1, true⟩ : Entry)], e.kind = .separation) ∧ ¬ (∃ e ∈ [(⟨0, 9, .separation, 1,
    true⟩ : Entry)], e.kind = .lowerZone) ∧
    (∃ e ∈ [(⟨0, 9, .neutral, 1, true⟩ : Entry)], e.kind = .neutral) ∧ ¬ (∃ e ∈ [(⟨0, 9, .neutral, 1, true⟩ :
    Entry)], e.kind = .separation) ∧
    (∀ t, ¬ ∃ e ∈ ([] : List Entry), e.kind = .sys t) ∧
    (∃ e ∈ [(⟨0, 9, .sys .ac25, 1, true⟩ : Entry)], e.kind = .sys .ac25) ∧
    (∃ e ∈ [(⟨0, 9, .sys .ac25, 1, true⟩ : Entry), ⟨0, 9, .sys .dc3, 1, true⟩], e.kind = .sys .dc3) ∧
    [(⟨0, 9, .sys .ac25, 1, true⟩ : Entry), ⟨0, 9, .sys .dc3, 1, true⟩].Perm [⟨0, 9, .sys .dc3, 1, true⟩, ⟨0, 9,
    .sys .ac25, 1, true⟩] ∧
    (eff (linked [(0x0A, 0)] ready) Par.mapEnable ≠ 1 ∧ ready.smp.pos.valid = false) ∧
    (let s := mapped stretch (placed 124600 300 false ready); eff s Par.mapEnable = 1 ∧ s.smp.pos.valid = true ∧
    s.smp.pos.stale = false ∧ s.smp.pos.minus = false ∧ (computeOutlook s).next = some .separation) ∧
    ((computeOutlook (placed 124600 300 false ready)).next = none ∧ (computeOutlook (placed 124600 300 false
    ready)).valid = true) ∧
    (let s := mapped stretch (placed 125600 300 true ready); eff s Par.mapEnable = 1 ∧ s.smp.pos.minus = true ∧
    (computeOutlook s).next.isSome = true ∧ (lookup s 125599 2).kind = (computeOutlook s).kind ∧
    (computeOutlook (placed 0 300 true ready)).next = none ∧ (computeOutlook (placed 0 300 true ready)).valid = true) ∧
    (let o := computeOutlook (mapped stretch (placed 124600 300 false ready));
    o.next = some .separation ∧ o.distance = some 400 ∧ o.following = some .dc3 ∧ o.lookaheadM = 500) ∧
    (let o := computeOutlook (mapped stretch (placed 125600 300 true ready));
    o.next = some .separation ∧ o.distance = some 100 ∧ o.following = some .ac25) ∧
    (let o := computeOutlook (mapped [⟨125000, 125900, .separation, 15, true⟩] (placed 124600 300 false ready));
    o.next = some .separation ∧ o.distance = some 400 ∧ o.following = none) ∧
    (let may := fun (s : State) => decide (eff s Par.autoChangeover = 1 ∧ s.smp.outlook.valid = true ∧
      (closedBrk s).isSome = true ∧ s.chg.seq = none ∧ s.roofState = .ready)
    may ready = false ∧ may (shows (.sys .ac25) (some .lowerZone) powered) = true ∧
    (shows (.sys .ac25) none powered).chg.inForce = some .ac25) := by
  and_intros <;> first | decide | exact List.Perm.swap .. | simp

/-- Both ends of each range; a breaker CLOSED with a stale record, in FAULT, RUNNING on another system and on its own;
each ice mode. -/
theorem witness_ConverterReportAndIceMode :
    (Accepted .converterReport .tcc ready ∧ 3 < (4#8).toNat ∧ 4 < (5#8).toNat ∧ convStateOfCode (3#8).toNat =
    some .fault ∧ (4#8).toNat ≤ 4) ∧
    (closedBrk ready = none ∧ closedBrk powered = some .bka) ∧
    (ready.cau.conv.fresh = false ∧ (conv .fault none powered).cau.conv.state = .fault) ∧
    (let s := conv .running (some .dc3) powered; s.cau.conv.fresh = true ∧ s.cau.conv.state ≠ .fault ∧
    s.cau.conv.state = .running ∧ s.cau.conv.sys ≠ s.chg.inForce) ∧
    (let s := conv .running (some .ac25) powered; s.cau.conv.fresh = true ∧ s.cau.conv.sys = s.chg.inForce) ∧
    (Accepted .iceMode (vcuStation .a) (cab .a ready) ∧ 2 < (3#8).toNat ∧ (2#8).toNat = modeCode .forced) ∧
    (∃ t, exec (.iceMode (vcuStation .a) [0x00#8]) (cab .a ready) = .next t) := by
  and_intros <;> first | decide | exact takes_of (by decide) | exact ⟨_, rfl⟩

/-- Every row: not quiet; 9 ms after the last and 10 ms after it; an unknown number; a value that breaks a check; a
LINE value that is taken. -/
theorem witness_ParameterSetRows :
    (Accepted .parameterSet .tool (inChan .stuck .p1 ready) ∧ roofQuiet (inChan .stuck .p1 ready) = false) ∧
    (let s := at' 9 (ready.withPst { ready.pst with lastSet := some 0 }); Accepted .parameterSet .tool s ∧
    roofQuiet s = true ∧ setTooSoon s = true) ∧
    (let s := at' 10 (ready.withPst { ready.pst with lastSet := some 0 }); Accepted .parameterSet .tool s ∧
    roofQuiet s = true ∧ setTooSoon s = false) ∧
    (Accepted .parameterSet .tool ready ∧ setTooSoon ready = false ∧ paramInRange 0 0 = false ∧ paramInRange
    0x30 19 = false) ∧
    (Accepted .parameterSet .tool (linked [(0x22, 100)] ready) ∧ paramInRange 0x21 100 = true ∧ setConsistent
    (linked [(0x22, 100)] ready).pst 0x21 100 = false) ∧
    (paramInRange 0x30 20 = true ∧ setConsistent ready.pst 0x30 20 = true ∧ groupOf 0x30 = .line) := by
  and_intros <;> first | decide | exact takes_of (by decide)

/-- A live store with a value in each layer, and in none. -/
theorem witness_EffectiveValueIsTheUppermostLayer :
    (let p := { ready.pst with winter := [(0x1E, 85)], winterState := .active, link := [(0x1E, 60)], profile :=
    [(0x1E, 50)] }; p.live = true ∧ p.winterState = .active ∧ layerGet p.winter 0x1E = some 85) ∧
    (let p := { ready.pst with link := [(0x1E, 60)] }; p.winterState ≠ .active ∧ p.winterState ≠ .ending ∧
    layerGet p.link 0x1E = some 60) ∧
    (let p := { ready.pst with profile := [(0x1E, 50)] }; layerGet p.link 0x1E = none ∧ layerGet p.profile 0x1E
    = some 50) ∧
    (ready.pst.live = true ∧ layerGet ready.pst.link 0x1E = none ∧ layerGet ready.pst.profile 0x1E = none) ∧
    ([(0x1E, 85), (0x21, 60)] : Layer).Pairwise (fun a b => a.1 < b.1) := by
  decide

/-- Both ends of each range; a bank that persists and one that does not, in SAFE_HELD and out of it; a channel that is
absent, at rest, locked out with and without its inputs. -/
theorem witness_FaultThresholdAndLockoutRequests :
    (Accepted .faultClear .tool ready ∧ 6 < (7#8).toNat ∧ bankOfCode (6#8).toNat = some .profile) ∧
    (let s := inChan .stuck .p1 (recorded .panto .lowerTimeout (some (.channel .p1)) safeHeld); Accepted
    .faultClear .tool s ∧ bankOfCode (1#8).toNat = some .panto ∧ bankCorrupt (bank s.flt .panto) = true ∧
    persists s .panto = true) ∧
    (let s := recorded .panto .lowerTimeout (some (.channel .p1)) safeHeld; Accepted .faultClear .tool s ∧
    persists s .panto = false ∧ s.roofState = .safeHeld ∧ anyCorrupt (putBank s.flt .panto { bank s.flt .panto
    with record := none }) = false) ∧
    (bankCorrupt (bank ready.flt .panto) = false ∧ ready.roofState ≠ .safeHeld) ∧
    (Accepted .thresholdSet .tool ready ∧ (0xFF#8).toNat + 256 * (0x0F#8).toNat = 4095 ∧ 4095 < (0#8).toNat +
    256 * (0x10#8).toNat) ∧
    (Accepted .lockoutClear .tool ready ∧ (0#8).toNat = 0 ∧ 4 < (5#8).toNat ∧ (4#8).toNat = chanNumber .p4) ∧
    (fitted (linked [(0x10, 0)] ready) .p1 = false ∧ Accepted .lockoutClear .tool (linked [(0x10, 0)] ready)) ∧
    (fitted ready .p1 = true ∧ (chan ready .p1).state ≠ .lockedOut) ∧
    (let s := inChan .lockedOut .p1 ready; Accepted .lockoutClear .tool s ∧ fitted s .p1 = true ∧ (chan s
    .p1).state = .lockedOut ∧ (chan s .p1).heightValid = false ∧ (chan s .p1).headok = true) ∧
    (let s := withChan .p1 (fun r => { r with heightValid := true }) (inChan .lockedOut .p1 ready); Accepted
    .lockoutClear .tool s ∧ (chan s .p1).headok = true ∧ (chan s .p1).heightValid = true) := by
  and_intros <;> first | decide | exact takes_of (by decide)

/-- The first and last identifiers; an output in each owner and handover; 1,000 per mille and 1,001; a dump that is
on. -/
theorem witness_OutputsAreTakenDrivenReturned :
    (outputOfCode (1#8).toNat = some (.valve .p1) ∧ outputOfCode (0x1F#8).toNat = some (.zone 15)) ∧
    (Accepted .outputTake .tool ready ∧ ready.roofState ≠ .safeHeld ∧ roofQuietService ready = true ∧
    takeValveRefusal ready (.valve .p1) = none ∧ fitted ready (outChan (.valve .p1)) = true ∧ (outOf ready
    (.valve .p1)).owner = .loop ∧ (outOf ready (.valve .p1)).handover = .none) ∧
    (let s := putValve (inChan .service .p1 ready) .p1 ⟨.service, .none, 5, 5, false, 0⟩; Accepted .outputTake
    .tool s ∧ roofQuietService s = true ∧ (outOf s (.valve .p1)).owner = .service ∧ (outOf s (.valve
    .p1)).handover = .none) ∧
    (let s := putValve ready .p1 ⟨.loop, .toService, 0, 0, false, 2⟩; Accepted .outputTake .tool s ∧
    roofQuietService s = true ∧ (outOf s (.valve .p1)).handover ≠ .none ∧ (outOf s (.valve .p1)).handover =
    .toService) ∧
    (let s := linked [(0x10, 0)] ready; Accepted .outputTake .tool s ∧ roofQuietService s = true ∧ fitted s
    (outChan (.valve .p1)) = false) ∧
    (let s := putValve (inChan .service .p1 ready) .p1 ⟨.service, .none, 5, 5, false, 0⟩; Accepted .outputDrive
    .tool s ∧ driveRefusal s 1000 (.valve .p1) = none ∧ (0xE8#8).toNat + 256 * (0x03#8).toNat = 1000 ∧ 1000 <
    (0xE9#8).toNat + 256 * (0x03#8).toNat) ∧
    (let s := withChan .p1 (fun r => { r with dumpOn := true }) (putValve (inChan .service .p1 ready) .p1
    ⟨.service, .none, 5, 5, false, 0⟩); Accepted .outputDrive .tool s ∧ (chan s .p1).dumpOn = true ∧ (outOf s
    (.valve .p1)).owner = .service) ∧
    (Accepted .outputReturn .tool ready ∧ (outOf ready (.zone 15)).owner = .loop ∧ (outOf ready (.zone
    15)).handover ≠ .toService) ∧
    (outputOfCode (0xFF#8).toNat = none ∧ outputOfCode (0x20#8).toNat = none ∧ (0x20#8 : Byte) ≠ 0xFF#8) ∧
    (takeValveRefusal (inChan .lockedOut .p1 ready) (.valve .p1) = some .locked ∧
    fitted (inChan .lockedOut .p1 ready) .p1 = true ∧ roofQuietService (inChan .lockedOut .p1 ready) = true) := by
  and_intros <;> first | decide | exact takes_of (by decide)

/-- SAFE_HELD; not quiet; patterns 3 and 4; the end in READY and in CHECK. -/
theorem witness_SenseCheckRequests :
    (Accepted .senseCheckStart .tool safeHeld ∧ safeHeld.roofState = .safeHeld) ∧
    (Accepted .senseCheckStart .tool (inChan .stuck .p1 ready) ∧ roofQuiet (inChan .stuck .p1 ready) = false) ∧
    (Accepted .senseCheckStart .tool ready ∧ ready.roofState = .ready ∧ roofQuiet ready = true ∧ 3 < (4#8).toNat
    ∧ (3#8).toNat = (3 : Fin 4).val) ∧
    (Accepted .senseCheckEnd .tool ready ∧ ready.roofState ≠ .check) ∧
    (Accepted .senseCheckEnd .tool check ∧ check.roofState = .check ∧ check.lsi.checkResult = .pending) := by
  and_intros <;> first | decide | exact takes_of (by decide)

/-- A soft reset taken; the ends of the unknown codes; one that waits for its answer; a part that does not hear. -/
theorem witness_SoftResetAndUnheardRequests :
    Accepted .softReset .tool ready ∧
    (Listening ready ∧ unknownCode 0x00#8 = true ∧ unknownCode 0x1C#8 = true ∧ unknownCode 0x7F#8 = true) ∧
    (let s := line (fun l => { l with soft := .answering, waiting := some ⟨4, 0x9A, [0]⟩ }) ready; s.held =
    false ∧ s.lnk.sending = none ∧ s.lnk.receiver ≠ .silenceWait ∧ s.lnk.soft = .answering ∧
    s.lnk.waiting.isSome = true) ∧
    (let s := line (fun l => { l with sending := some ⟨4, 0x9A, [0]⟩ }) ready; s.held = false ∧
    s.lnk.sending.isSome = true) ∧
    (let s := line (fun l => { l with receiver := .silenceWait }) ready; s.held = false ∧ s.lnk.receiver =
    .silenceWait) ∧
    (let s := line (fun l => { l with soft := .due }) ready; s.held = false ∧ s.lnk.soft = .due) := by
  and_intros <;> first | decide | exact takes_of (by decide) | exact listens_of (by decide)

set_option maxRecDepth 8000 in
/-- A frame for each check, the first and last known sources and their neighbours among them. -/
theorem witness_FrameChecksInOrder :
    (Listening ready ∧ frameComplete [0, 0, 0, 0, 0, 0] = true ∧ crcGood [0, 0, 0, 0, 0, 0] = false) ∧
    (frameComplete ([0x11, 1, 1, 0] ++ crcChars [0x11, 1, 1, 0] : List Byte) = true ∧ crcGood ([0x11, 1, 1, 0]
    ++ crcChars [0x11, 1, 1, 0] : List Byte) = true ∧ byteAt ([0x11, 1, 1, 0] ++ crcChars [0x11, 1, 1, 0] : List
    Byte) 0 ≠ 0x10 + ready.pst.straps.toNat % 4) ∧
    (crcGood ([0x10, 0, 1, 0] ++ crcChars [0x10, 0, 1, 0] : List Byte) = true ∧ byteAt ([0x10, 0, 1, 0] ++
    crcChars [0x10, 0, 1, 0] : List Byte) 0 = 0x10 + ready.pst.straps.toNat % 4 ∧ byteAt ([0x10, 0, 1, 0] ++
    crcChars [0x10, 0, 1, 0] : List Byte) 1 = 0) ∧
    (crcGood ([0x10, 5, 1, 0] ++ crcChars [0x10, 5, 1, 0] : List Byte) = true ∧ 4 < byteAt ([0x10, 5, 1, 0] ++
    crcChars [0x10, 5, 1, 0] : List Byte) 1) ∧
    (crcGood ([0x10, 4, 0x80, 0] ++ crcChars [0x10, 4, 0x80, 0] : List Byte) = true ∧ byteAt ([0x10, 4, 0x80, 0]
    ++ crcChars [0x10, 4, 0x80, 0] : List Byte) 1 = stationAddress .tool ∧ 0x80 ≤ byteAt ([0x10, 4, 0x80, 0] ++
    crcChars [0x10, 4, 0x80, 0] : List Byte) 2) := by
  and_intros <;> first | decide | exact listens_of (by decide)

/-- Each receiver state; a length of 49 and one of 48; the last character of a frame and the one before; an answer
that waits, is sent, and is withdrawn with and without a soft reset. -/
theorem witness_ReceiverAndAnswers :
    (let s := line (fun l => { l with receiver := .silenceWait }) ready; s.held = false ∧ s.lnk.sending = none ∧
    s.lnk.waiting = none ∧ s.lnk.soft ≠ .due ∧ s.lnk.receiver = .silenceWait) ∧
    (ready.held = false ∧ ready.lnk.receiver = .idle ∧ (0xC4#8) ≠ 0xC5#8) ∧
    (let s := line (fun l => { l with receiver := .receiving, buffer := [0x10, 1, 1] }) ready; s.lnk.receiver =
    .receiving ∧ s.lnk.buffer.length = 3 ∧ 48 < (49#8).toNat ∧ (48#8).toNat ≤ 48 ∧ bufferComplete (s.lnk.buffer
    ++ [48#8]) = false) ∧
    (let s := line (fun l => { l with receiver := .receiving, buffer := [0x10, 1, 1, 0, 0] }) ready;
    s.lnk.buffer.length ≠ 3 ∧ bufferComplete (s.lnk.buffer ++ [0#8]) = true) ∧
    (let s := line (fun l => { l with waiting := some ⟨4, 0x81, [0]⟩ }) ready; s.lnk.waiting = some ⟨4, 0x81,
    [0]⟩ ∧ s.lnk.sending = none ∧ s.lnk.soft = .none) ∧
    (let s := line (fun l => { l with sending := some ⟨4, 0x81, [0]⟩ }) ready; s.held = false ∧ s.lnk.sending =
    some ⟨4, 0x81, [0]⟩) ∧
    (let s := line (fun l => { l with waiting := some ⟨4, 0x9A, [0]⟩, soft := .answering }) ready;
    s.lnk.waiting.isSome = true ∧ s.lnk.sending = none ∧ s.lnk.soft = .answering) := by
  decide

/-- A listening part and the longest payload; two characters that differ. -/
theorem witness_FramesCarryTheirRequests :
    (Listening ready ∧ ready.lnk.receiver = .idle ∧ (List.replicate 48 0#8).length ≤ 48) ∧
    (0#8) ≠ 128#8 := by
  and_intros <;> first | decide | exact listens_of (by decide)

/-- A held reset and a due soft reset, with STRAP4 at 1 and at 0. -/
theorem witness_ReleaseBeginsTheLoad :
    (State.reset.held = true ∧ (0x10#5).getLsbD 4 = true ∧ (0x0F#5).getLsbD 4 = false) ∧
    (ready.held = false ∧ (line (fun l => { l with soft := .due }) ready).held = false ∧ (line (fun l => { l
    with soft := .due }) ready).lnk.soft = .due) := by
  decide

/-- STARTING with a feedback that shows CLOSED, records that hold, and AUXOK in either level. -/
theorem witness_StartingEndsReadyOrSafeHeld :
    (let s := putBrk starting .bka ⟨.opening, false, false, true, 0⟩; s.roofState = .starting ∧ (brk s
    .bka).feedback = true ∧ (brk s .bkd).feedback = false ∧ RecordsHold s ∧ s.ros.auxok = true) := by
  refine ⟨rfl, rfl, rfl, ⟨?_, ?_⟩, rfl⟩ <;> intro b r h <;> cases b <;> cases h

/-- A bus freed by the ninth pulse and one that is stuck; a read that its third attempt gives and one that fails; each
kind of read awaited, with a header that is taken and one that is not. -/
theorem witness_ProfileAndWinterReads :
    (SdaFreed (List.replicate 9 false ++ [true]) ∧ SdaStuck (List.replicate 10 false)) ∧
    (ReadGives [none, none, some [1, 0, 0, 0]] [1, 0, 0, 0] ∧ ReadFails [none, none, none]) ∧
    (let s := starting.withPst { starting.pst with load := .header }; s.held = false ∧ s.roofState = .starting ∧
    s.pst.load = .header) ∧
    (headerOk (0xA5 :: 0x3C :: 1 :: List.replicate 36 0) = true ∧ headerOk (0xA5 :: 0x3C :: 2 :: List.replicate
    36 0) = false) ∧
    (let s := starting.withPst { starting.pst with load := .segment .common [], descriptors := [⟨100, 103⟩] };
    s.pst.load = .segment .common [] ∧ ([1, 0, 0, 0] : List Byte).length = (descriptor s.pst .common).last + 1 -
    (descriptor s.pst .common).first) ∧
    (let s := ready.withPst { ready.pst with winterState := .reading, descriptors := List.replicate 9 ⟨0, 2047⟩
    }; s.held = false ∧ s.pst.winterState = .reading ∧ (descriptor s.pst .winter).last + 1 - (descriptor s.pst
    .winter).first = 2048) ∧
    (ready.withPst { ready.pst with winterState := .cancelled }).pst.winterState = .cancelled :=
  ⟨⟨⟨9, [], by decide, rfl⟩, ⟨[], rfl⟩⟩, ⟨⟨2, [], by decide, rfl⟩, ⟨[], rfl⟩⟩, by decide, by decide, by decide, by decide,
    by decide⟩

/-- A sum halfway between two means, and both ends of the range. -/
theorem witness_MeanIsTheNearestInteger :
    (2 * (1200 * meanM 600 - 600).natAbs = 1200 ∧ (1200 * -32768 : Int) ≤ -39321600 ∧ (39320400 : Int) ≤ 1200 *
    32767) := by
  decide

/-- The largest root; a window of 1,200 equal samples, and the same with an offset. -/
theorem witness_RmsIsTheIntegerRoot :
    4294967295 < 4294967296 ∧
    (SumsHold ⟨List.replicate 1200 0, 0, 0, 0⟩ ∧ (List.replicate 1200 (0 : Int)).length = 1200) ∧
    (SumsHold ⟨List.replicate 1200 7, 8400, 58800, 0⟩ ∧ List.replicate 1200 (7 : Int) = (List.replicate 1200
    0).map (· + 7)) ∧
    (∀ x ∈ List.replicate 1200 (7 : Int), -32768 ≤ x ∧ x ≤ 32767) := by
  refine ⟨by decide, ⟨sums_of_equal 1200 0 rfl, List.length_replicate⟩,
    ⟨sums_of_equal 1200 7 rfl, by rw [List.map_replicate]; rfl⟩, fun x hx => ?_⟩
  rw [List.mem_replicate] at hx
  omega

set_option maxRecDepth 8000 in
/-- STARTING; the 1,199th sample and the 1,200th; a pattern; a result that qualifies and one that does not; a breaker
CLOSED and none; a check that passes and one that fails. -/
theorem witness_WindowsAreFilledPublishedExamined :
    (starting.held = false ∧ starting.roofState = .starting) ∧
    (ready.withLsi { ready.lsi with filling := ⟨List.replicate 1198 0, 0, 0, 0⟩ }).lsi.filling.samples.length <
    1199 ∧
    (ready.withLsi { ready.lsi with filling := ⟨List.replicate 1199 0, 0, 0, 0⟩ }).lsi.filling.samples.length =
    1199 ∧
    (check.roofState = .check ∧ check.lsi.checkPattern = some 2 ∧ check.lsi.checkResult = .pending) ∧
    (let s := ready.withLsi { ready.lsi with evaluating := some Window.empty }; s.lsi.evaluating = some
    Window.empty ∧ (windowRecord s Window.empty).cls = .none ∧ 1 < effNat s Par.noneWindows ∧ effNat s
    Par.noneWindows ≤ 2) ∧
    (closedBrk ready = none ∧ closedBrk powered = some .bka ∧ powered.chg.inForce = some .ac25 ∧
    powered.chg.inForce ≠ some .dc3) ∧
    (LineClass.sys .dc3 = expectedClass 2 ∧ LineClass.none ≠ expectedClass 2 ∧ ready.roofState ≠ .check) ∧
    ((running .changeover .identify (some .ac25) ready).chg.seq.map (fun q => (q.stage, q.target)) =
    some (.identify, some .ac25) ∧ Sys.dc3 ≠ .ac25 ∧ ready.chg.seq = none) := by
  and_intros <;> decide

/-- A running roof and readings at the ends of their ranges; P1 in each state that a reading moves. -/
theorem witness_ReadingsMoveTheChannel :
    (ready.held = false ∧ Running ready ∧ fitted ready .p1 = true ∧ (1500 : Int) ≤ 1500 ∧ (-600 : Int) ≤ eff
    ready Par.stripMax ∧ (3200 : Int) < 3201) ∧
    ((chan (inChan .raising .p1 ready) .p1).state = .raising ∧ eff ready Par.contactForce ≤ 30 ∧ (29 : Int) <
    eff ready Par.contactForce ∧ eff ready Par.maxHeight ≤ 2600 ∧ (2599 : Int) < eff ready Par.maxHeight) ∧
    ((chan (inChan .lowering .p1 ready) .p1).state = .lowering ∧ (chan (inChan .dropped .p1 ready) .p1).state =
    .dropped ∧ (79 : Int) < eff ready Par.restHeight) ∧
    (let s := contact .p1 ready; (chan s .p1).state = .inContact ∧ (chan s .p1).arcArmed = true ∧ (chan s
    .p1).lowForce = false ∧ (chan s .p1).role = .collector ∧ eff s Par.lossForce ≤ 15 ∧ (14 : Int) < eff s
    Par.lossForce ∧ 0 < effNat s Par.contactLossMs) ∧
    ((chan ready .p1).state = .lowered ∧ raised (chan ready .p1) = false ∧ (chan ready .p1).hold = .idle ∧
    (chan ready .p1).forceRangeArmed = true) ∧
    (let s := withChan .p1 (fun r => { r with forceRangeArmed := false, hold := .running 99 }) ready; Running s ∧
    fitted s .p1 = true ∧ (chan s .p1).state = .lowered ∧ (chan s .p1).forceRangeArmed = false ∧
    (chan s .p1).hold = .running 99) ∧
    ((-1 : Int) < 0 ∧ (500 : Int) < 501 ∧ (200 : Int) ≤ eff ready Par.stripMax ∧ eff ready Par.restHeight ≤ 80) ∧
    ((chan (inChan .stuck .p1 ready) .p1).state = .stuck ∧ (chan ready .p1).headok = true ∧
    (chan (withChan .p1 (fun r => { r with state := .stuck, headok := false }) ready) .p1).headok = false) ∧
    ((chan (inChan .lockedOut .p1 ready) .p1).state = .lockedOut ∧ (chan (inChan .service .p1 ready) .p1).state =
    .service) ∧
    (starting.held = false ∧ starting.roofState = .starting) := by
  and_intros <;> first | decide | exact runs_of (by decide)

/-- P1 fitted, its HEADOK active, in each state; a hold of 100 ms. -/
theorem witness_HeadokAndHeightSensorFail :
    (Running ready ∧ fitted ready .p1 = true ∧ (chan ready .p1).headok = true ∧ (chan ready .p1).state =
    .lowered) ∧
    ((chan (inChan .raising .p1 ready) .p1).state = .raising ∧ (chan (inChan .raising .p1 ready) .p1).headok =
    true) ∧
    ((chan (inChan .inContact .p1 ready) .p1).state = .inContact ∧ (chan (inChan .inContact .p1 ready)
    .p1).headok = true) ∧
    ((chan (inChan .lowering .p1 ready) .p1).state = .lowering ∧ (chan (inChan .lowering .p1 ready) .p1).headok
    = true) ∧
    ((chan (inChan .stuck .p1 ready) .p1).state = .stuck ∧ (chan (inChan .stuck .p1 ready) .p1).headok = true) ∧
    ((chan (inChan .service .p1 ready) .p1).state = .service ∧ (chan (inChan .service .p1 ready) .p1).headok =
    true) ∧
    ((chan (inChan .dropped .p1 ready) .p1).state = .dropped ∧ (chan (inChan .dropped .p1 ready) .p1).headok =
    true) ∧
    ((chan (inChan .lockedOut .p1 ready) .p1).state = .lockedOut ∧ (chan (inChan .lockedOut .p1 ready)
    .p1).headok = true) ∧
    ((chan (withChan .p1 (fun r => { r with hold := .running 100 }) ready) .p1).hold = .running 100 ∧ 100 ≤ 100) := by
  and_intros <;> first | decide | exact runs_of (by decide)

/-- Each timer at its limit. -/
theorem witness_ChannelTimersExpire :
    (let s := withChan .p1 (fun r => { r with stateTime := 8000 }) (inChan .raising .p1 ready); Running s ∧
    (chan s .p1).state = .raising ∧ effNat s Par.raiseTimeoutMs ≤ (chan s .p1).stateTime) ∧
    (let s := withChan .p1 (fun r => { r with lowForce := true, lowForceTime := 1000 }) (contact .p1 ready);
    Running s ∧ (chan s .p1).state = .inContact ∧ (chan s .p1).lowForce = true ∧ (chan s .p1).lossLimit ≤ (chan
    s .p1).lowForceTime) ∧
    (let s := withChan .p1 (fun r => { r with stateTime := 6000 }) (inChan .lowering .p1 ready); Running s ∧
    (chan s .p1).state = .lowering ∧ effNat s Par.lowerTimeoutMs ≤ (chan s .p1).stateTime ∧ (∃ t, exec
    (.lowerTimeout .p1) s = .next t)) := by
  and_intros <;> first | decide | exact runs_of (by decide) | exact ⟨_, rfl⟩

/-- A channel IN_CONTACT whose valve the loop owns; the default limits; a channel that is absent. -/
theorem witness_ForceLoopFollowsItsLaw :
    (Running ready ∧ (chan (contact .p1 ready) .p1).state = .inContact ∧ (valve (contact .p1 ready) .p1).owner =
    .loop ∧ (valve (contact .p1 ready) .p1).handover = .none) ∧
    (eff ready Par.fMin ≤ eff ready Par.fMax ∧ fitted (linked [(0x10, 0)] ready) .p1 = false) := by
  and_intros <;> first | decide | exact runs_of (by decide)

/-- A safe period that ends, in each handover, cancelled and not, its channel LOWERED and not; a tool silent for 3,000
ms. -/
theorem witness_OutputPeriodsAndServiceLapse :
    (ready.held = false ∧ (outOf ready (.valve .p1)).safeLeft = 0 ∧ (outOf ready (.valve .p1)).handover = .none) ∧
    (let s := putValve ready .p1 ⟨.loop, .toService, 0, 0, true, 0⟩; (outOf s (.valve .p1)).safeLeft = 0 ∧
    (outOf s (.valve .p1)).handover = .toService ∧ (outOf s (.valve .p1)).cancelled = true) ∧
    (let s := putValve ready .p1 ⟨.loop, .toService, 0, 0, false, 0⟩; (outOf s (.valve .p1)).cancelled = false ∧
    (chan s .p1).state = .lowered ∧ (chan (inChan .lockedOut .p1 s) .p1).state ≠ .lowered) ∧
    (outOf (putZone ready 15 ⟨.service, .toLoop, 0, 0, false, 0⟩) (.zone 15)).handover = .toLoop ∧
    (let s := at' 3000 ((putValve (inChan .service .p1 ready) .p1 ⟨.service, .none, 5, 5, false, 0⟩).withCau {
    ready.cau with actTool := some 0 }); s.held = false ∧ s.cau.actTool = some 0 ∧ s.cau.serviceLapseMs ≤ s.now
    - 0 ∧ s.cau.serviceLapsed = false ∧ (outOf s (.valve .p1)).owner = .service) := by
  decide

/-- Both ends of the ambient range and their neighbours; AUXOK active and inactive, in STARTING and after. -/
theorem witness_AmbientAndAuxokAreTaken :
    (ready.held = false ∧ (-600 : Int) ≤ -600 ∧ (1000 : Int) ≤ 1000 ∧ (-601 : Int) < -600 ∧ (1000 : Int) < 1001
    ∧ ready.ice.ambientValid = false) ∧
    (let s := iced (fun i => { i with ambientValid := true }) ready; s.ice.ambientValid = true ∧
    s.ice.ambientArmed = true) ∧
    (ready.ros.auxok = true ∧ starting.ros.auxok = true ∧ starting.roofState = .starting ∧ ready.roofState ≠
    .starting) ∧
    (ready.withRos { ready.ros with auxok := false }).ros.auxok = false := by
  decide

/-- An update that keeps the level, one that enters ALERT, one ICING and one CLEAR. -/
theorem witness_IceIndexIsUpdated :
    (Running ready ∧ nextLevel ready .clear 199 = .clear ∧ nextLevel ready .clear 200 = .alert ∧ nextLevel ready
    .alert 500 = .icing ∧ nextLevel ready .alert 149 = .clear) := by
  and_intros <;> first | decide | exact runs_of (by decide)

set_option maxRecDepth 8000 in
/-- A slot at its end; HELD; no eligible zone; some. -/
theorem witness_SlotStartsTakeEligibleZones :
    (let s := iced (fun i => { i with slot := .running ⟨.p1, [], 0, false, 2000⟩ }) ready; s.held = false ∧
    effNat s Par.slotMs ≤ 2000) ∧
    (iced (fun i => { i with slot := .held }) ready).ice.slot = .held ∧
    (ready.ice.slot ≠ .held ∧ eligibleZones ready = []) ∧
    (let s := iced (fun i => { i with mode := .forced }) ready; effNat s Par.groupSize = 4 ∧ s.ice.slot ≠ .held ∧
    eligibleZones s ≠ [] ∧ effNat (linked [(Par.groupSize, 8)] s) Par.groupSize = 8 ∧
    eligibleZones (linked [(Par.groupSize, 8)] s) ≠ []) ∧
    loopOwns (zoneOut ready 0) = true ∧
    (slotStart (iced (fun i => { i with mode := .forced }) ready)).ice.slot = .running ⟨.p1, [0, 1, 2, 3], 400,
    false, 0⟩ := by
  decide

/-- A running roof within its budget; a supply that is off, with every zone at 0; and each takes a step. -/
theorem witness_HeatersFitBudgetAndSupply :
    (∃ t, step ready = .next t) ∧ Running ready ∧ BudgetHolds ready ∧
    AuxHolds (ready.withRos { Ros.reset false with auxok := false }) ∧
    (∃ t, step (ready.withRos { Ros.reset false with auxok := false }) = .next t) := by
  refine ⟨⟨_, rfl⟩, runs_of (by decide), fun _ => by decide, ?_, ⟨_, rfl⟩⟩
  intro _ z; revert z; decide

/-- A cab at its lapse and 1 ms before; a demand and a converter record at their ends; a position that is not valid,
one below 10 m of travel and one past it, one at its lapse and 1 ms before. -/
theorem witness_TimesOfTheCabAndThePosition :
    (let s := at' 3000 ((cab .a ready).withCau { (cab .a ready).cau with actA := some 0 }); s.held = false ∧
    s.cau.active = some .a ∧ activityOf s.cau .a = some 0 ∧ effNat s Par.cabLapseMs ≤ s.now - max 0
    s.cau.activeSince ∧ (at' 2999 s).now - max 0 s.cau.activeSince < effNat s Par.cabLapseMs) ∧
    (let s := at' 1000 (ready.withCau { ready.cau with demand := some ⟨.a, 0⟩ }); s.cau.demand = some ⟨.a, 0⟩ ∧
    effNat s Par.demandLifetimeMs ≤ s.now - 0) ∧
    (let s := at' 1000 (conv .ready none ready); s.cau.conv.fresh = true ∧ s.cau.conv.reportTime = some 0 ∧
    effNat s Par.converterLapseMs ≤ s.now - 0) ∧
    (let s := conv .ready none ready; s.cau.conv.reportTime = some 0 ∧ eff (takeSet Par.converterLapseMs 2000 s)
    Par.converterLapseMs ≠ eff s Par.converterLapseMs) ∧
    (ready.smp.pos.valid = false ∧ (placed 0 0 false ready).smp.pos.valid = true ∧ effNat (placed 0 0 false
    ready) Par.odometerMm < 10000) ∧
    (let s := at' 10000 (placed 0 0 false ready); s.smp.pos.stale = false ∧ s.smp.pos.reportTime = some 0 ∧
    effNat s Par.positionLapseS * 1000 ≤ s.now - 0 ∧ 9999 - 0 < effNat s Par.positionLapseS * 1000) := by
  decide

/-- A breaker in each state with each level; each operating time at its end. -/
theorem witness_BreakersFollowTheirFeedback :
    (starting.roofState = .starting ∧ (brk starting .bka).feedback = false ∧ (brk (putBrk starting .bka
    ⟨.opening, false, false, true, 0⟩) .bka).feedback = true) ∧
    (ready.roofState ≠ .starting ∧ (brk ready .bka).state = .opened ∧ (brk (withBrk .bka .closing ready)
    .bka).state = .closing) ∧
    (let s := putBrk ready .bka ⟨.closed, false, true, true, 0⟩; (brk s .bka).feedback = true ∧ (brk s
    .bka).state = .closed) ∧
    (let s := putBrk ready .bka ⟨.closing, true, true, false, 100⟩; s.held = false ∧ (brk s .bka).state =
    .closing ∧ effNat s Par.closeTime ≤ (brk s .bka).opTime) ∧
    (let s := putBrk ready .bka ⟨.opening, false, false, true, 60⟩; (brk s .bka).feedback = true ∧ (brk s
    .bka).state = .opening ∧ effNat s Par.openTime ≤ (brk s .bka).opTime) ∧
    (brk (putBrk ready .bka ⟨.failed, false, false, true, 0⟩) .bka).state = .failed := by
  decide

/-- Each stage at the end of its timer; the settle interval at 100 ms and at 99 ms. -/
theorem witness_StageTimersAndSettleInterval :
    (let s := ready; s.held = false ∧ (running .changeover .shed (some .dc3) s).chg.seq.isSome = true ∧ effNat s
    Par.shedTimeout ≤ 300 ∧ effNat s Par.deadRunS * 1000 ≤ 30000 ∧ effNat s Par.identifyTimeout ≤ 3000 ∧ effNat
    s Par.converterTimeout ≤ 5000) ∧
    (let s := at' 100 (ready.withPst { ready.pst with settle := true, lastSet := some 0 }); s.held = false ∧
    s.pst.settle = true ∧ s.pst.lastSet = some 0 ∧ 100 ≤ s.now - 0 ∧ (at' 99 s).now - 0 < 100) ∧
    ((running .neutralPass .waitSection (some .ac25) ready).chg.seq.map (fun q => (q.stage, q.exit)) =
    some (.waitSection, none) ∧ ready.smp.outlook.valid = false ∧
    (shows .lowerZone none ready).smp.outlook.kind = .lowerZone ∧ (shows .neutral none ready).smp.outlook.kind = .neutral ∧
    (shows (.sys .dc3) none ready).smp.outlook.valid = true ∧ awaitedKind .neutral = .neutral ∧
    awaitedKind .lowerZone = .lowerZone ∧ roofDown (contact .p1 ready) = false ∧ roofDown ready = true) := by
  decide

/-- A correctable offer, an uncorrected one over a correctable record, the same again, and another; a counter one
below its end and at it. -/
theorem witness_OffersAreLoggedByPriority :
    ((recorded .panto .arc none ready).flt.panto.record.isSome = true ∧ kindUncorrected .arc = false ∧
    kindUncorrected .noWire = true) ∧
    (FaultKind.noWire ≠ .autoDrop ∧ FaultKind.shedTimeout = .shedTimeout ∧ Bank.reset.maskShed = false ∧
    Bank.reset.record = none) ∧
    (let b : Bank := ⟨none, 4094, false, true, false, false⟩; b.countEnable = true ∧ b.counter < 4095) ∧
    4095 ≤ (⟨none, 4095, true, true, false, false⟩ : Bank).counter := by
  decide

/-- READY and CHECK; a kind whose action is ROOF SAFE; a breaker made, with an OPEN to join and without. -/
theorem witness_RoofSafeAndProtectionOpen :
    (powered.roofState = .ready ∧ check.roofState = .check ∧ kindAction .lowerTimeout = .roofSafe ∧ fitted
    powered .p1 = true ∧ raised (chan powered .p1) = true) ∧
    (brkMade (brk powered .bka) = true ∧ joins powered = false ∧ joins (running .roofDown .shed none powered) =
    true) := by
  decide

set_option maxRecDepth 8000 in
/-- A demand and a target, with every channel at rest: a channel that starts to rise, and none that can; a scraper request
that is set, that is kept and that is withdrawn, with the step that sets it. -/
theorem witness_ChannelsRiseUnderTheirConditions :
    (let s := aim .ac25 ((cab .a ready).withCau { (cab .a ready).cau with demand := some ⟨.a, 0⟩ });
    (raiseCandidate s).isSome = true ∧ loopOwns (valve s .p1) = true ∧ loopOwns (valve s .p2) = true ∧
    (chan s .p2).state ≠ .raising ∧
    (match step (s.withPending [.odometerPulse]) with
      | .next t => (chan t .p2).state == .raising || (chan t .p1).state == .raising
      | _ => false) = true) ∧
    raiseCandidate ready = none ∧
    (let s := scraping (contact .p2 ready); ScraperSettable s ∧ ScraperKept s ∧ (scraperChoice s).isSome = true ∧
    s.ice.scraperRequest = false ∧ ScraperHolds s ∧
    (match step (s.withPending [.odometerPulse]) with
      | .next t => t.ice.scraperRequest
      | _ => false) = true) ∧
    ¬ ScraperKept ready ∧ ¬ ScraperSettable ready := by
  refine ⟨by decide, by decide, ⟨⟨?_, by decide⟩, ⟨?_, by decide⟩, by decide, by decide, fun _ h => absurd h (by decide), by decide⟩,
    fun h => absurd h.wanted.outlook.1 (by decide), fun h => absurd h.wanted.outlook.1 (by decide)⟩ <;>
  exact ⟨by decide, by decide, ⟨.p2, by decide⟩, by decide, ⟨by decide, ⟨.ac25, by decide⟩, by decide⟩⟩

/-- A powered roof about to take a command: the state that shows the laws' premises met. -/
def live : State := powered.withPending [.silenceEnd]

theorem witness_live_step : ∃ t, step live = .next t := ⟨_, rfl⟩

theorem witness_CountersStayInRange : CountersHold live := by intro b; cases b <;> unfold CounterLaw <;> decide

theorem witness_SafeHeldFollowsRoofCorrupt : SafeHeldLaw live := by
  refine ⟨⟨?_, ?_⟩, by decide⟩ <;> intro b r h <;> cases b <;> cases h

theorem witness_BreakersStayInterlocked : BreakersHold live := by
  refine ⟨by unfold HeldLaw; decide, ?_, ?_, by decide⟩ <;> intro b <;> cases b <;> decide

theorem witness_DemandStaysWithTheActiveVcu : DemandHolds live := ⟨by unfold HeldLaw; decide, fun d h => by cases h⟩

/-- A COLLECTOR alone; one with its SCRAPER, of one class; and a channel in SERVICE with the roof down. Each takes a
step. -/
def scraped : State :=
  withChan .p2 (fun r => { r with state := .raising, role := .scraper }) live
def serviced : State :=
  let s := inChan .service .p1 (ready.withPending [.silenceEnd])
  s.withRos { s.ros with valves := s.ros.valves.set .p1 { s.ros.valves.get .p1 with owner := .service } }

theorem witness_RolesAndClassesStayApart :
    (RolesHold live ∧ RolesHold scraped ∧ RolesHold serviced) ∧
    (ClassesHold live ∧ ClassesHold scraped ∧ ClassesHold serviced) ∧
    ((chan scraped .p2).role = .scraper ∧ raised (chan scraped .p2) = true) ∧
    (engaged serviced .p1 = true ∧ fitted serviced .p3 = true ∧ chanClass serviced .p1 ≠ chanClass serviced .p3) ∧
    (∃ t, step scraped = .next t) ∧ (∃ t, step serviced = .next t) := by
  have r : RolesHold live ∧ RolesHold scraped ∧ RolesHold serviced := by
    refine ⟨?_, ?_, ?_⟩ <;> intro c d <;> cases c <;> cases d <;> decide
  refine ⟨r, ⟨⟨r.1, ?_, ?_, ?_, ?_, ?_, ?_, ?_⟩, ⟨r.2.1, ?_, ?_, ?_, ?_, ?_, ?_, ?_⟩,
    ⟨r.2.2, ?_, ?_, ?_, ?_, ?_, ?_, ?_⟩⟩, by decide, by decide, ⟨_, rfl⟩, ⟨_, rfl⟩⟩
  all_goals first
    | (unfold HeldLaw; decide)
    | (intro h; revert h; decide)
    | (intro c; cases c <;> decide)
    | (intro c d; cases c <;> cases d <;> decide)
    | (intro c h1 h2; exact ⟨.p1, by revert h1 h2; cases c <;> decide⟩)

theorem witness_SectionTableStaysOrdered : TableHolds live.smp.table := by refine ⟨?_, ?_, ?_, ?_⟩ <;> decide

theorem witness_WindowsKeepTheirSums : WindowsHold live :=
  ⟨⟨by decide, ⟨rfl, rfl, rfl⟩⟩, (fun w h => by cases h), by decide⟩

theorem witness_DutiesStayInRange : DutiesHold live := by
  refine ⟨⟨?_, ?_, ?_, ?_⟩, ?_, ?_⟩
  · intro x h; cases h
  · intro x h; cases h
  · intro x h; cases h
  · intro x h; cases h
  · intro c; cases c <;> (constructor <;> decide)
  · intro z; revert z; unfold OutLaw; decide

theorem witness_RecordsStayInBounds : OutcomesHold live ∧ IceHolds live ∧ PositionHolds live ∧ ChannelsHold live := by
  refine ⟨by unfold OutcomesHold; decide, ⟨by decide, by decide⟩, ⟨by decide, by decide, by decide, by decide⟩, ?_⟩
  intro c; cases c <;> constructor <;> decide

theorem witness_ReceiverStaysWithinItsFrame : LinkHolds live := ⟨by decide, by decide, by decide⟩

end Sys2Proof.Tests
end

section
/-!
PROOFS. The identifier is touched by a sample, a publication, the sense check, a restart and a reset alone: frames of
`State.lsi` for the shared operations, and what any of the others can do to it.
-/

namespace Sys2Proof.Machine

/-! ### Requests in one form -/

/-- The rule of a request's kind: what the request does once it is admitted. -/
def requestRule (k : ReqKind) (src : Station) (p : List Byte) : State → State × Reply :=
  match k with
  | .statusRead => statusRead p
  | .cabTake => cabTake src
  | .cabRelease => cabRelease src
  | .cabPass => cabPass
  | .roofUp => roofUp p
  | .roofDown => roofDownReq src
  | .systemSelect => systemSelect src p
  | .breakerClose => breakerClose src
  | .breakerOpen => breakerOpen src
  | .position => positionReq p
  | .sectionLoad => sectionLoad p
  | .sectionClear => sectionClear p
  | .sectionRead => sectionRead p
  | .converterReport => converterReport p
  | .iceMode => iceModeReq p
  | .parameterSet => parameterSet p
  | .parameterRead => parameterRead p
  | .faultRead => faultRead p
  | .faultClear => faultClear p
  | .thresholdSet => thresholdSet p
  | .lockoutClear => lockoutClear p
  | .outputTake => outputTake p
  | .outputDrive => outputDrive p
  | .outputReturn => outputReturn p
  | .senseCheckStart => senseCheckStart p
  | .senseCheckEnd => senseCheckEnd
  | .softReset => softResetReq

theorem takeKind_eq (k : ReqKind) (src : Station) (p : List Byte) (s : State) :
    takeKind k src p s = takeRequest k src p (requestRule k src p) s := by
  cases k <;> rfl

/-- A request's command is the event of taking it. -/
theorem exec_requestCmd (k : ReqKind) (src : Station) (p : List Byte) (s : State) :
    exec (requestCmd k src p) s = event (takeRequest k src p (requestRule k src p)) s := by
  cases k <;> rfl

/-- What becomes of a request: it is not heard; it is lost to a soft reset; or it is answered, by a refusal on the state
heard or by its rule. -/
theorem takeRequest_cases (k : ReqKind) (src : Station) (p : List Byte) (body : State → State × Reply) (s : State) :
    takeRequest k src p body s = s ∨ takeRequest k src p body s = hearFrame s ∨
      ∃ code r, takeRequest k src p body s = putAnswer src code r ∧
        (r = body (heard src s) ∨ r.1 = heard src s) := by
  unfold takeRequest
  split
  · dsimp only
    split
    · exact .inr (.inl rfl)
    · refine .inr (.inr ⟨_, _, rfl, ?_⟩)
      unfold decideRequest
      split
      · exact .inr rfl
      · split
        · exact .inl rfl
        · exact .inr rfl
  · exact .inl rfl

/-! ### What leaves the identifier alone -/

@[simp] theorem hearFrame_lsi (s : State) : (hearFrame s).lsi = s.lsi := rfl
@[simp] theorem refreshActivity_lsi (st : Station) (s : State) : (refreshActivity st s).lsi = s.lsi := by
  cases st <;> rfl
@[simp] theorem putAnswer_lsi (st : Station) (c : Byte) (r : State × Reply) : (putAnswer st c r).lsi = r.1.lsi := rfl
@[simp] theorem settle_lsi (b s : State) : (settle b s).lsi = s.lsi := calm_lsi (calm_settle b s)
@[simp] theorem progress_lsi (s : State) : (progress s).lsi = s.lsi := calm_lsi (calm_progress s)
@[simp] theorem putSeq_lsi (s : State) (q : Sequence) : (putSeq s q).lsi = s.lsi := rfl
@[simp] theorem putChan_lsi (s : State) (c : Chan) (r : Channel) : (putChan s c r).lsi = s.lsi := rfl
@[simp] theorem putValve_lsi (s : State) (c : Chan) (o : Out) : (putValve s c o).lsi = s.lsi := rfl
@[simp] theorem putZone_lsi (s : State) (z : Fin 16) (o : Out) : (putZone s z o).lsi = s.lsi := rfl
@[simp] theorem putOut_lsi (s : State) (x : Output) (o : Out) : (putOut s x o).lsi = s.lsi := by cases x <;> rfl
@[simp] theorem putBrk_lsi (s : State) (b : Brk) (r : Breaker) : (putBrk s b r).lsi = s.lsi := by cases b <;> rfl
@[simp] theorem setShed_lsi (s : State) : (setShed s).lsi = s.lsi := rfl
@[simp] theorem openBrk_lsi (s : State) (b : Brk) : (openBrk s b).lsi = s.lsi := calm_lsi (calm_openBrk s b)
@[simp] theorem writeValve_lsi (s : State) (c : Chan) (d : Nat) : (writeValve s c d).lsi = s.lsi :=
  calm_lsi (calm_writeValve s c d)
@[simp] theorem mapValves_lsi (s : State) (f : Out → Out) : (mapValves s f).lsi = s.lsi := rfl
@[simp] theorem mapZones_lsi (s : State) (f : Out → Out) : (mapZones s f).lsi = s.lsi := rfl
@[simp] theorem logOffer_lsi (s : State) (k : FaultKind) (c : Option Ctx) : (logOffer s k c).lsi = s.lsi := rfl
@[simp] theorem recompute_lsi (s : State) : (recompute s).lsi = s.lsi := calm_lsi (calm_recompute s)
@[simp] theorem newOutlook_lsi (s : State) : (newOutlook s).lsi = s.lsi := calm_lsi (calm_newOutlook s)
@[simp] theorem recordEnd_lsi (s : State) (r : Result) (n : Nat) : (recordEnd s r n).lsi = s.lsi :=
  calm_lsi (calm_recordEnd s r n)
@[simp] theorem endSeq_lsi (s : State) (r : Result) (n : Nat) : (endSeq s r n).lsi = s.lsi :=
  calm_lsi (calm_endSeq s r n)
@[simp] theorem abortSeq_lsi (s : State) (r : Reason) : (abortSeq s r).lsi = s.lsi := calm_lsi (calm_abortSeq s r)
@[simp] theorem startSeq_lsi (s : State) (k : SeqKind) (o : Origin) (t : Option Sys) (a : Option Awaited) (st : Stage) :
    (startSeq s k o t a st).lsi = s.lsi := calm_lsi (calm_startSeq s k o t a st)
@[simp] theorem automaticStart_lsi (s : State) : (automaticStart s).lsi = s.lsi := calm_lsi (calm_automaticStart s)
@[simp] theorem roofDownSeq_lsi (s : State) (r : Reason) (o : Origin) : (roofDownSeq s r o).lsi = s.lsi :=
  calm_lsi (calm_roofDownSeq s r o)
@[simp] theorem forceChanged_lsi (b : Option Sys) (s : State) : (forceChanged b s).lsi = s.lsi :=
  calm_lsi (calm_forceChanged b s)
@[simp] theorem failed_lsi (s : State) (r : Role) : (failed s r).lsi = s.lsi := calm_lsi (calm_failed s r)
@[simp] theorem failInto_lsi (s : State) (c : Chan) (x : ChanState) : (failInto s c x).lsi = s.lsi :=
  calm_lsi (calm_failInto s c x)
@[simp] theorem protLowerAll_lsi (s : State) : (protLowerAll s).lsi = s.lsi := calm_lsi (calm_protLowerAll s)
@[simp] theorem roofSafeSeq_lsi (s : State) : (roofSafeSeq s).lsi = s.lsi := calm_lsi (calm_roofSafeSeq s)
@[simp] theorem takeAction_lsi (s : State) (o : Offer) (m : Option Brk) : (takeAction s o m).lsi = s.lsi :=
  calm_lsi (calm_takeAction s o m)
@[simp] theorem dumpInService_lsi (s : State) (c : Chan) : (dumpInService s c).lsi = s.lsi :=
  calm_lsi (calm_dumpInService s c)
@[simp] theorem leaveService_lsi (s : State) (c : Chan) : (leaveService s c).lsi = s.lsi :=
  calm_lsi (calm_leaveService s c)
@[simp] theorem initialState_lsi (s : State) (c : Chan) : (initialState s c).lsi = s.lsi :=
  calm_lsi (calm_initialState s c)
@[simp] theorem retarget_lsi (s : State) (c : Chan) : (retarget s c).lsi = s.lsi := rfl
@[simp] theorem retargetAll_lsi (s : State) : (retargetAll s).lsi = s.lsi := calm_lsi (calm_retargetAll s)
@[simp] theorem testStrip_lsi (s : State) (c : Chan) : (testStrip s c).lsi = s.lsi := calm_lsi (calm_testStrip s c)
@[simp] theorem testAllStrips_lsi (s : State) : (testAllStrips s).lsi = s.lsi := calm_lsi (calm_testAllStrips s)
@[simp] theorem slotStart_lsi (s : State) : (slotStart s).lsi = s.lsi := calm_lsi (calm_slotStart s)
@[simp] theorem endDemand_lsi (s : State) : (endDemand s).lsi = s.lsi := by unfold endDemand; split <;> rfl
@[simp] theorem reachRest_lsi (s : State) (c : Chan) : (reachRest s c).lsi = s.lsi := by
  unfold reachRest
  dsimp only
  split
  · rfl
  · rfl
  · split <;> rfl
  · rfl
  · rfl
  · rfl
  · rfl
  · rfl
@[simp] theorem forceLoop_lsi (s : State) (c : Chan) : (forceLoop s c).lsi = s.lsi := by
  unfold forceLoop
  dsimp only
  split <;> simp

theorem foldl_lsi {α : Type} (f : State → α → State) (h : ∀ s x, (f s x).lsi = s.lsi) (l : List α) (s : State) :
    (l.foldl f s).lsi = s.lsi := by
  induction l generalizing s with
  | nil => rfl
  | cons x xs ih => rw [List.foldl_cons, ih, h]

end Sys2Proof.Machine
end

section
/-!
PROOFS. The law of the windows (R2, R5, R12) is one of the identifier alone; every effect keeps it.
-/

namespace Sys2Proof.Machine

/-! ### The law, on the identifier -/

/-- `WindowsHold` as a law of the identifier. -/
structure WindowLaw (l : Lsi) : Prop where
  filling : l.filling.samples.length < 1200 ∧ SumsHold l.filling
  evaluating : ∀ w, l.evaluating = some w → w.samples.length = 1200 ∧ SumsHold w
  run : l.runCount ≤ 255

theorem windowsHold_iff (s : State) : WindowsHold s ↔ WindowLaw s.lsi :=
  ⟨fun h => ⟨h.filling, h.evaluating, h.run⟩, fun h => ⟨h.filling, h.evaluating, h.run⟩⟩

theorem sumsHold_empty : SumsHold Window.empty := ⟨rfl, rfl, rfl⟩

/-- A sample joins the sums as it joins the window (R5). -/
theorem sumsHold_add {w : Window} (h : SumsHold w) (x : Int) : SumsHold (w.add x) where
  s1 := by simp [Window.add, h.s1, add_comm]
  s2 := by simp [Window.add, h.s2, add_comm]
  sat := by cases e : saturated x <;> simp [Window.add, h.sat, bitOf, e]

@[simp] theorem Window.add_length (w : Window) (x : Int) : (w.add x).samples.length = w.samples.length + 1 := rfl

/-! ### The identifier's own effects -/

theorem windowLaw_restartIdent (s : State) : WindowLaw (restartIdent s).lsi where
  filling := ⟨by simp [restartIdent, Window.empty], sumsHold_empty⟩
  evaluating := by simp [restartIdent]
  run := by simp [restartIdent]

theorem windowLaw_reset : WindowLaw Lsi.reset where
  filling := ⟨by simp [Lsi.reset, Window.empty], sumsHold_empty⟩
  evaluating := by simp [Lsi.reset]
  run := by simp [Lsi.reset]

theorem windowLaw_checkResult {s : State} (h : WindowLaw s.lsi) (r : CheckResult) :
    WindowLaw (s.withLsi { s.lsi with checkResult := r }).lsi :=
  ⟨h.filling, h.evaluating, h.run⟩

theorem windowLaw_enterSafeHeld {s : State} (h : WindowLaw s.lsi) : WindowLaw (enterSafeHeld s).lsi := by
  unfold enterSafeHeld
  split
  · simpa using h
  · exact windowLaw_restartIdent _
  · exact h
  · exact h

theorem windowLaw_roofSafe {s : State} (h : WindowLaw s.lsi) : WindowLaw (roofSafe s).lsi :=
  windowLaw_enterSafeHeld (by simpa using h)

/-- An offer reaches the identifier through ROOF SAFE alone, which restarts identification where it ends a sense check. -/
theorem windowLaw_offer {s : State} (h : WindowLaw s.lsi) (o : Offer) : WindowLaw (offer s o).lsi := by
  unfold offer
  dsimp only
  split
  · apply windowLaw_roofSafe
    split <;> simpa using h
  · split <;> simpa using h

theorem windowLaw_offerPlain {s : State} (h : WindowLaw s.lsi) (k : FaultKind) :
    WindowLaw (offerPlain s k).lsi := windowLaw_offer h _
theorem windowLaw_offerChan {s : State} (h : WindowLaw s.lsi) (k : FaultKind) (c : Chan) :
    WindowLaw (offerChan s k c).lsi := windowLaw_offer h _
theorem windowLaw_offerBrk {s : State} (h : WindowLaw s.lsi) (k : FaultKind) (b : Brk) :
    WindowLaw (offerBrk s k b).lsi := windowLaw_offer h _
theorem windowLaw_offerParam {s : State} (h : WindowLaw s.lsi) (k : FaultKind) (n : Nat) :
    WindowLaw (offerParam s k n).lsi := windowLaw_offer h _
theorem windowLaw_haltThenOffer {s : State} (h : WindowLaw s.lsi) (r : Reason) (k : FaultKind) (b : Brk) :
    WindowLaw (haltThenOffer s r k b).lsi := windowLaw_offerBrk (by simpa using h) k b

theorem windowLaw_ite {p : Prop} [Decidable p] {t e : State} (ht : WindowLaw t.lsi) (he : WindowLaw e.lsi) :
    WindowLaw (if p then t else e).lsi := by
  split
  · exact ht
  · exact he

theorem windowLaw_foldl {α : Type} {f : State → α → State} (hf : ∀ s x, WindowLaw s.lsi → WindowLaw (f s x).lsi)
    (l : List α) {s : State} (h : WindowLaw s.lsi) : WindowLaw (l.foldl f s).lsi := by
  induction l generalizing s with
  | nil => exact h
  | cons x xs ih => exact ih (hf s x h)

/-- The 1,200th sample passes the window on, and every other joins one that stays short of it (R2). -/
theorem windowLaw_takeSample {s : State} (h : WindowLaw s.lsi) (x : Int) : WindowLaw (takeSample x s).lsi := by
  have joins : ∀ y, WindowLaw (if windowLength ≤ (s.lsi.filling.add y).samples.length
      then s.withLsi { s.lsi with filling := Window.empty, evaluating := some (s.lsi.filling.add y) }
      else s.withLsi { s.lsi with filling := s.lsi.filling.add y }).lsi := by
    intro y
    have sums := sumsHold_add h.filling.2 y
    have short := h.filling.1
    split
    · rename_i full
      refine ⟨⟨by simp [Window.empty], sumsHold_empty⟩, fun w e => ?_, h.run⟩
      cases e
      exact ⟨by simp only [Window.add_length, windowLength] at full ⊢; omega, sums⟩
    · rename_i room
      exact ⟨⟨Nat.lt_of_not_le room, sums⟩, h.evaluating, h.run⟩
  unfold takeSample
  split
  · exact h
  · exact joins _

theorem windowLaw_decideCheck {s : State} (h : WindowLaw s.lsi) (k : LineClass) : WindowLaw (decideCheck k s).lsi := by
  unfold decideCheck
  split
  · split
    · split
      · exact windowLaw_checkResult h _
      · exact windowLaw_offerPlain (windowLaw_checkResult h _) _
    · exact h
  · exact h

theorem windowLaw_examineLine {s : State} (h : WindowLaw s.lsi) (k : LineClass) : WindowLaw (examineLine k s).lsi := by
  unfold examineLine
  split
  · exact h
  · split
    · exact windowLaw_offerBrk h _ _
    · exact windowLaw_offerBrk h _ _
    · split
      · exact h
      · exact windowLaw_offerBrk h _ _

theorem windowLaw_identifyResult {s : State} (h : WindowLaw s.lsi) (k : LineClass) :
    WindowLaw (identifyResult k s).lsi := by
  unfold identifyResult
  split
  · exact h
  · split
    · split
      · exact h
      · exact windowLaw_haltThenOffer h _ _ _
      · split
        · exact h
        · exact windowLaw_offerBrk h _ _
    · exact h

theorem nextRun_le (c : Option LineClass) (n : Nat) (k : LineClass) : nextRun c n k ≤ 255 := by
  unfold nextRun; split <;> omega

theorem windowLaw_publishWindow {s : State} (h : WindowLaw s.lsi) : WindowLaw (publishWindow s).lsi := by
  have warned : ∀ (w : Window) (r : WindowRecord) (m : LineClass), WindowLaw (if 0 < w.sat
      then offerPlain (s.withLsi { s.lsi with evaluating := none, record := r, candidate := some r.cls, measured := m
                                              runCount := nextRun s.lsi.candidate s.lsi.runCount r.cls }) .saturation
      else s.withLsi { s.lsi with evaluating := none, record := r, candidate := some r.cls, measured := m
                                  runCount := nextRun s.lsi.candidate s.lsi.runCount r.cls }).lsi := by
    intro w r m
    have shown : WindowLaw { s.lsi with evaluating := none, record := r, candidate := some r.cls, measured := m
                                        runCount := nextRun s.lsi.candidate s.lsi.runCount r.cls } :=
      ⟨h.filling, by simp, nextRun_le _ _ _⟩
    split
    · exact windowLaw_offerPlain (by exact shown) _
    · exact shown
  unfold publishWindow
  split
  · exact h
  · dsimp only
    split
    · exact windowLaw_identifyResult (windowLaw_examineLine (windowLaw_decideCheck (warned _ _ _) _) _) _
    · exact warned _ _ _

/-! ### Breakers, cab and converter -/

theorem windowLaw_roofDownRequest {s : State} (h : WindowLaw s.lsi) (r : Reason) (o : Origin) :
    WindowLaw (roofDownRequest s r o).lsi := by simpa [roofDownRequest] using h

theorem windowLaw_cabLapse {s : State} (h : WindowLaw s.lsi) : WindowLaw (cabLapse s).lsi := by
  unfold cabLapse
  split
  · exact windowLaw_roofDownRequest (by exact windowLaw_offer h _) _ _
  · exact h

theorem windowLaw_demandExpiry {s : State} (h : WindowLaw s.lsi) : WindowLaw (demandExpiry s).lsi := by
  unfold demandExpiry
  split
  · exact windowLaw_roofDownRequest h _ _
  · exact h

theorem windowLaw_examineConverter {s : State} (h : WindowLaw s.lsi) : WindowLaw (examineConverter s).lsi := by
  unfold examineConverter
  split
  · exact h
  · split
    · exact windowLaw_offerBrk h _ _
    · split
      · exact windowLaw_offerBrk h _ _
      · exact h

theorem windowLaw_converterStale {s : State} (h : WindowLaw s.lsi) : WindowLaw (converterStale s).lsi := by
  unfold converterStale
  split
  · exact windowLaw_examineConverter (by exact h)
  · exact h

theorem windowLaw_takeReport {s : State} (h : WindowLaw s.lsi) (c : ConvState) (t : Option Sys) :
    WindowLaw (takeReport c t s).lsi := by
  apply windowLaw_examineConverter
  rw [progress_lsi]
  unfold shedReport
  split
  · split <;> exact h
  · exact h

theorem windowLaw_feedbackChange {s : State} (h : WindowLaw s.lsi) (b : Brk) (closed : Bool) :
    WindowLaw (feedbackChange b closed s).lsi := by
  unfold feedbackChange
  split
  · exact h
  · split
    · simpa using h
    · unfold feedbackTaken
      split
      · simp only [closeCompletes, automaticStart_lsi]
        exact windowLaw_examineConverter (by simpa using h)
      · exact windowLaw_offerBrk (by simpa using h) _ _
      · exact windowLaw_offerBrk (by simpa using h) _ _
      all_goals simpa using h

theorem windowLaw_closeExpiry {s : State} (h : WindowLaw s.lsi) (b : Brk) (closed : Bool) :
    WindowLaw (closeExpiry b closed s).lsi :=
  windowLaw_ite (windowLaw_haltThenOffer (by simpa using h) _ _ _) h

theorem windowLaw_openExpiry {s : State} (h : WindowLaw s.lsi) (b : Brk) (closed : Bool) :
    WindowLaw (openExpiry b closed s).lsi :=
  windowLaw_ite (windowLaw_ite (windowLaw_offerBrk (by simpa using h) _ _) (by simpa using h)) h

theorem windowLaw_shedExpiry {s : State} (h : WindowLaw s.lsi) : WindowLaw (shedExpiry s).lsi := by
  unfold shedExpiry
  split
  · exact windowLaw_ite (windowLaw_offer h _) h
  · exact h

theorem windowLaw_deadRunExpiry {s : State} (h : WindowLaw s.lsi) : WindowLaw (deadRunExpiry s).lsi := by
  unfold deadRunExpiry
  split
  · exact windowLaw_ite (windowLaw_offer h _) h
  · exact h

theorem windowLaw_identifyExpiry {s : State} (h : WindowLaw s.lsi) : WindowLaw (identifyExpiry s).lsi := by
  unfold identifyExpiry
  split
  · exact windowLaw_ite (windowLaw_offer h _) h
  · exact h

theorem windowLaw_converterExpiry {s : State} (h : WindowLaw s.lsi) : WindowLaw (converterExpiry s).lsi := by
  unfold converterExpiry
  split
  · exact windowLaw_ite (windowLaw_offer (by exact h) _) h
  · exact h

/-! ### Channels and outputs -/

theorem windowLaw_noWire {s : State} (h : WindowLaw s.lsi) (c : Chan) : WindowLaw (noWire s c).lsi :=
  windowLaw_offerChan (by simpa [failLower] using h) _ _

theorem windowLaw_storeForce {s : State} (h : WindowLaw s.lsi) (c : Chan) (f : Int) :
    WindowLaw (storeForce c f s).lsi :=
  windowLaw_ite (windowLaw_offerChan (by exact h) _ _) h

theorem windowLaw_readRaising {s : State} (h : WindowLaw s.lsi) (c : Chan) (x : Int) :
    WindowLaw (readRaising c x s).lsi :=
  windowLaw_ite h (windowLaw_ite (windowLaw_noWire h c) h)

theorem windowLaw_arcEvent {s : State} (h : WindowLaw s.lsi) (c : Chan) : WindowLaw (arcEvent c s).lsi := by
  have offered : WindowLaw (offerChan (putChan s c { chan s c with arcArmed := false }) .arc c).lsi :=
    windowLaw_offerChan (by exact h) _ _
  unfold arcEvent
  dsimp only
  split <;> exact offered

theorem windowLaw_readContact {s : State} (h : WindowLaw s.lsi) (c : Chan) : WindowLaw (readContact c s).lsi := by
  have read : ∀ low, WindowLaw (if (low && (chan s c).arcArmed) = true then arcEvent c (countLowForce c low s)
      else if eff s Par.contactForce ≤ (chan s c).forceN
        then putChan (countLowForce c low s) c { chan (countLowForce c low s) c with arcArmed := true }
        else countLowForce c low s).lsi :=
    fun _ => windowLaw_ite (windowLaw_arcEvent (by exact h) c) (windowLaw_ite h h)
  exact windowLaw_ite (windowLaw_noWire (read _) c) (read _)

theorem windowLaw_takeReading {s : State} (h : WindowLaw s.lsi) (c : Chan) (x f t : Int) :
    WindowLaw (takeReading c x f t s).lsi := by
  have stored : WindowLaw (storeStrip c t (storeHeight c x (storeForce c f s))).lsi := by
    have forced := windowLaw_storeForce h c f
    unfold storeStrip
    rw [testStrip_lsi]
    exact windowLaw_ite (t := putChan ..) (e := putChan ..) forced forced
  refine windowLaw_ite stored ?_
  unfold readTransitions
  split
  · exact windowLaw_readRaising stored c x
  · exact windowLaw_readContact stored c
  · exact windowLaw_ite (by simpa using stored) stored
  · exact windowLaw_ite (by simpa using stored) stored
  · exact windowLaw_ite (by simpa using stored) stored
  · exact stored
  · exact stored
  · exact stored

theorem heightFails_lsi (s : State) (c : Chan) : (heightFails s c).lsi = s.lsi := by
  unfold heightFails
  dsimp only
  split <;> simp

theorem windowLaw_heightSensor {s : State} (h : WindowLaw s.lsi) (c : Chan) : WindowLaw (heightSensor c s).lsi :=
  windowLaw_ite (windowLaw_ite (windowLaw_offerChan (by rw [heightFails_lsi]; exact h) _ _) h) h

theorem headLost_lsi {s t : State} {c : Chan} (h : headLost s c = some t) : t.lsi = s.lsi := by
  unfold headLost at h
  dsimp only at h
  split at h <;> cases h <;> simp

theorem windowLaw_headokLost {s : State} (h : WindowLaw s.lsi) (c : Chan) : WindowLaw (headokLost c s).lsi := by
  refine windowLaw_ite (windowLaw_ite h ?_) h
  split
  · rename_i t e
    exact windowLaw_offer (by rw [headLost_lsi e]; exact h) _
  · exact h

theorem windowLaw_raiseTimeout {s : State} (h : WindowLaw s.lsi) (c : Chan) : WindowLaw (raiseTimeout c s).lsi :=
  windowLaw_ite (windowLaw_offerChan (by simpa [failLower] using h) _ _) h

theorem windowLaw_contactLoss {s : State} (h : WindowLaw s.lsi) (c : Chan) : WindowLaw (contactLoss c s).lsi :=
  windowLaw_ite (windowLaw_noWire h c) h

theorem windowLaw_lowerTimeout {s : State} (h : WindowLaw s.lsi) (c : Chan) : WindowLaw (lowerTimeout c s).lsi :=
  windowLaw_ite (windowLaw_offerChan (by exact h) _ _) h

@[simp] theorem safePeriodEnd_lsi (o : Output) (s : State) : (safePeriodEnd o s).lsi = s.lsi := by
  unfold safePeriodEnd
  dsimp only
  split
  · split
    · rfl
    · unfold takeEnds
      dsimp only
      split
      · simp
      · cases o <;> dsimp only
        · split <;> simp
        · simp
    · cases o <;> simp [returnEnds]
  · rfl

theorem windowLaw_serviceLapse {s : State} (h : WindowLaw s.lsi) : WindowLaw (serviceLapse s).lsi :=
  windowLaw_ite (by exact windowLaw_offer (by exact h) _) h

/-! ### Ice clearing and the position -/

theorem windowLaw_ambientReading {s : State} (h : WindowLaw s.lsi) (t : Int) : WindowLaw (ambientReading t s).lsi :=
  windowLaw_ite h (windowLaw_ite (windowLaw_offerPlain (by exact h) _) h)

theorem windowLaw_auxokLost {s : State} (h : WindowLaw s.lsi) : WindowLaw (auxokLost s).lsi :=
  windowLaw_ite (windowLaw_ite h (windowLaw_offerPlain (by exact h) _)) h

theorem windowLaw_auxokReturn {s : State} (h : WindowLaw s.lsi) : WindowLaw (auxokReturn s).lsi := windowLaw_ite h h

theorem windowLaw_slotExpiry {s : State} (h : WindowLaw s.lsi) : WindowLaw (slotExpiry s).lsi :=
  windowLaw_ite (by simpa using h) h

theorem windowLaw_winterApply {s : State} (h : WindowLaw s.lsi) : WindowLaw (winterApply s).lsi := by
  unfold winterApply
  split
  · refine windowLaw_ite ?_ h
    split
    · exact windowLaw_offerPlain (by exact h) _
    · exact h
  all_goals exact h

theorem windowLaw_winterRemove {s : State} (h : WindowLaw s.lsi) : WindowLaw (winterRemove s).lsi := by
  unfold winterRemove
  split <;> exact h

theorem windowLaw_iceUpdate {s : State} (h : WindowLaw s.lsi) : WindowLaw (iceUpdate s).lsi := by
  refine windowLaw_ite h (windowLaw_ite h ?_)
  split
  · exact windowLaw_winterApply (by exact h)
  · exact windowLaw_winterRemove (by exact h)
  · exact h

theorem windowLaw_positionLapse {s : State} (h : WindowLaw s.lsi) : WindowLaw (positionLapse s).lsi :=
  windowLaw_ite (by rw [newOutlook_lsi]; exact windowLaw_offer (by exact h) _) h

theorem windowLaw_odometerPulse {s : State} (h : WindowLaw s.lsi) : WindowLaw (odometerPulse s).lsi :=
  windowLaw_ite (windowLaw_ite (by simpa using h) h) h

theorem windowLaw_takePosition {s : State} (h : WindowLaw s.lsi) (p track : Nat) (minus : Bool) (v : Nat) :
    WindowLaw (takePosition p track minus v s).lsi := by
  unfold takePosition
  rw [newOutlook_lsi]
  exact windowLaw_ite (windowLaw_offer h _) h

/-! ### The profile store -/

theorem windowLaw_classChanged (b : State) {s : State} (h : WindowLaw s.lsi) (c : Chan) :
    WindowLaw (classChanged b s c).lsi := by
  refine windowLaw_ite h (windowLaw_ite h (windowLaw_ite (windowLaw_ite ?_ (windowLaw_offerChan ?_ _ _)) h))
  · simpa using h
  · simpa using h

theorem windowLaw_applyChange (b : State) {s : State} (h : WindowLaw s.lsi) : WindowLaw (applyChange b s).lsi := by
  have changed : WindowLaw (allChans.foldl (classChanged b) s).lsi :=
    windowLaw_foldl (fun _ c hu => windowLaw_classChanged b hu c) _ h
  have forced := windowLaw_ite (p := forceParams.any (effChanged b (allChans.foldl (classChanged b) s)) = true)
    (by rw [retargetAll_lsi]; exact changed) changed
  exact windowLaw_ite (by rw [testAllStrips_lsi]; exact forced) forced

theorem windowLaw_converterRetest {s : State} (h : WindowLaw s.lsi) : WindowLaw (converterRetest s).lsi :=
  windowLaw_ite h (windowLaw_converterStale h)

theorem windowLaw_generalEffects (n : Nat) {s : State} (h : WindowLaw s.lsi) : WindowLaw (generalEffects n s).lsi := by
  unfold generalEffects
  refine windowLaw_ite (windowLaw_demandExpiry h) (windowLaw_ite (windowLaw_cabLapse h) (windowLaw_ite
    (windowLaw_converterRetest h) (windowLaw_ite (windowLaw_positionLapse h) (windowLaw_ite ?_ h))))
  rw [newOutlook_lsi]
  exact h

theorem windowLaw_takeSet (n : Nat) (v : Int) {s : State} (h : WindowLaw s.lsi) : WindowLaw (takeSet n v s).lsi := by
  have written : ∀ p, WindowLaw (if groupOf n = .line then restartIdent (s.withPst p) else s.withPst p).lsi :=
    fun _ => windowLaw_ite (windowLaw_restartIdent _) h
  unfold takeSet
  exact windowLaw_ite (windowLaw_generalEffects _ (windowLaw_applyChange _ (written _))) (written _)

theorem windowLaw_takeRecords (carries : Nat → Bool) (l : Layer) (rs : List (List Byte)) {s : State}
    (h : WindowLaw s.lsi) : WindowLaw (takeRecords carries s l rs).1.lsi := by
  induction rs generalizing s l with
  | nil => exact h
  | cons r rs ih =>
    unfold takeRecords
    split
    · exact ih _ h
    · exact ih _ (windowLaw_offerParam h _ _)

theorem windowLaw_takeFixed {s : State} (h : WindowLaw s.lsi) (bs : List Byte) : WindowLaw (takeFixed s bs).lsi := by
  unfold takeFixed
  dsimp only
  split
  · exact windowLaw_offer h _
  · exact windowLaw_ite (windowLaw_offer h _) (windowLaw_ite (windowLaw_offer h _) h)

/-- The end of STARTING restarts identification (R4). -/
theorem windowLaw_endStarting (s : State) : WindowLaw (endStarting s).lsi := windowLaw_restartIdent _

theorem windowLaw_advanceLoad (gs : List Segment) {s : State} (h : WindowLaw s.lsi) :
    WindowLaw (advanceLoad s gs).lsi := by
  induction gs generalizing s with
  | nil => exact windowLaw_endStarting _
  | cons g rest ih =>
    unfold advanceLoad
    split
    · exact ih (windowLaw_offerPlain (by exact h) _)
    · exact h

theorem windowLaw_headerRead (r : ReadResult) {s : State} (h : WindowLaw s.lsi) : WindowLaw (headerRead r s).lsi := by
  refine windowLaw_ite ?_ h
  split
  · exact h
  · exact windowLaw_endStarting _
  · exact windowLaw_ite (windowLaw_advanceLoad _ (by exact h)) (windowLaw_endStarting _)

theorem windowLaw_takeSegment (g : Segment) (bs : List Byte) {s : State} (h : WindowLaw s.lsi) :
    WindowLaw (takeSegment g bs s).lsi := by
  have marked : ∀ x, WindowLaw (if x = SegLoad.part then offerPlain (s.withPst (setSeg s.pst g x)) .segmentInvalid
      else s.withPst (setSeg s.pst g x)).lsi :=
    fun _ => windowLaw_ite (windowLaw_offerPlain (by exact h) _) h
  exact windowLaw_ite (windowLaw_foldl (fun _ r hu => windowLaw_takeFixed hu r) _ (marked _))
    (windowLaw_takeRecords _ _ _ (marked _))

theorem windowLaw_segmentRead (r : ReadResult) {s : State} (h : WindowLaw s.lsi) : WindowLaw (segmentRead r s).lsi := by
  unfold segmentRead
  split
  · exact windowLaw_ite (windowLaw_advanceLoad _ (windowLaw_takeSegment _ _ h)) h
  · exact windowLaw_endStarting _
  · exact h
  · exact h

theorem windowLaw_winterTake (bs : List Byte) {s : State} (h : WindowLaw s.lsi) :
    WindowLaw (winterTake bs s).1.lsi :=
  windowLaw_takeRecords _ _ _ (windowLaw_ite (windowLaw_offerPlain (by exact h) _) h)

theorem windowLaw_winterRead (r : ReadResult) {s : State} (h : WindowLaw s.lsi) : WindowLaw (winterRead r s).lsi := by
  unfold winterRead
  split
  · exact h
  · refine windowLaw_ite ?_ h
    split
    · exact windowLaw_winterTake _ h
    · exact windowLaw_winterTake _ h
    all_goals exact h
  · unfold winterReadFail
    split
    · exact windowLaw_offerPlain (by exact h) _
    all_goals exact h

theorem windowLaw_winterCheck (g : Group) {s : State} (h : WindowLaw s.lsi) : WindowLaw (winterCheck s g).lsi := by
  unfold winterCheck
  split
  · exact h
  · exact windowLaw_offerParam (by exact h) _ _

theorem windowLaw_winterPeriod {s : State} (h : WindowLaw s.lsi) : WindowLaw (winterPeriod s).lsi := by
  have checked : WindowLaw ([Group.panto, .ice].foldl winterCheck s).lsi :=
    windowLaw_foldl (fun _ g hu => windowLaw_winterCheck g hu) _ h
  unfold winterPeriod
  split
  · exact windowLaw_applyChange _ (by exact checked)
  · exact windowLaw_applyChange _ (by exact h)
  all_goals exact h

theorem windowLaw_forcePeriod {s : State} (h : WindowLaw s.lsi) : WindowLaw (forcePeriod s).lsi := by
  refine windowLaw_ite h (windowLaw_winterPeriod ?_)
  rw [foldl_lsi _ forceLoop_lsi, retargetAll_lsi]
  exact h

theorem windowLaw_releaseReset (x : BitVec 5) {s : State} (h : WindowLaw s.lsi) : WindowLaw (releaseReset x s).lsi :=
  windowLaw_ite h (windowLaw_endStarting _)

theorem windowLaw_softResetAct (x : BitVec 5) {s : State} (h : WindowLaw s.lsi) : WindowLaw (softResetAct x s).lsi :=
  windowLaw_ite (windowLaw_releaseReset _ (by exact windowLaw_reset)) h

theorem windowLaw_settleEnd {s : State} (h : WindowLaw s.lsi) : WindowLaw (settleEnd s).lsi := windowLaw_ite h h

/-! ### Requests -/

theorem windowLaw_answerIte {p : Prop} [Decidable p] {t e : State × Reply} (ht : WindowLaw t.1.lsi)
    (he : WindowLaw e.1.lsi) : WindowLaw (if p then t else e).1.lsi := by
  split
  · exact ht
  · exact he

theorem windowLaw_statusRead {s : State} (h : WindowLaw s.lsi) (p : List Byte) :
    WindowLaw (statusRead p s).1.lsi := by
  unfold statusRead
  dsimp only
  split <;> exact h

theorem windowLaw_cabTake {s : State} (h : WindowLaw s.lsi) (src : Station) : WindowLaw (cabTake src s).1.lsi := by
  unfold cabTake
  split
  · exact h
  · exact windowLaw_answerIte h h

theorem windowLaw_cabPass {s : State} (h : WindowLaw s.lsi) : WindowLaw (cabPass s).1.lsi := by
  unfold cabPass
  split <;> exact h

theorem windowLaw_refreshDemand {s : State} (h : WindowLaw s.lsi) : WindowLaw (refreshDemand s).lsi := by
  unfold refreshDemand
  split <;> exact h

theorem windowLaw_roofUpChoice {s : State} (h : WindowLaw s.lsi) (t : Sys) (p : Option Chan) :
    WindowLaw (roofUpChoice s t p).1.lsi := by
  have refreshed := windowLaw_refreshDemand h
  refine windowLaw_answerIte refreshed ?_
  split
  · exact windowLaw_answerIte h (windowLaw_answerIte h (windowLaw_answerIte h refreshed))
  · exact windowLaw_answerIte h refreshed

theorem windowLaw_roofUp {s : State} (h : WindowLaw s.lsi) (p : List Byte) : WindowLaw (roofUp p s).1.lsi := by
  refine windowLaw_answerIte h (windowLaw_answerIte h (windowLaw_answerIte h ?_))
  split
  · exact h
  · exact windowLaw_answerIte h (windowLaw_roofUpChoice h _ _)

theorem windowLaw_selectSystem {s : State} (h : WindowLaw s.lsi) (src : Station) (t : Sys) :
    WindowLaw (selectSystem src t s).1.lsi := by
  have retargeted : ∀ q, WindowLaw (retargetSeq s q t).lsi := fun _ => windowLaw_ite h h
  unfold selectSystem
  split
  · exact windowLaw_answerIte h (windowLaw_answerIte (retargeted _) h)
  · exact windowLaw_answerIte h (windowLaw_answerIte h (by simpa [done] using h))

theorem windowLaw_systemSelect {s : State} (h : WindowLaw s.lsi) (src : Station) (p : List Byte) :
    WindowLaw (systemSelect src p s).1.lsi := by
  unfold systemSelect
  split
  · exact h
  · exact windowLaw_answerIte h (windowLaw_selectSystem h _ _)

theorem windowLaw_breakerClose {s : State} (h : WindowLaw s.lsi) (src : Station) :
    WindowLaw (breakerClose src s).1.lsi := by
  refine windowLaw_answerIte h (windowLaw_answerIte h (windowLaw_answerIte h ?_))
  split
  · exact h
  · refine windowLaw_answerIte h ?_
    split
    · exact h
    · simpa [done] using h

theorem windowLaw_breakerOpen {s : State} (h : WindowLaw s.lsi) (src : Station) :
    WindowLaw (breakerOpen src s).1.lsi :=
  windowLaw_answerIte h (by simpa [done] using h)

theorem windowLaw_sectionLoad {s : State} (h : WindowLaw s.lsi) (p : List Byte) :
    WindowLaw (sectionLoad p s).1.lsi := by
  refine windowLaw_answerIte h ?_
  split
  · exact h
  · dsimp only
    split
    · exact h
    · exact windowLaw_answerIte h (by simpa [placeAll] using h)

theorem windowLaw_sectionClear {s : State} (h : WindowLaw s.lsi) (p : List Byte) :
    WindowLaw (sectionClear p s).1.lsi := by
  have cleared : ∀ gone, WindowLaw (clearRoutes gone s).1.lsi := fun _ => by simpa [clearRoutes] using h
  unfold sectionClear
  split
  · exact cleared _
  · exact windowLaw_answerIte (cleared _) h
  · exact h

theorem windowLaw_converterReport {s : State} (h : WindowLaw s.lsi) (p : List Byte) :
    WindowLaw (converterReport p s).1.lsi := by
  unfold converterReport
  split
  · exact windowLaw_takeReport h _ _
  · exact h

theorem windowLaw_iceModeReq {s : State} (h : WindowLaw s.lsi) (p : List Byte) :
    WindowLaw (iceModeReq p s).1.lsi := by
  unfold iceModeReq
  split <;> exact h

theorem windowLaw_parameterSet {s : State} (h : WindowLaw s.lsi) (p : List Byte) :
    WindowLaw (parameterSet p s).1.lsi :=
  windowLaw_answerIte h (windowLaw_answerIte h (windowLaw_answerIte h (windowLaw_answerIte h (windowLaw_takeSet _ _ h))))

theorem windowLaw_parameterRead {s : State} (h : WindowLaw s.lsi) (p : List Byte) :
    WindowLaw (parameterRead p s).1.lsi := by
  unfold parameterRead
  split <;> exact h

theorem windowLaw_faultRead {s : State} (h : WindowLaw s.lsi) (p : List Byte) : WindowLaw (faultRead p s).1.lsi := by
  unfold faultRead
  dsimp only
  split <;> exact h

theorem windowLaw_faultClear {s : State} (h : WindowLaw s.lsi) (p : List Byte) :
    WindowLaw (faultClear p s).1.lsi := by
  unfold faultClear
  split
  · exact h
  · exact windowLaw_answerIte h (windowLaw_ite h h)

theorem windowLaw_thresholdSet {s : State} (h : WindowLaw s.lsi) (p : List Byte) :
    WindowLaw (thresholdSet p s).1.lsi := by
  unfold thresholdSet
  dsimp only
  split
  · exact h
  · exact windowLaw_answerIte h h

theorem windowLaw_lockoutClear {s : State} (h : WindowLaw s.lsi) (p : List Byte) :
    WindowLaw (lockoutClear p s).1.lsi := by
  unfold lockoutClear
  split
  · exact h
  · exact windowLaw_answerIte h (windowLaw_answerIte h (windowLaw_answerIte h h))

theorem windowLaw_outputTake {s : State} (h : WindowLaw s.lsi) (p : List Byte) :
    WindowLaw (outputTake p s).1.lsi := by
  refine windowLaw_answerIte h (windowLaw_answerIte h ?_)
  split
  · exact h
  · refine windowLaw_answerIte h (windowLaw_answerIte h (windowLaw_answerIte h ?_))
    split
    · exact h
    · simpa [done] using h

theorem windowLaw_outputDrive {s : State} (h : WindowLaw s.lsi) (p : List Byte) :
    WindowLaw (outputDrive p s).1.lsi := by
  unfold outputDrive
  dsimp only
  split
  · exact h
  · refine windowLaw_answerIte h (windowLaw_answerIte h (windowLaw_answerIte h ?_))
    split
    · exact h
    · simpa [done] using h

theorem windowLaw_outputReturn {s : State} (h : WindowLaw s.lsi) (p : List Byte) :
    WindowLaw (outputReturn p s).1.lsi := by
  refine windowLaw_answerIte h ?_
  split
  · exact h
  · simpa [done] using h

/-- A sense check starts, as it ends, with a restart of identification (R16, R20). -/
theorem windowLaw_senseCheckStart {s : State} (h : WindowLaw s.lsi) (p : List Byte) :
    WindowLaw (senseCheckStart p s).1.lsi := by
  refine windowLaw_answerIte h (windowLaw_answerIte h (windowLaw_answerIte h ?_))
  split
  · exact windowLaw_restartIdent _
  · exact h

theorem windowLaw_senseCheckEnd {s : State} (h : WindowLaw s.lsi) : WindowLaw (senseCheckEnd s).1.lsi :=
  windowLaw_answerIte (windowLaw_restartIdent _) h

theorem windowLaw_requestRule (k : ReqKind) (src : Station) (p : List Byte) {s : State} (h : WindowLaw s.lsi) :
    WindowLaw (requestRule k src p s).1.lsi := by
  cases k with
  | statusRead => exact windowLaw_statusRead h p
  | cabTake => exact windowLaw_cabTake h src
  | cabRelease => exact windowLaw_roofDownRequest (by exact h) _ _
  | cabPass => exact windowLaw_cabPass h
  | roofUp => exact windowLaw_roofUp h p
  | roofDown => exact windowLaw_roofDownRequest h _ _
  | systemSelect => exact windowLaw_systemSelect h src p
  | breakerClose => exact windowLaw_breakerClose h src
  | breakerOpen => exact windowLaw_breakerOpen h src
  | position => exact windowLaw_answerIte h (windowLaw_takePosition h _ _ _ _)
  | sectionLoad => exact windowLaw_sectionLoad h p
  | sectionClear => exact windowLaw_sectionClear h p
  | sectionRead => exact windowLaw_answerIte h h
  | converterReport => exact windowLaw_converterReport h p
  | iceMode => exact windowLaw_iceModeReq h p
  | parameterSet => exact windowLaw_parameterSet h p
  | parameterRead => exact windowLaw_parameterRead h p
  | faultRead => exact windowLaw_faultRead h p
  | faultClear => exact windowLaw_faultClear h p
  | thresholdSet => exact windowLaw_thresholdSet h p
  | lockoutClear => exact windowLaw_lockoutClear h p
  | outputTake => exact windowLaw_outputTake h p
  | outputDrive => exact windowLaw_outputDrive h p
  | outputReturn => exact windowLaw_outputReturn h p
  | senseCheckStart => exact windowLaw_senseCheckStart h p
  | senseCheckEnd => exact windowLaw_senseCheckEnd h
  | softReset => exact h

theorem windowLaw_takeRequest (k : ReqKind) (src : Station) (p : List Byte) {s : State} (h : WindowLaw s.lsi) :
    WindowLaw (takeRequest k src p (requestRule k src p) s).lsi := by
  have admitted : WindowLaw (heard src s).lsi := by simpa using h
  rcases takeRequest_cases k src p (requestRule k src p) s with e | e | ⟨c, r, e, rfl | hr⟩ <;> rw [e]
  · exact h
  · exact h
  · exact windowLaw_requestRule k src p admitted
  · rw [putAnswer_lsi, hr]
    exact admitted

/-! ### The link -/

theorem windowLaw_takeUnknownKind (src : Station) (k : Byte) {s : State} (h : WindowLaw s.lsi) :
    WindowLaw (takeUnknownKind src k s).lsi := by
  refine windowLaw_ite (windowLaw_ite h ?_) h
  simpa [refuse] using h

theorem windowLaw_discardFate {f : List Byte} {s t : State} (e : discardFate f s = some t) (h : WindowLaw s.lsi) :
    WindowLaw t.lsi := by
  unfold discardFate at e
  split at e
  · cases e; exact windowLaw_offerPlain h _
  · split at e
    · cases e; exact h
    · split at e
      · cases e; exact windowLaw_offer h _
      · split at e
        · cases e; exact windowLaw_offerPlain (by simpa using h) _
        · cases e

theorem windowLaw_dispatchFrame (f : List Byte) {s : State} (h : WindowLaw s.lsi) :
    WindowLaw (dispatchFrame f s).lsi := by
  unfold dispatchFrame
  split
  · exact h
  · split
    · rw [takeKind_eq]; exact windowLaw_takeRequest _ _ _ h
    · exact windowLaw_takeUnknownKind _ _ h

theorem windowLaw_frameFate (f : List Byte) {s : State} (h : WindowLaw s.lsi) : WindowLaw (frameFate f s).lsi := by
  unfold frameFate
  cases e : discardFate f s with
  | none => exact windowLaw_dispatchFrame f h
  | some t => exact windowLaw_discardFate e h

theorem windowLaw_breakFrame (r : Receiver) {s : State} (h : WindowLaw s.lsi) : WindowLaw (breakFrame r s).lsi :=
  windowLaw_offerPlain (by exact h) _

theorem windowLaw_receive (c : Byte) (stop : Bool) {s : State} (h : WindowLaw s.lsi) :
    WindowLaw (receive c stop s).lsi := by
  unfold receive
  split
  · exact h
  · exact windowLaw_ite h h
  · exact windowLaw_ite (windowLaw_breakFrame _ h) (windowLaw_ite (windowLaw_frameFate _ (by exact h)) h)

theorem windowLaw_charArrives (c : Byte) (stop : Bool) {s : State} (h : WindowLaw s.lsi) :
    WindowLaw (charArrives c stop s).lsi :=
  windowLaw_ite h (windowLaw_ite h (windowLaw_receive _ _ (by exact h)))

theorem windowLaw_frameDiscarded (f : List Byte) {s : State} (h : WindowLaw s.lsi) :
    WindowLaw (frameDiscarded f s).lsi := by
  refine windowLaw_ite (windowLaw_ite h ?_) h
  cases e : discardFate f (hearFrame s) with
  | none => exact h
  | some t => exact windowLaw_discardFate e h

theorem windowLaw_answerSend {s : State} (h : WindowLaw s.lsi) : WindowLaw (answerSend s).lsi := by
  unfold answerSend
  split <;> exact h

theorem windowLaw_silenceEnd {s : State} (h : WindowLaw s.lsi) : WindowLaw (silenceEnd s).lsi := windowLaw_ite h h

theorem windowLaw_answerEnd {s : State} (h : WindowLaw s.lsi) : WindowLaw (answerEnd s).lsi := windowLaw_ite h h

/-! ### Steps -/

/-- An event keeps the law when its effect does. -/
theorem windowLaw_event {f : State → State} {s t : State} (hf : WindowLaw (f s).lsi) (h : WindowLaw s.lsi)
    (e : event f s = .next t) : WindowLaw t.lsi := by
  obtain ⟨u, hu, ⟨-, rfl⟩ | ⟨-, rfl⟩⟩ := event_next f s <;> rw [hu] at e <;> cases e
  · exact h
  · simpa using hf

theorem windowLaw_inputEvent {f : State → State} {s t : State} (hf : WindowLaw (f s).lsi)
    (e : inputEvent f s = .next t) : WindowLaw t.lsi := by
  cases e
  simpa using hf

theorem windowLaw_resetRelease {straps : BitVec 5} {s t : State} (h : WindowLaw s.lsi)
    (e : execResetRelease straps s = .next t) : WindowLaw t.lsi := by
  unfold execResetRelease at e
  split at e <;> cases e
  · rw [settle_lsi]; exact windowLaw_releaseReset _ h
  · exact h

theorem windowLaw_exec {c : Instr} {s t : State} (h : WindowLaw s.lsi) (e : exec c s = .next t) : WindowLaw t.lsi := by
  have request : ∀ k src p, exec (requestCmd k src p) s = .next t → WindowLaw t.lsi := by
    intro k src p e
    rw [exec_requestCmd] at e
    exact windowLaw_event (windowLaw_takeRequest k src p h) h e
  cases c with
  | statusRead src p => exact request .statusRead src p e
  | cabTake src p => exact request .cabTake src p e
  | cabRelease src p => exact request .cabRelease src p e
  | cabPass src p => exact request .cabPass src p e
  | roofUp src p => exact request .roofUp src p e
  | roofDown src p => exact request .roofDown src p e
  | systemSelect src p => exact request .systemSelect src p e
  | breakerClose src p => exact request .breakerClose src p e
  | breakerOpen src p => exact request .breakerOpen src p e
  | position src p => exact request .position src p e
  | sectionLoad src p => exact request .sectionLoad src p e
  | sectionClear src p => exact request .sectionClear src p e
  | sectionRead src p => exact request .sectionRead src p e
  | converterReport src p => exact request .converterReport src p e
  | iceMode src p => exact request .iceMode src p e
  | parameterSet src p => exact request .parameterSet src p e
  | parameterRead src p => exact request .parameterRead src p e
  | faultRead src p => exact request .faultRead src p e
  | faultClear src p => exact request .faultClear src p e
  | thresholdSet src p => exact request .thresholdSet src p e
  | lockoutClear src p => exact request .lockoutClear src p e
  | outputTake src p => exact request .outputTake src p e
  | outputDrive src p => exact request .outputDrive src p e
  | outputReturn src p => exact request .outputReturn src p e
  | senseCheckStart src p => exact request .senseCheckStart src p e
  | senseCheckEnd src p => exact request .senseCheckEnd src p e
  | softReset src p => exact request .softReset src p e
  | unknownKind src k => exact windowLaw_event (windowLaw_takeUnknownKind src k h) h e
  | frameDiscarded f => exact windowLaw_event (windowLaw_frameDiscarded f h) h e
  | frameFormatAbort x stop => exact windowLaw_event (windowLaw_ite (windowLaw_charArrives x stop h) h) h e
  | frameGapTimeout => exact windowLaw_event (windowLaw_ite (windowLaw_breakFrame _ h) h) h e
  | silenceEnd => exact windowLaw_event (windowLaw_silenceEnd h) h e
  | answerSend => exact windowLaw_event (windowLaw_answerSend h) h e
  | answerWithdrawn x => exact windowLaw_event (windowLaw_ite (windowLaw_charArrives x true h) h) h e
  | softResetAction x => exact windowLaw_event (windowLaw_softResetAct x h) h e
  | powerOnReset => cases e; exact windowLaw_reset
  | pinReset => cases e; exact windowLaw_reset
  | resetRelease x => exact windowLaw_resetRelease h e
  | profileHeaderRead r => exact windowLaw_event (windowLaw_headerRead _ h) h e
  | segmentRead a => exact windowLaw_event (windowLaw_segmentRead _ h) h e
  | loadEepromNoAnswer => exact windowLaw_event (windowLaw_segmentRead _ h) h e
  | winterReadEnd a => exact windowLaw_event (windowLaw_winterRead _ h) h e
  | winterReadFail => exact windowLaw_event (windowLaw_winterRead _ h) h e
  | windowPublication => exact windowLaw_event (windowLaw_publishWindow h) h e
  | channelReading c x f y => exact windowLaw_event (windowLaw_takeReading h c x f y) h e
  | ambientReading x => exact windowLaw_event (windowLaw_ambientReading h x) h e
  | heightSensor c => exact windowLaw_event (windowLaw_heightSensor h c) h e
  | headokLost c => exact windowLaw_inputEvent (windowLaw_headokLost h c) e
  | headokRestored c => exact windowLaw_inputEvent h e
  | raiseTimeout c => exact windowLaw_event (windowLaw_raiseTimeout h c) h e
  | contactLoss c => exact windowLaw_event (windowLaw_contactLoss h c) h e
  | lowerTimeout c => exact windowLaw_event (windowLaw_lowerTimeout h c) h e
  | forceControlPeriod => exact windowLaw_event (windowLaw_forcePeriod h) h e
  | valvePeriodBoundary => exact windowLaw_event (f := (mapValves · atBoundary)) h h e
  | heaterPeriodBoundary => exact windowLaw_event (f := (mapZones · atBoundary)) h h e
  | safePeriodEnd o => exact windowLaw_event (by rw [safePeriodEnd_lsi]; exact h) h e
  | serviceLapse => exact windowLaw_event (windowLaw_serviceLapse h) h e
  | auxokLost => exact windowLaw_inputEvent (windowLaw_auxokLost h) e
  | auxokReturn => exact windowLaw_inputEvent (windowLaw_auxokReturn h) e
  | cabLapse => exact windowLaw_event (windowLaw_cabLapse h) h e
  | demandExpiry => exact windowLaw_event (windowLaw_demandExpiry h) h e
  | converterStale => exact windowLaw_event (windowLaw_converterStale h) h e
  | odometerPulse => exact windowLaw_event (windowLaw_odometerPulse h) h e
  | positionLapse => exact windowLaw_event (windowLaw_positionLapse h) h e
  | breakerFeedbackChange b x => exact windowLaw_inputEvent (windowLaw_feedbackChange h b x) e
  | closeTimeExpiry b x => exact windowLaw_event (windowLaw_closeExpiry h b x) h e
  | openTimeExpiry b x => exact windowLaw_event (windowLaw_openExpiry h b x) h e
  | shedTimeout => exact windowLaw_event (windowLaw_shedExpiry h) h e
  | deadRun => exact windowLaw_event (windowLaw_deadRunExpiry h) h e
  | identifyTimeout => exact windowLaw_event (windowLaw_identifyExpiry h) h e
  | converterTimeout => exact windowLaw_event (windowLaw_converterExpiry h) h e
  | settleIntervalEnd => exact windowLaw_event (windowLaw_settleEnd h) h e
  | iceIndexUpdate => exact windowLaw_event (windowLaw_iceUpdate h) h e
  | slotExpiry => exact windowLaw_event (windowLaw_slotExpiry h) h e
  | roofVoltageSample x => exact windowLaw_event (windowLaw_takeSample h _) h e
  | characterReceived x => exact windowLaw_event (windowLaw_charArrives x true h) h e
  | answerEnd => exact windowLaw_event (windowLaw_answerEnd h) h e

/-- The passing of a millisecond leaves the identifier alone. -/
theorem idle_lsi (s : State) : (idle s).lsi = s.lsi := by
  unfold idle tickTime tickBlocks
  split
  · rfl
  · dsimp only [State.withPending]
    split <;> rfl

/-- Settles O57: every command's effect keeps the law of the identifier. -/
theorem windowsKeepTheirSums : Obligations.WindowsKeepTheirSums := by
  intro s t h e
  rw [windowsHold_iff] at h ⊢
  unfold step at e
  split at e
  · cases e
    rw [idle_lsi]
    exact h
  · exact windowLaw_exec (by exact h) e

end Sys2Proof.Machine
end

section
/-!
PROOFS. The window arithmetic (R6, R7): the mean rounds to the nearest integer, the variance figure is Cauchy's inequality
with a floor, and the root is found bit by bit.
-/

namespace Sys2Proof.Machine

/-! ### The mean (R6) -/

/-- The magnitude of the mean: S1/1,200 rounded to the nearest, halves up. -/
theorem natAbs_meanM (x : Int) : (meanM x).natAbs = (2 * x.natAbs + 1200) / 2400 := by
  unfold meanM
  dsimp only
  split <;> omega

theorem meanM_of_neg {x : Int} (h : x < 0) : meanM x = -((2 * x.natAbs + 1200) / 2400 : Nat) := by
  simp [meanM, h]

theorem meanM_of_nonneg {x : Int} (h : 0 ≤ x) : meanM x = ((2 * x.natAbs + 1200) / 2400 : Nat) := by
  simp [meanM, not_lt.mpr h]

/-- Settles O32: each sign by itself, where the mean is a floor of the magnitude. -/
theorem meanIsTheNearestInteger : Obligations.MeanIsTheNearestInteger := by
  refine ⟨fun x => ?_, rfl, rfl, fun x _ _ => ?_, fun _ _ => rfl⟩
  · have magnitude := natAbs_meanM x
    rcases lt_or_ge x 0 with h | h
    · have := meanM_of_neg h; omega
    · have := meanM_of_nonneg h; omega
  · rcases lt_or_ge x 0 with h | h
    · have := meanM_of_neg h; omega
    · have := meanM_of_nonneg h; omega

/-! ### The root (R7) -/

/-- The bits still to come keep the root between `r` and `r + 2 ^ k`. -/
theorem rootBits_spec (v k r : Nat) (low : r ^ 2 ≤ v) (high : v < (r + 2 ^ k) ^ 2) :
    rootBits v k r ^ 2 ≤ v ∧ v < (rootBits v k r + 1) ^ 2 := by
  induction k generalizing r with
  | zero => exact ⟨low, by simpa [rootBits] using high⟩
  | succ k ih =>
    unfold rootBits
    split
    · exact ih _ ‹_› (by rwa [add_assoc, ← two_mul, ← pow_succ'])
    · exact ih _ low (by omega)

theorem rootOf_spec {v : Nat} (h : v < 2 ^ 32) : rootOf v ^ 2 ≤ v ∧ v < (rootOf v + 1) ^ 2 :=
  rootBits_spec v 16 0 (by simp) (by simpa using h)

/-! ### The variance figure (R7) -/

/-- n·S2 − S1² of samples. -/
def spread (l : List Int) : Int := l.length * (l.map (· ^ 2)).sum - l.sum ^ 2

/-- The sum of the squared distances of samples from a point. -/
theorem sum_sq_sub (l : List Int) (c : Int) :
    (l.map fun x => (x - c) ^ 2).sum = (l.map (· ^ 2)).sum - 2 * c * l.sum + l.length * c ^ 2 := by
  induction l with
  | nil => simp
  | cons x xs ih => simp only [List.map_cons, List.sum_cons, List.length_cons, ih]; push_cast; ring

/-- A sample adds to the spread the squared distances of the others from it. -/
theorem spread_cons (x : Int) (l : List Int) : spread (x :: l) = spread l + (l.map fun y => (y - x) ^ 2).sum := by
  rw [sum_sq_sub]
  simp only [spread, List.map_cons, List.sum_cons, List.length_cons]
  push_cast
  ring

theorem spread_nonneg (l : List Int) : 0 ≤ spread l := by
  induction l with
  | nil => simp [spread]
  | cons x xs ih =>
    have squares : 0 ≤ (xs.map fun y => (y - x) ^ 2).sum := List.sum_nonneg (by simp; intros; positivity)
    rw [spread_cons]
    omega

/-- An offset common to all samples leaves the spread. -/
theorem spread_map_add (l : List Int) (d : Int) : spread (l.map (· + d)) = spread l := by
  induction l with
  | nil => rfl
  | cons x xs ih => simp [spread_cons, ih, Function.comp_def]

/-- No sample between two bounds lies outside them: Σ (x − a)(x − b) is not positive. -/
theorem sum_between {l : List Int} {a b : Int} (h : ∀ x ∈ l, a ≤ x ∧ x ≤ b) :
    (l.map (· ^ 2)).sum - (a + b) * l.sum + l.length * (a * b) ≤ 0 := by
  induction l with
  | nil => simp
  | cons x xs ih =>
    obtain ⟨hx, hxs⟩ := List.forall_mem_cons.mp h
    have here : (x - a) * (x - b) ≤ 0 := mul_nonpos_of_nonneg_of_nonpos (by omega) (by omega)
    have rest := ih hxs
    simp only [List.map_cons, List.sum_cons, List.length_cons]
    push_cast
    nlinarith only [here, rest]

/-- The spread of samples between two bounds is at most a quarter of the squared width, times n². -/
theorem spread_le {l : List Int} {a b : Int} (h : ∀ x ∈ l, a ≤ x ∧ x ≤ b) :
    4 * spread l ≤ (l.length * (b - a)) ^ 2 := by
  have between := mul_nonpos_of_nonneg_of_nonpos (Int.natCast_nonneg l.length) (sum_between h)
  have centred := sq_nonneg (2 * l.sum - l.length * (a + b))
  unfold spread
  nlinarith only [between, centred]

/-- The numerator of the variance figure is the spread of the samples (R5). -/
theorem spread_of_sumsHold {w : Window} (h : SumsHold w) (n : w.samples.length = 1200) :
    ((1200 * w.s2 : Nat) : Int) - (w.s1.natAbs ^ 2 : Nat) = spread w.samples := by
  have squares : ((w.s2 : Nat) : Int) = (w.samples.map (· ^ 2)).sum := by
    rw [h.s2, Nat.cast_list_sum, List.map_map]
    congr 1
    exact List.map_congr_left fun x _ => by simp
  rw [spread, n, ← squares, ← h.s1]
  simp

theorem varianceV_eq (w : Window) : varianceV w = (1200 * w.s2 - w.s1.natAbs ^ 2) / 1440000 := rfl

/-- The variance figure depends on the spread of the samples alone. -/
theorem varianceV_of_sumsHold {w : Window} (h : SumsHold w) (n : w.samples.length = 1200) :
    varianceV w = (spread w.samples).toNat / 1440000 := by
  rw [varianceV_eq, ← spread_of_sumsHold h n]
  congr 1
  omega

theorem varianceV_le {w : Window} (h : SumsHold w) (n : w.samples.length = 1200)
    (codes : ∀ x ∈ w.samples, -32768 ≤ x ∧ x ≤ 32767) : varianceV w ≤ 1073709056 := by
  have bound := spread_le codes
  rw [n] at bound
  rw [varianceV_of_sumsHold h n]
  omega

/-- Settles O33: the spread of the samples is not negative, bounded by their width and free of a common offset. -/
theorem rmsIsTheIntegerRoot : Obligations.RmsIsTheIntegerRoot := by
  refine ⟨fun v h => rootOf_spec h, fun _ _ => rfl, fun w h n => ⟨?_, rfl, fun codes => ⟨varianceV_le h n codes, ?_⟩⟩,
    fun w u d hw hu n e => ?_⟩
  · have := spread_nonneg w.samples
    rw [← spread_of_sumsHold h n] at this
    omega
  · have small := varianceV_le h n codes
    have root := (rootOf_spec (v := varianceV w) (by omega)).1
    by_contra big
    have : 32768 ^ 2 ≤ rootOf (varianceV w) ^ 2 := Nat.pow_le_pow_left (by omega) 2
    omega
  · rw [varianceV_of_sumsHold hw n, varianceV_of_sumsHold hu (by simp [e, n]), e, spread_map_add]

end Sys2Proof.Machine
end

section
/-!
PROOFS. The sense check's requests, the held reset and the windows' way from sample to result (chapter 1, R171).
-/

namespace Sys2Proof.Machine

/-! ### The sense check (R15, R16, R20) -/

/-- An accepted request completes with its rule's answer, on its rule's state. -/
theorem exec_accepted {k : ReqKind} {src : Station} {p : List Byte} {s : State} (h : Accepted k src s)
    (hl : reqLengthOk k p.length = true) :
    exec (requestCmd k src p) s = .next (settle s (replied src (reqCode k)
      (answerByte (requestRule k src p (heard src s)).2.code :: (requestRule k src p (heard src s)).2.rest)
      (requestRule k src p (heard src s)).1)) := by
  rw [exec_requestCmd, event_live h.listening.held, takeRequest_accepted h hl]

/-- The same, for a rule whose result is known. -/
theorem exec_accepted_of_rule {k : ReqKind} {src : Station} {p : List Byte} {s : State} (h : Accepted k src s)
    (hl : reqLengthOk k p.length = true) (u : State) (c : AnswerCode) (rest : List Byte)
    (hr : requestRule k src p (heard src s) = (u, ⟨c, rest⟩)) :
    exec (requestCmd k src p) s = .next (settle s (replied src (reqCode k) (answerByte c :: rest) u)) := by
  rw [exec_accepted h hl, hr]

theorem endDemand_eq (s : State) : endDemand s = (s.withCau { s.cau with demand := none }).withPcu
    { s.pcu with collectorHold := if s.cau.demand.isSome then false else s.pcu.collectorHold } := by
  unfold endDemand
  by_cases h : s.cau.demand.isSome = true
  · rw [if_pos h, if_pos h]
    rfl
  · have same : { s.cau with demand := none } = s.cau := by
      rw [← Option.not_isSome_iff_eq_none.mp h]
    rw [if_neg h, if_neg h, same]
    rfl

/-- The entry to CHECK (R16, R78), block by block. -/
theorem enterCheck_eq (i : Fin 4) (s : State) : enterCheck i s =
    (((s.withRoof .check).withCau { s.cau with demand := none }).withPcu
      { s.pcu with collectorHold := false }).withLsi { s.lsi with
        filling := Window.empty, evaluating := none, candidate := none, runCount := 0, measured := .none,
        checkPattern := some i, checkResult := .pending } := by
  simp only [enterCheck, endDemand_eq]
  rfl

/-- The leaving of CHECK (R20, R21). -/
theorem leaveCheck_eq (s : State) : leaveCheck s = s.withLsi { s.lsi with
    filling := Window.empty, evaluating := none, candidate := none, runCount := 0, measured := .none,
    checkResult := if s.lsi.checkResult = .pending then .incomplete else s.lsi.checkResult } := rfl

/-- Settles O23: the rules of the two requests, row by row of Table 1-10. -/
theorem senseCheckRequests : Obligations.SenseCheckRequests := by
  refine ⟨fun p s h => ?_, fun s h => ?_⟩
  · have answers := exec_accepted_of_rule (p := [p]) h rfl
    dsimp only
    refine ⟨fun held => answers _ .safeHeld [] ?_, fun ready => ⟨fun loud => answers _ .notQuiet [] ?_,
      fun quiet big => answers _ .range [] ?_, fun i quiet hi => ?_⟩⟩
    · simp [requestRule, senseCheckStart, refuse, plain, held]
    · simp [requestRule, senseCheckStart, refuse, plain, ready, loud]
    · have high : ¬ byteAt [p] 0 < 4 := by simp only [byteAt, List.getD_cons_zero]; omega
      simp [requestRule, senseCheckStart, refuse, plain, ready, quiet, high]
    · have hp : byteAt [p] 0 = i.val := hi
      have entered := answers (enterCheck i (heard .tool s)) .done []
        (by simp [requestRule, senseCheckStart, done, plain, ready, quiet, hp, i.isLt])
      rw [enterCheck_eq] at entered
      exact entered
  · have answers := exec_accepted_of_rule (p := []) h rfl
    dsimp only
    refine ⟨fun other => answers _ .done [] ?_, fun check => answers _ .done [] ?_⟩
    · simp [requestRule, senseCheckEnd, done, plain, other]
    · simp [requestRule, senseCheckEnd, done, plain, check, leaveCheck_eq]

/-! ### The held reset (R171) -/

theorem holdReset_chan (f : Flt) (s : State) (c : Chan) :
    chan (holdReset f s) c = Channel.reset (chan s c).headok := by cases c <;> rfl

theorem holdReset_valve (f : Flt) (s : State) (c : Chan) : valve (holdReset f s) c = Out.reset := by cases c <;> rfl

theorem Quad.get_const {α : Type} (a : α) (c : Chan) : (Quad.const a).get c = a := by cases c <;> rfl

theorem holdReset_zoneOut (f : Flt) (s : State) (z : Fin 16) : zoneOut (holdReset f s) z = Out.reset := by
  change ((Quad.const (Quad.const Out.reset)).get _).get _ = _
  rw [Quad.get_const, Quad.get_const]

theorem holdReset_brk (f : Flt) (s : State) (b : Brk) : brk (holdReset f s) b = Breaker.reset (brk s b).feedback := by
  cases b <;> rfl

/-- Settles O28: a held reset is `holdReset`, whose blocks are the reset tables'. -/
theorem heldResetGivesTheResetValues : Obligations.HeldResetGivesTheResetValues := by
  intro s
  refine ⟨holdReset Flt.reset s, holdReset s.flt s, rfl, rfl, rfl, rfl, fun b => ?_, rfl, rfl, rfl, rfl, rfl, rfl,
    holdReset_chan _ s, rfl, holdReset_valve _ s, holdReset_zoneOut _ s, rfl, rfl, rfl, holdReset_brk _ s, rfl, rfl, rfl,
    rfl⟩
  cases b <;> rfl

/-! ### Samples and publications (R1 to R3, R11 to R14) -/

/-- The value of a sample: the pattern's where it has one to give, else the divider's code (R1). -/
def sampleValue (code : Int) (s : State) : Int :=
  (sampleSource s).elim code fun p => patternSample p s.lsi.filling.samples.length

/-- A sample joins the window; the one that completes it passes the window on, in place of one still evaluated. -/
theorem takeSample_eq (code : Int) {s : State} (hs : s.roofState ≠ .starting) :
    takeSample code s = if s.lsi.filling.samples.length < 1199
      then s.withLsi { s.lsi with filling := s.lsi.filling.add (sampleValue code s) }
      else s.withLsi { s.lsi with
        filling := Window.empty, evaluating := some (s.lsi.filling.add (sampleValue code s)) } := by
  have joins : takeSample code s = if 1200 ≤ s.lsi.filling.samples.length + 1
      then s.withLsi { s.lsi with
        filling := Window.empty, evaluating := some (s.lsi.filling.add (sampleValue code s)) }
      else s.withLsi { s.lsi with filling := s.lsi.filling.add (sampleValue code s) } := by
    unfold takeSample sampleValue
    rw [if_neg hs]
    cases sampleSource s <;> rfl
  rw [joins]
  by_cases short : s.lsi.filling.samples.length < 1199
  · rw [if_neg (by omega), if_pos short]
  · rw [if_pos (by omega), if_neg short]

theorem sampleValue_divider {code : Int} {s : State} (h : sampleSource s = none) : sampleValue code s = code := by
  simp [sampleValue, h]

theorem sampleValue_pattern {code : Int} {s : State} {p : Fin 4} (h : sampleSource s = some p) :
    sampleValue code s = patternSample p s.lsi.filling.samples.length := by
  simp [sampleValue, h]

/-- What a publication shows of a window, with `m` as measured_system; SATURATION is offered first (R3, R11). -/
def published (s : State) (w : Window) (m : LineClass) : State :=
  let r := windowRecord s w
  let shown := s.withLsi { s.lsi with
    evaluating := none, record := r, candidate := some r.cls
    runCount := nextRun s.lsi.candidate s.lsi.runCount r.cls, measured := m }
  if 0 < w.sat then offer shown ⟨.saturation, none, false⟩ else shown

/-- A run that is long enough gives a qualified result, which is handed on (R12, R13). -/
theorem publishWindow_qualified {s : State} {w : Window} (hw : s.lsi.evaluating = some w)
    (enough : runRequirement s (windowRecord s w).cls
      ≤ nextRun s.lsi.candidate s.lsi.runCount (windowRecord s w).cls) :
    publishWindow s = handResult (windowRecord s w).cls (published s w (windowRecord s w).cls) := by
  unfold publishWindow
  rw [hw]
  simp only [enough, decide_true, if_true]
  rfl

/-- A shorter run leaves measured_system. -/
theorem publishWindow_unqualified {s : State} {w : Window} (hw : s.lsi.evaluating = some w)
    (few : nextRun s.lsi.candidate s.lsi.runCount (windowRecord s w).cls
      < runRequirement s (windowRecord s w).cls) :
    publishWindow s = published s w s.lsi.measured := by
  unfold publishWindow
  rw [hw]
  simp only [Nat.not_le.mpr few, decide_false, Bool.false_eq_true, if_false]
  rfl

/-! ### A qualified result (R14, R19, R124) -/

theorem examineLine_noneClosed {s : State} (h : closedBrk s = none) (k : LineClass) : examineLine k s = s := by
  unfold examineLine
  rw [h]

theorem examineLine_closed {s : State} {b : Brk} (h : closedBrk s = some b) (k : LineClass) :
    (k = .none → examineLine k s = offer s ⟨.lossOfLine, some (.breaker b), false⟩) ∧
    (k = .invalid → examineLine k s = offer s ⟨.invalidSystem, some (.breaker b), false⟩) ∧
    ∀ t, k = .sys t →
      (s.chg.inForce = some t → examineLine k s = s) ∧
      (s.chg.inForce ≠ some t → examineLine k s = offer s ⟨.lineMismatch, some (.breaker b), false⟩) := by
  unfold examineLine
  rw [h]
  refine ⟨?_, ?_, fun t e => ⟨fun same => ?_, fun differ => ?_⟩⟩
  · rintro rfl; rfl
  · rintro rfl; rfl
  · subst e; exact if_pos same
  · subst e; exact if_neg differ

theorem identifyResult_elsewhere {s : State} (h : ∀ q, s.chg.seq = some q → q.stage ≠ .identify) (k : LineClass) :
    identifyResult k s = s := by
  unfold identifyResult
  split
  · rfl
  · rename_i q e
    split
    · exact absurd ‹q.stage = .identify› (h q e)
    · rfl

theorem identifyResult_identify {s : State} {q : Sequence} {t : Sys} (hq : s.chg.seq = some q)
    (hs : q.stage = .identify) (ht : q.target = some t) (k : LineClass) :
    let ctx := some (Ctx.breaker (brkOf (classOf t)))
    (k = .sys t → identifyResult k s = putSeq s { q with exit := some .next }) ∧
    (∀ u, k = .sys u → u ≠ t → identifyResult k s = offer s ⟨.changeMismatch, ctx, false⟩) ∧
    (k = .invalid → identifyResult k s = offer (endSeq s (.halted .invalidSystem) 0) ⟨.invalidSystem, ctx, false⟩) ∧
    (k = .none → identifyResult k s = s) := by
  unfold identifyResult
  rw [hq]
  dsimp only
  rw [hs, ht]
  refine ⟨?_, ?_, ?_, ?_⟩
  · rintro rfl; exact if_pos rfl
  · rintro u rfl differ; exact if_neg differ
  · rintro rfl; rfl
  · rintro rfl; rfl

theorem decideCheck_pending {s : State} {p : Fin 4} (hp : s.lsi.checkPattern = some p) (hs : s.roofState = .check)
    (hr : s.lsi.checkResult = .pending) (k : LineClass) :
    decideCheck k s = if k = expectedClass p then s.withLsi { s.lsi with checkResult := .pass }
      else offer (s.withLsi { s.lsi with checkResult := .fail }) ⟨.checkFail, none, false⟩ := by
  unfold decideCheck
  rw [hp]
  exact if_pos ⟨hs, hr⟩

theorem decideCheck_decided {s : State} (h : s.roofState ≠ .check ∨ s.lsi.checkResult ≠ .pending) (k : LineClass) :
    decideCheck k s = s := by
  unfold decideCheck
  split
  · exact if_neg (by tauto)
  · rfl

/-- Settles O34: the sample, the publication, and what each reader does with a qualified result. -/
theorem windowsAreFilledPublishedExamined : Obligations.WindowsAreFilledPublishedExamined := by
  refine ⟨fun code s live => ⟨fun starting => ?_, fun x divider pattern running => ?_⟩, fun w s live hw => ?_,
    fun s k => ⟨fun h => examineLine_noneClosed h k, fun b h => examineLine_closed h k⟩,
    fun s k => ⟨rfl, fun h => identifyResult_elsewhere h k, fun q t hq hs ht => identifyResult_identify hq hs ht k⟩,
    fun s k p hp => ⟨fun hs hr => ?_, fun h => decideCheck_decided h k⟩⟩
  · have unread : takeSample code.toInt s = s := if_pos starting
    exact (event_live live).trans (by rw [unread])
  · have value : sampleValue code.toInt s = x := by
      by_cases check : s.roofState = .check
      · cases h : s.lsi.checkPattern with
        | none => rw [sampleValue_divider ((if_pos check).trans h), divider (.inr (.inr ⟨check, h⟩))]
        | some p => rw [sampleValue_pattern ((if_pos check).trans h), pattern p check h]
      · have apart : s.roofState = .ready ∨ s.roofState = .safeHeld := by
          cases h : s.roofState
          · exact absurd h running
          · exact .inl rfl
          · exact absurd h check
          · exact .inr rfl
        rw [sampleValue_divider (if_neg check), divider (apart.imp_right .inl)]
    have sampled := (event_live live : exec (.roofVoltageSample code) s = _)
    rw [takeSample_eq _ running, value] at sampled
    refine ⟨fun short => ?_, fun full => ?_⟩
    · rwa [if_pos short] at sampled
    · rwa [if_neg (by omega)] at sampled
  · exact ⟨fun enough => (event_live live).trans (by rw [publishWindow_qualified hw enough]; rfl),
      fun few => (event_live live).trans (by rw [publishWindow_unqualified hw few]; rfl)⟩
  · have decided := decideCheck_pending hp hs hr k
    exact ⟨fun same => by rw [decided, if_pos same], fun differ => by rw [decided, if_neg differ]⟩

end Sys2Proof.Machine
end

section
/-!
PROOFS. PARAMETER SET (Table 9-6).
-/

namespace Sys2Proof.Machine

/-! ### What leaves the profile store alone -/

@[simp] theorem offer_pst (s : State) (o : Offer) : (offer s o).pst = s.pst := kept_pst (kept_offer s o)
@[simp] theorem offerChan_pst (s : State) (k : FaultKind) (c : Chan) : (offerChan s k c).pst = s.pst :=
  kept_pst (kept_offerChan s k c)
@[simp] theorem offerBrk_pst (s : State) (k : FaultKind) (b : Brk) : (offerBrk s k b).pst = s.pst :=
  kept_pst (kept_offerBrk s k b)
@[simp] theorem newOutlook_pst (s : State) : (newOutlook s).pst = s.pst := kept_pst (calm_kept (calm_newOutlook s))
@[simp] theorem roofDownRequest_pst (s : State) (r : Reason) (o : Origin) : (roofDownRequest s r o).pst = s.pst := by
  rw [roofDownRequest, kept_pst (calm_kept (calm_roofDownSeq _ _ _)), kept_pst (kept_endDemand _)]

theorem demandExpiry_pst (s : State) : (demandExpiry s).pst = s.pst := by
  unfold demandExpiry
  split
  · exact roofDownRequest_pst _ _ _
  · rfl

theorem cabLapse_pst (s : State) : (cabLapse s).pst = s.pst := by
  unfold cabLapse
  split
  · rw [roofDownRequest_pst, setActive, State.withCau_pst, offer_pst]
  · rfl

theorem examineConverter_pst (s : State) : (examineConverter s).pst = s.pst := by
  unfold examineConverter
  split
  · rfl
  · split
    · exact offerBrk_pst _ _ _
    · split
      · exact offerBrk_pst _ _ _
      · rfl

theorem converterRetest_pst (s : State) : (converterRetest s).pst = s.pst := by
  unfold converterRetest converterStale
  split
  · rfl
  · split
    · exact examineConverter_pst _
    · rfl

theorem positionLapse_pst (s : State) : (positionLapse s).pst = s.pst := by
  unfold positionLapse
  split
  · rw [newOutlook_pst, offer_pst]; rfl
  · rfl

/-- What a changed GENERAL value does at once leaves the store alone. -/
theorem generalEffects_pst (n : Nat) (s : State) : (generalEffects n s).pst = s.pst := by
  unfold generalEffects
  split
  · exact demandExpiry_pst s
  split
  · exact cabLapse_pst s
  split
  · exact converterRetest_pst s
  split
  · exact positionLapse_pst s
  split
  · exact newOutlook_pst s
  · rfl

theorem kept_classChanged (b s : State) (c : Chan) : kept (classChanged b s c) = kept s := by
  unfold classChanged
  split
  · rfl
  · rw [calm_kept (calm_retarget _ _)]
    split
    · exact calm_kept (calm_putChan _ _ _ rfl)
    · split
      · dsimp only
        split
        · exact calm_kept (calm_initialState s c)
        · rw [kept_offerChan, calm_kept (calm_initialState s c)]
      · rfl

/-- The effects of a change of layers, but for the classes, are calm. -/
theorem calm_applyChange (b s : State) : calm (applyChange b s) = calm (allChans.foldl (classChanged b) s) := by
  unfold applyChange
  dsimp only
  split <;> split <;> simp

theorem kept_applyChange (b s : State) : kept (applyChange b s) = kept s :=
  (calm_kept (calm_applyChange b s)).trans (kept_foldl _ (kept_classChanged b) _ _)

/-- No class changes: the effects of the change are calm altogether. -/
theorem calm_applyChange_of_classes {b s : State} (h : ∀ c, chanClass b c = chanClass s c) :
    calm (applyChange b s) = calm s := by
  have same : ∀ c, classChanged b s c = s := fun c => if_pos (h c)
  rw [calm_applyChange]
  simp [allChans, same]

/-! ### The layers and the number of a PARAMETER SET (R180, R182) -/

/-- The signed number of three bytes (R196). -/
theorem leInt_three (b0 b1 b2 : Byte) :
    leInt [b0, b1, b2] = if b0.toNat + 256 * b1.toNat + 65536 * b2.toNat < 8388608
      then ((b0.toNat + 256 * b1.toNat + 65536 * b2.toNat : Nat) : Int)
      else (b0.toNat + 256 * b1.toNat + 65536 * b2.toNat : Nat) - 16777216 := by
  have number : leNat [b0, b1, b2] = b0.toNat + 256 * b1.toNat + 65536 * b2.toNat := by simp only [leNat]; omega
  have places : 256 ^ [b0, b1, b2].length = 16777216 := by simp
  unfold leInt
  dsimp only
  rw [number, places]
  by_cases h : b0.toNat + 256 * b1.toNat + 65536 * b2.toNat < 8388608
  · rw [if_pos (by omega), if_pos h]
  · rw [if_neg (by omega), if_neg h]
    norm_num

theorem layerGet_layerSet_other (l : Layer) {n m : Nat} (v : Int) (h : m ≠ n) :
    layerGet (layerSet l n v) m = layerGet l m := by
  induction l with
  | nil => simp [layerSet, layerGet, h.symm]
  | cons x xs ih =>
    unfold layerSet
    split
    · simp [layerGet, h.symm]
    · split
      · subst_vars; simp [layerGet, h.symm]
      · simp [layerGet, ih]

/-- The store with a link value and the time of its set (R183). -/
def linkSet (s : State) (n : Nat) (v : Int) : Pst :=
  { s.pst with link := layerSet s.pst.link n v, lastSet := some s.now, settle := true }

/-- A link value reaches the effective value of its own parameter alone. -/
theorem pstEff_linkSet_other (s : State) {n m : Nat} (v : Int) (h : m ≠ n) :
    pstEff (linkSet s n v) m = pstEff s.pst m := by
  unfold pstEff linkSet
  dsimp only
  rw [layerGet_layerSet_other _ _ h]
  rfl

theorem line_of_groupOf {n : Nat} (h : groupOf n = .line) : 0x29 < n ∧ n ≤ 0x44 := by
  unfold groupOf at h
  split at h
  · cases h
  split at h
  · cases h
  split at h
  · omega
  split at h <;> cases h

theorem generalEffects_of_line {n : Nat} (h : groupOf n = .line) (s : State) : generalEffects n s = s := by
  have other : ∀ m, m ≤ 0x0C → n ≠ m := fun m hm => by have := line_of_groupOf h; omega
  have general : ∀ m ∈ outlookParams, m ≤ 0x0C := by decide
  have outside : outlookParams.contains n ≠ true := fun inside =>
    other n (general n (by simpa using inside)) rfl
  unfold generalEffects
  rw [if_neg (other _ (by decide)), if_neg (other _ (by decide)), if_neg (other _ (by decide)),
    if_neg (other _ (by decide)), if_neg outside]

/-! ### The taking of a value (R183) -/

/-- The state in which a value has just been written; a LINE value restarts identification (R4). -/
def setWritten (n : Nat) (v : Int) (s : State) : State :=
  if groupOf n = .line then restartIdent (s.withPst (linkSet s n v)) else s.withPst (linkSet s n v)

theorem takeSet_eq (n : Nat) (v : Int) (s : State) : takeSet n v s =
    if effChanged s (setWritten n v s) n then generalEffects n (applyChange s (setWritten n v s))
    else setWritten n v s := rfl

theorem setWritten_pst (n : Nat) (v : Int) (s : State) : (setWritten n v s).pst = linkSet s n v := by
  unfold setWritten
  split <;> rfl

/-- A value taken stands in the link layer, with its time noted and the settle interval started. -/
theorem takeSet_pst (n : Nat) (v : Int) (s : State) : (takeSet n v s).pst = linkSet s n v := by
  rw [takeSet_eq]
  split
  · rw [generalEffects_pst, kept_pst (kept_applyChange _ _), setWritten_pst]
  · exact setWritten_pst n v s

theorem setWritten_chanClass_of_line {n : Nat} (h : groupOf n = .line) (v : Int) (s : State) (c : Chan) :
    chanClass s c = chanClass (setWritten n v s) c := by
  have other : Par.chanClass + chanIndex c ≠ n := by
    have index : Par.chanClass + chanIndex c ≤ 0x13 := by cases c <;> decide
    have := line_of_groupOf h
    omega
  have same : eff (setWritten n v s) (Par.chanClass + chanIndex c) = eff s (Par.chanClass + chanIndex c) := by
    rw [eff, setWritten_pst, pstEff_linkSet_other s v other, eff]
  unfold chanClass
  rw [same]

/-- A LINE value restarts identification, and does nothing else to the identifier: it changes no class. -/
theorem takeSet_lsi_of_line {n : Nat} (h : groupOf n = .line) (v : Int) (s : State) :
    (takeSet n v s).lsi = (restartIdent s).lsi := by
  have written : (setWritten n v s).lsi = (restartIdent s).lsi := by
    unfold setWritten
    rw [if_pos h]
    rfl
  rw [takeSet_eq, generalEffects_of_line h]
  split
  · rw [calm_lsi (calm_applyChange_of_classes (setWritten_chanClass_of_line h v s)), written]
  · exact written

/-- Settles O19: the rows of Table 9-6 in order, and the effect of a value taken. -/
theorem parameterSetRows : Obligations.ParameterSetRows := by
  intro src n b0 b1 b2 s h
  have answers := exec_accepted_of_rule (p := [n, b0, b1, b2]) h rfl
  have value : leInt (bytesAt [n, b0, b1, b2] 1 3) = _ := leInt_three b0 b1 b2
  dsimp only
  generalize hv : (if b0.toNat + 256 * b1.toNat + 65536 * b2.toNat < 8388608 then _ else _ : Int) = v at value ⊢
  have rule : requestRule .parameterSet src [n, b0, b1, b2] (heard src s) =
      if roofQuiet s = false then refuse .notQuiet (heard src s)
      else if setTooSoon s = true then refuse .settling (heard src s)
      else if paramInRange n.toNat v = false then refuse .range (heard src s)
      else if setConsistent s.pst n.toNat v = false then refuse .range (heard src s)
      else (takeSet n.toNat v (heard src s), ⟨.done, valueBytes (takeSet n.toNat v (heard src s)) n.toNat⟩) := by
    have soon : setTooSoon (heard src s) = setTooSoon s := by cases src <;> rfl
    simp only [requestRule, parameterSet, value, heard_roofQuiet, heard_pst, soon]
    rfl
  refine ⟨fun loud => answers _ .notQuiet [] ?_, fun quiet soon => answers _ .settling [] ?_,
    fun quiet late bad => answers _ .range [] ?_, fun quiet late good =>
      ⟨fun clash => answers _ .range [] ?_, fun fits => ⟨?_, ?_, fun line => ?_⟩⟩⟩
  · rw [rule, if_pos loud]; rfl
  · rw [rule, if_neg (by simp [quiet]), if_pos soon]; rfl
  · rw [rule, if_neg (by simp [quiet]), if_neg (by simp [late]), if_pos bad]; rfl
  · rw [rule, if_neg (by simp [quiet]), if_neg (by simp [late]), if_neg (by simp [good]), if_pos clash]; rfl
  · have taken := answers _ .done _ (by
      rw [rule, if_neg (by simp [quiet]), if_neg (by simp [late]), if_neg (by simp [good]), if_neg (by simp [fits])])
    rw [valueBytes, BitVec.ofNat_toNat, BitVec.setWidth_eq] at taken
    exact taken
  · rw [takeSet_pst]
    simp [linkSet]
  · rw [takeSet_lsi_of_line line]
    simp [restartIdent]

end Sys2Proof.Machine
end

section
/-!
PROOFS. The idle step: the times that a millisecond moves, and which commands it puts to wait (log entries 2 and 37).
-/

namespace Sys2Proof.Machine

/-! ### What comes due -/

@[simp] theorem mem_dueNow (j : Instr) (s : State) :
    j ∈ dueNow s ↔ j ∈ linkDue s ∨ j ∈ periodDue s ∨ s.roofState ≠ .starting ∧ j ∈ blocksDue s := by
  simp [dueNow]

@[simp] theorem mem_linkDue (j : Instr) (s : State) : j ∈ linkDue s ↔
    s.lnk.soft = .due ∧ j = .softResetAction s.pst.straps ∨
      (s.lnk.receiver = .silenceWait ∧ 2 ≤ s.lnk.quietMs) ∧ j = .silenceEnd ∨
      (s.lnk.receiver = .receiving ∧ 2 ≤ s.lnk.quietMs) ∧ j = .frameGapTimeout ∨
      ((s.lnk.waiting.isSome = true ∧ s.lnk.sending.isNone = true) ∧ 1 ≤ s.lnk.quietMs) ∧ j = .answerSend ∨
      (s.lnk.sending.any fun a => decide (40 * (answerFrame s a).length ≤ 1000 * s.lnk.quietMs)) = true
        ∧ j = .answerEnd := by
  simp only [linkDue, List.mem_append, mem_dueIf, Bool.and_eq_true, beq_iff_eq, decide_eq_true_eq, or_assoc]

@[simp] theorem mem_periodDue (j : Instr) (s : State) : j ∈ periodDue s ↔
    s.now % 10 = 0 ∧ j = .valvePeriodBoundary ∨ s.now % 100 = 0 ∧ j = .heaterPeriodBoundary ∨
      (∃ c, (s.now % 10 = 0 ∧ safeEnding (valve s c) = true) ∧ j = .safePeriodEnd (.valve c)) ∨
      ∃ z, (s.now % 100 = 0 ∧ safeEnding (zoneOut s z) = true) ∧ j = .safePeriodEnd (.zone z) := by
  simp only [periodDue, List.mem_append, List.mem_flatMap, mem_dueIf, mem_allChans, mem_allZones, true_and,
    Bool.and_eq_true, beq_iff_eq, or_assoc]

@[simp] theorem mem_blocksDue (j : Instr) (s : State) : j ∈ blocksDue s ↔
    s.runMs % 20 = 0 ∧ j = .forceControlPeriod ∨ s.runMs % 1000 = 0 ∧ j = .iceIndexUpdate ∨
      s.lsi.evaluating.isSome = true ∧ j = .windowPublication ∨ (∃ c, j ∈ chanDue s c) ∨
      serviceLapseDue s = true ∧ j = .serviceLapse ∨ (cabLapseDue s).isSome = true ∧ j = .cabLapse ∨
      (demandDue s).isSome = true ∧ j = .demandExpiry ∨ converterDue s = true ∧ j = .converterStale ∨
      positionDue s = true ∧ j = .positionLapse ∨ j ∈ brkDue s .bka ∨ j ∈ brkDue s .bkd ∨ j ∈ seqDue s ∨
      settleDue s = true ∧ j = .settleIntervalEnd ∨ slotExpired s = true ∧ j = .slotExpiry := by
  simp only [blocksDue, List.mem_append, List.mem_flatMap, mem_dueIf, mem_allChans, true_and, beq_iff_eq, or_assoc]

section Due
variable (s : State)

theorem valvePeriodBoundary_mem_dueNow : .valvePeriodBoundary ∈ dueNow s ↔ s.now % 10 = 0 := by
  simp [mem_chanDue, mem_brkDue, mem_seqDue]

theorem heaterPeriodBoundary_mem_dueNow : .heaterPeriodBoundary ∈ dueNow s ↔ s.now % 100 = 0 := by
  simp [mem_chanDue, mem_brkDue, mem_seqDue]

theorem forceControlPeriod_mem_dueNow :
    .forceControlPeriod ∈ dueNow s ↔ s.roofState ≠ .starting ∧ s.runMs % 20 = 0 := by
  simp [mem_chanDue, mem_brkDue, mem_seqDue]

theorem iceIndexUpdate_mem_dueNow :
    .iceIndexUpdate ∈ dueNow s ↔ s.roofState ≠ .starting ∧ s.runMs % 1000 = 0 := by
  simp [mem_chanDue, mem_brkDue, mem_seqDue]

theorem windowPublication_mem_dueNow :
    .windowPublication ∈ dueNow s ↔ s.roofState ≠ .starting ∧ s.lsi.evaluating.isSome = true := by
  simp [mem_chanDue, mem_brkDue, mem_seqDue]

theorem raiseTimeout_mem_dueNow (c : Chan) : .raiseTimeout c ∈ dueNow s ↔ s.roofState ≠ .starting ∧
    (chan s c).state = .raising ∧ effNat s Par.raiseTimeoutMs ≤ (chan s c).stateTime := by
  simp [mem_chanDue, mem_brkDue, mem_seqDue, raiseDue]

theorem contactLoss_mem_dueNow (c : Chan) : .contactLoss c ∈ dueNow s ↔ s.roofState ≠ .starting ∧
    (chan s c).state = .inContact ∧ (chan s c).lowForce = true ∧ (chan s c).lossLimit ≤ (chan s c).lowForceTime := by
  simp [mem_chanDue, mem_brkDue, mem_seqDue, contactDue,
    and_assoc]

theorem lowerTimeout_mem_dueNow (c : Chan) : .lowerTimeout c ∈ dueNow s ↔ s.roofState ≠ .starting ∧
    ((chan s c).state = .lowering ∨ (chan s c).state = .dropped) ∧
    effNat s Par.lowerTimeoutMs ≤ (chan s c).stateTime := by
  simp [mem_chanDue, mem_brkDue, mem_seqDue, lowerDue,
    comingDown]

theorem holdDue_iff (r : Channel) : holdDue r = true ↔ ∃ ms, r.hold = .running ms ∧ 100 ≤ ms := by
  unfold holdDue
  cases r.hold <;> simp

theorem heightSensor_mem_dueNow (c : Chan) : .heightSensor c ∈ dueNow s ↔ s.roofState ≠ .starting ∧
    ∃ ms, (chan s c).hold = .running ms ∧ 100 ≤ ms := by
  simp [mem_chanDue, mem_brkDue, mem_seqDue, holdDue_iff]

theorem safePeriodEnd_mem_dueNow (o : Output) : .safePeriodEnd o ∈ dueNow s ↔
    (outOf s o).handover ≠ .none ∧ (outOf s o).safeLeft ≤ 1 ∧
      match o with
        | .valve _ => s.now % 10 = 0
        | .zone _ => s.now % 100 = 0 := by
  cases o <;> simp [mem_chanDue, mem_brkDue, mem_seqDue, safeEnding, outOf] <;> tauto

theorem demandExpiry_mem_dueNow : .demandExpiry ∈ dueNow s ↔ s.roofState ≠ .starting ∧
    ∃ d, s.cau.demand = some d ∧ effNat s Par.demandLifetimeMs ≤ s.now - d.refresh := by
  have due : (demandDue s).isSome = true ↔
      ∃ d, s.cau.demand = some d ∧ effNat s Par.demandLifetimeMs ≤ s.now - d.refresh := by
    unfold demandDue
    cases s.cau.demand <;> simp
  simp [mem_chanDue, mem_brkDue, mem_seqDue, due]

theorem slotExpiry_mem_dueNow : .slotExpiry ∈ dueNow s ↔ s.roofState ≠ .starting ∧
    ∃ x, s.ice.slot = .running x ∧ effNat s Par.slotMs ≤ x.time := by
  have due : slotExpired s = true ↔ ∃ x, s.ice.slot = .running x ∧ effNat s Par.slotMs ≤ x.time := by
    unfold slotExpired
    cases s.ice.slot <;> simp
  simp [mem_chanDue, mem_brkDue, mem_seqDue, due]

theorem shedTimeout_mem_dueNow : .shedTimeout ∈ dueNow s ↔ s.roofState ≠ .starting ∧
    ∃ q, s.chg.seq = some q ∧ q.stage = .shed ∧ effNat s Par.shedTimeout ≤ q.stageTime := by
  simp [mem_chanDue, mem_brkDue, mem_seqDue, shedDue]

theorem deadRun_mem_dueNow : .deadRun ∈ dueNow s ↔ s.roofState ≠ .starting ∧
    ∃ q, s.chg.seq = some q ∧ (q.stage = .waitSection ∨ q.stage = .identify) ∧
      effNat s Par.deadRunS * 1000 ≤ q.stageTime := by
  simp [mem_chanDue, mem_brkDue, mem_seqDue, deadRunDue]

theorem softResetAction_mem_dueNow (straps : BitVec 5) :
    .softResetAction straps ∈ dueNow s ↔ s.lnk.soft = .due ∧ straps = s.pst.straps := by
  simp [mem_chanDue, mem_brkDue, mem_seqDue]

/-- No request, sample, character, reading or input change comes due by time alone (log entry 36). -/
theorem dueNow_brings_no_input {c : Instr} (h : c ∈ dueNow s) : (∀ k src p, c ≠ requestCmd k src p) ∧
    (∀ x, c ≠ .roofVoltageSample x) ∧ (∀ x, c ≠ .characterReceived x) ∧ (∀ ch x f y, c ≠ .channelReading ch x f y) ∧
    ∀ b l, c ≠ .breakerFeedbackChange b l := by
  refine ⟨?_, ?_, ?_, ?_, ?_⟩
  · rintro k src p rfl
    revert h
    cases k <;>
    simp [requestCmd, mem_chanDue, mem_brkDue, mem_seqDue]
  all_goals
    intros
    rintro rfl
    simp [mem_chanDue, mem_brkDue, mem_seqDue] at h

end Due

/-! ### What a millisecond moves -/

@[simp] theorem withPending_chan (s : State) (q : List Instr) (c : Chan) : chan (s.withPending q) c = chan s c := rfl

theorem step_of_nothing_waiting {s : State} (h : s.pending = []) : step s = .next (idle s) := by
  unfold step
  rw [h]

theorem idle_of_held {s : State} (h : s.held = true) : idle s = s := if_pos h

theorem idle_of_live {s : State} (h : s.held = false) : idle s = (tickTime s).withPending (dueNow (tickTime s)) := by
  simp [idle, h]

theorem tickTime_of_starting {s : State} (h : s.roofState = .starting) :
    tickTime s = (s.withNow (s.now + 1)).withLnk { s.lnk with quietMs := s.lnk.quietMs + 1 } := if_pos h

theorem tickTime_of_running {s : State} (h : s.roofState ≠ .starting) :
    tickTime s = tickBlocks ((s.withNow (s.now + 1)).withLnk { s.lnk with quietMs := s.lnk.quietMs + 1 }) := if_neg h

theorem tickBlocks_chan (s : State) (c : Chan) : chan (tickBlocks s) c = tickChannel (chan s c) := by
  simp [tickBlocks, chan]

theorem tickBlocks_brk (s : State) (b : Brk) : brk (tickBlocks s) b = tickBreaker (brk s b) := by cases b <;> rfl

theorem tickBreaker_eq (r : Breaker) : tickBreaker r =
    { r with opTime := if r.state = .closing ∨ r.state = .opening then r.opTime + 1 else r.opTime } := by
  unfold tickBreaker
  split <;> rfl

theorem tickChannel_hold_running {r : Channel} {ms : Nat} (h : r.hold = .running ms) :
    (tickChannel r).hold = .running (ms + 1) := by
  simp [tickChannel, h]

theorem tickChannel_hold_other {r : Channel} (h : ∀ ms, r.hold ≠ .running ms) : (tickChannel r).hold = r.hold := by
  unfold tickChannel
  cases e : r.hold with
  | running ms => exact absurd e (h ms)
  | idle => rfl
  | failed => rfl

theorem tickSlot_other {x : SlotState} (h : ∀ y, x ≠ .running y) : tickSlot x = x := by
  cases x with
  | running y => exact absurd rfl (h y)
  | idle => rfl
  | held => rfl

/-- A millisecond leaves every block but the times. -/
theorem tickTime_frame (s : State) : (tickTime s).now = s.now + 1 ∧ (tickTime s).held = s.held ∧
    (tickTime s).roofState = s.roofState ∧ (tickTime s).lsi = s.lsi ∧ (tickTime s).ros = s.ros ∧
    (tickTime s).cau = s.cau ∧ (tickTime s).smp = s.smp ∧ (tickTime s).flt = s.flt ∧ (tickTime s).pst = s.pst ∧
    (tickTime s).lnk = { s.lnk with quietMs := s.lnk.quietMs + 1 } ∧ (tickTime s).pending = s.pending := by
  unfold tickTime
  dsimp only
  split <;> exact ⟨rfl, rfl, rfl, rfl, rfl, rfl, rfl, rfl, rfl, rfl, rfl⟩

/-- The times of the blocks run from the end of STARTING. -/
theorem tickTime_blocks {s : State} (h : s.roofState ≠ .starting) :
    (tickTime s).runMs = s.runMs + 1 ∧ (tickTime s).pcu = { s.pcu with chans := (tickTime s).pcu.chans } ∧
    (∀ c, chan (tickTime s) c = tickChannel (chan s c)) ∧
    (tickTime s).chg = { s.chg with
      bka := (tickTime s).chg.bka, bkd := (tickTime s).chg.bkd, seq := s.chg.seq.map tickSeq } ∧
    (∀ b, brk (tickTime s) b = tickBreaker (brk s b)) ∧
    (tickTime s).ice = { s.ice with slot := tickSlot s.ice.slot } := by
  rw [tickTime_of_running h]
  exact ⟨rfl, rfl, fun c => tickBlocks_chan _ c, rfl, fun b => tickBlocks_brk _ b, rfl⟩

/-- Settles O2: `idle` moves the times by `tickTime` and puts `dueNow` to wait, of which each named command is characterized
above. -/
theorem idleStepPassesAMillisecond : Obligations.IdleStepPassesAMillisecond := by
  refine ⟨fun s empty held => ?_, fun s empty live => ?_, fun s t empty live e => ?_⟩
  · rw [step_of_nothing_waiting empty, idle_of_held held]
  · obtain ⟨now, held, roof, lsi, ros, cau, smp, flt, pst, lnk, pending⟩ := tickTime_frame s
    have waiting : (tickTime s).withPending [] = tickTime s := by rw [← empty, ← pending]; rfl
    refine ⟨(tickTime s).withPending (dueNow (tickTime s)), by rw [step_of_nothing_waiting empty, idle_of_live live],
      congrArg dueNow waiting.symm, now, held.trans live, roof, lsi, ros, cau, smp, flt, pst, lnk, fun starting => ?_,
      fun running => ?_⟩
    · rw [tickTime_of_starting starting]
      exact ⟨rfl, rfl, rfl, rfl⟩
    · obtain ⟨run, pcu, chans, chg, brks, ice⟩ := tickTime_blocks running
      refine ⟨run, pcu, fun c => ?_, fun c => ⟨fun ms h => ?_, fun h => ?_⟩, chg, fun b => ?_, ?_, fun x h => ?_,
        fun h => ?_⟩
      · rw [withPending_chan, chans c]
        rfl
      · exact (congrArg Channel.hold (chans c)).trans (tickChannel_hold_running h)
      · exact (congrArg Channel.hold (chans c)).trans (tickChannel_hold_other h)
      · exact (brks b).trans (tickBreaker_eq _)
      · exact ice.trans (by rw [State.withPending_ice, ice])
      · exact (congrArg Ice.slot ice).trans (by rw [h]; rfl)
      · exact (congrArg Ice.slot ice).trans (tickSlot_other h)
  · rw [step_of_nothing_waiting empty, idle_of_live live] at e
    cases e
    exact ⟨valvePeriodBoundary_mem_dueNow _, heaterPeriodBoundary_mem_dueNow _, forceControlPeriod_mem_dueNow _,
      iceIndexUpdate_mem_dueNow _, windowPublication_mem_dueNow _,
      fun c => ⟨raiseTimeout_mem_dueNow _ c, contactLoss_mem_dueNow _ c, lowerTimeout_mem_dueNow _ c,
        heightSensor_mem_dueNow _ c⟩,
      fun o => by cases o <;> exact safePeriodEnd_mem_dueNow (tickTime s) _,
      demandExpiry_mem_dueNow _, slotExpiry_mem_dueNow _, shedTimeout_mem_dueNow _, deadRun_mem_dueNow _,
      softResetAction_mem_dueNow _, fun c h => dueNow_brings_no_input _ h⟩

end Sys2Proof.Machine
end

section
/-!
PROOFS. What protections do: the fault banks are written by the offer's logging alone, and a breaker is only ever opened.
-/

namespace Sys2Proof.Machine

/-! ### A collector's failure in two parts (R129) -/

/-- What a collector's failure does to the running sequence. -/
def failedSeq (s : State) : State :=
  match s.chg.seq with
  | some q => if q.kind = .open ∨ q.kind = .roofDown then s else abortSeq s .channelFailed
  | none => s

theorem collectorFailed_eq (s : State) : collectorFailed s =
    match madeBrk s with
    | some b => protectionOpen (failedSeq s) b
    | none => failedSeq s := rfl

/-! ### What leaves the sequencer's record alone -/

@[simp] theorem putValve_chg (s : State) (c : Chan) (o : Out) : (putValve s c o).chg = s.chg := rfl
@[simp] theorem writeValve_chg (s : State) (c : Chan) (d : Nat) : (writeValve s c d).chg = s.chg := by
  rcases writeValve_cases s c d with h | ⟨a, -, h⟩ <;> rw [h]; rfl

theorem foldl_frame {α β : Type} (g : State → β) (f : State → α → State) (h : ∀ s x, g (f s x) = g s) (l : List α)
    (s : State) : g (l.foldl f s) = g s := by
  induction l generalizing s with
  | nil => rfl
  | cons x xs ih => rw [List.foldl_cons, ih, h]

@[simp] theorem ordinaryLower_chg (s : State) (c : Chan) : (ordinaryLower s c).chg = s.chg := by
  unfold ordinaryLower
  split
  · rw [writeValve_chg, putChan_chg]
  · rfl

@[simp] theorem lowerScraper_chg (s : State) : (lowerScraper s).chg = s.chg :=
  foldl_frame State.chg _ (fun s c => by split <;> simp) _ _

@[simp] theorem lowerAllFitted_chg (s : State) : (lowerAllFitted s).chg = s.chg :=
  foldl_frame State.chg _ (fun s c => by split <;> simp) _ _

@[simp] theorem withdrawScraper_chg (s : State) : (withdrawScraper s).chg = s.chg := by
  simp [withdrawScraper]

@[simp] theorem startReported_chg (s : State) : (startReported s).chg = s.chg := by
  unfold startReported
  split
  · exact withdrawScraper_chg s
  · rfl

@[simp] theorem noteFailure_chg (s : State) (r : Role) : (noteFailure s r).chg = s.chg := by
  unfold noteFailure
  split <;> rfl

@[simp] theorem dumpInService_chg (s : State) (c : Chan) : (dumpInService s c).chg = s.chg := rfl

@[simp] theorem endDemand_chg (s : State) : (endDemand s).chg = s.chg := by
  unfold endDemand
  split <;> rfl

@[simp] theorem enterSafeHeld_chg (s : State) : (enterSafeHeld s).chg = s.chg := by
  unfold enterSafeHeld
  split
  · exact endDemand_chg _
  · rfl
  · rfl
  · rfl

@[simp] theorem initialState_chg (s : State) (c : Chan) : (initialState s c).chg = s.chg := by
  have read : ∀ d, (stateFromReadings s c d).chg = s.chg := fun _ => by simp [stateFromReadings]
  unfold initialState startHold
  split
  · split
    · rw [putChan_chg, read]
    · exact read _
  · rfl

@[simp] theorem retargetAll_chg (s : State) : (retargetAll s).chg = s.chg := foldl_frame State.chg retarget (fun _ _ => rfl) _ _

@[simp] theorem testStrip_chg (s : State) (c : Chan) : (testStrip s c).chg = s.chg := by
  unfold testStrip
  dsimp only
  split <;> rfl

@[simp] theorem testAllStrips_chg (s : State) : (testAllStrips s).chg = s.chg := foldl_frame State.chg _ testStrip_chg _ _

theorem brk_congr {s t : State} (h : t.chg = s.chg) (b : Brk) : brk t b = brk s b := by
  cases b <;> simp [brk, h]

@[simp] theorem putSeq_brk (s : State) (q : Sequence) (b : Brk) : brk (putSeq s q) b = brk s b := by cases b <;> rfl

theorem recordEnd_brk (s : State) (r : Result) (n : Nat) (b : Brk) : brk (recordEnd s r n) b = brk s b := by
  unfold recordEnd
  split
  · rfl
  · cases b <;> rfl

/-! ### What leaves the fault banks alone -/

@[simp] theorem putChan_fltBanks (s : State) (c : Chan) (r : Channel) : (putChan s c r).flt = s.flt := rfl
@[simp] theorem putValve_flt (s : State) (c : Chan) (o : Out) : (putValve s c o).flt = s.flt := rfl
@[simp] theorem putSeq_flt (s : State) (q : Sequence) : (putSeq s q).flt = s.flt := rfl
@[simp] theorem setShed_flt (s : State) : (setShed s).flt = s.flt := rfl
@[simp] theorem putBrk_flt (s : State) (b : Brk) (r : Breaker) : (putBrk s b r).flt = s.flt := by cases b <;> rfl
@[simp] theorem closeBrk_flt (s : State) (b : Brk) : (closeBrk s b).flt = s.flt := by simp [closeBrk]
@[simp] theorem openBrk_flt (s : State) (b : Brk) : (openBrk s b).flt = s.flt := by
  unfold openBrk
  dsimp only
  split <;> simp
@[simp] theorem writeValve_flt (s : State) (c : Chan) (d : Nat) : (writeValve s c d).flt = s.flt := by
  rcases writeValve_cases s c d with h | ⟨a, -, h⟩ <;> rw [h]; rfl
@[simp] theorem ordinaryLower_flt (s : State) (c : Chan) : (ordinaryLower s c).flt = s.flt := by
  unfold ordinaryLower
  split <;> simp
@[simp] theorem lowerScraper_flt (s : State) : (lowerScraper s).flt = s.flt :=
  foldl_frame State.flt _ (fun s c => by split <;> simp) _ _
@[simp] theorem lowerAllFitted_flt (s : State) : (lowerAllFitted s).flt = s.flt :=
  foldl_frame State.flt _ (fun s c => by split <;> simp) _ _
@[simp] theorem startReported_flt (s : State) : (startReported s).flt = s.flt := by
  unfold startReported
  split <;> simp [withdrawScraper]
@[simp] theorem waitTest_flt (s : State) : (waitTest s).flt = s.flt := by
  unfold waitTest
  split
  · rfl
  · split
    · split
      · dsimp only
        split <;> rfl
      · rfl
    · rfl
@[simp] theorem enterWork_flt (st : Stage) (s : State) : (enterWork st s).flt = s.flt := by
  unfold enterWork
  split
  · rfl
  · cases st <;> dsimp only
    · rw [setShed_flt]; split <;> rfl
    · simp
    · split <;> simp
    · simp
    · simp
    · split <;> rfl
    · split <;> simp
@[simp] theorem enterStage_flt (st : Stage) (s : State) : (enterStage st s).flt = s.flt := by
  unfold enterStage
  split <;> simp
@[simp] theorem startSeq_flt (s : State) (k : SeqKind) (o : Origin) (t : Option Sys) (a : Option Awaited) (st : Stage) :
    (startSeq s k o t a st).flt = s.flt := by simp [startSeq]
@[simp] theorem recordEnd_flt (s : State) (r : Result) (n : Nat) : (recordEnd s r n).flt = s.flt := by
  unfold recordEnd
  split <;> rfl
@[simp] theorem cancelClose_flt (s : State) : (cancelClose s).flt = s.flt := by
  unfold cancelClose
  dsimp only
  split <;> split <;> simp
@[simp] theorem abortSeq_flt (s : State) (r : Reason) : (abortSeq s r).flt = s.flt := by
  unfold abortSeq
  split <;> simp
@[simp] theorem automaticStart_flt (s : State) : (automaticStart s).flt = s.flt := by
  unfold automaticStart
  split
  · split <;> simp
  · rfl
@[simp] theorem endSeq_flt (s : State) (r : Result) (n : Nat) : (endSeq s r n).flt = s.flt := by
  unfold endSeq
  split <;> simp
@[simp] theorem protectionOpen_flt (s : State) (b : Brk) : (protectionOpen s b).flt = s.flt := by
  unfold protectionOpen
  split <;> simp
@[simp] theorem failedSeq_flt (s : State) : (failedSeq s).flt = s.flt := by
  unfold failedSeq
  split
  · split <;> simp
  · rfl
@[simp] theorem collectorFailed_flt (s : State) : (collectorFailed s).flt = s.flt := by
  rw [collectorFailed_eq]
  split <;> simp
@[simp] theorem failInto_flt (s : State) (c : Chan) (x : ChanState) : (failInto s c x).flt = s.flt := by
  have noted : ∀ (u : State) r, (noteFailure u r).flt = u.flt := fun u r => by cases r <;> rfl
  unfold failInto failed
  dsimp only
  split <;> simp [noted]
@[simp] theorem protLower_flt (s : State) (c : Chan) : (protLower s c).flt = s.flt := by
  unfold protLower
  split <;> simp [dumpInService]
@[simp] theorem protLowerAll_flt (s : State) : (protLowerAll s).flt = s.flt :=
  foldl_frame State.flt _ (fun s c => by split <;> simp) _ _
@[simp] theorem roofSafeSeq_flt (s : State) : (roofSafeSeq s).flt = s.flt := by
  unfold roofSafeSeq
  dsimp only
  split <;> simp
@[simp] theorem enterSafeHeld_flt (s : State) : (enterSafeHeld s).flt = s.flt := by
  have ended : ∀ u : State, (endDemand u).flt = u.flt := fun u => by unfold endDemand; split <;> rfl
  unfold enterSafeHeld
  split
  · exact ended _
  · rfl
  · rfl
  · rfl
@[simp] theorem roofSafe_flt (s : State) : (roofSafe s).flt = s.flt := by simp [roofSafe]
@[simp] theorem takeAction_flt (s : State) (o : Offer) (m : Option Brk) : (takeAction s o m).flt = s.flt := by
  have opens : ∀ (u : State) b, (openAction u b).flt = u.flt := fun u b => by unfold openAction; split <;> simp
  unfold takeAction
  split
  · dsimp only
    split
    · rw [opens, protLower_flt]
    · exact protLower_flt _ _
  · exact opens _ _
  · simp [haltSeq]
  · split <;> simp [haltSeq]
  · rfl

/-- An offer writes the banks by its logging alone: its actions write none. -/
theorem offer_flt (s : State) (o : Offer) : (offer s o).flt = (logOffer s o.kind o.ctx).flt := by
  have acted : (if kindEnabled (bank s.flt (kindBank o.kind)) o.kind = true
      then takeAction (logOffer s o.kind o.ctx) o (madeBrk s) else logOffer s o.kind o.ctx).flt
      = (logOffer s o.kind o.ctx).flt := by
    split <;> simp
  unfold offer
  dsimp only
  split
  · rw [roofSafe_flt, acted]
  · exact acted

/-! ### Breakers are only opened -/

/-- The record of a breaker after an open (R106, R107). -/
def opened (r : Breaker) : Breaker :=
  if brkMade r then { r with state := .opening, closeCoil := false, holdCoil := false, opTime := 0 } else r

theorem opened_of_unmade {r : Breaker} (h : brkMade r = false) : opened r = r := by simp [opened, h]

theorem opened_of_made {r : Breaker} (h : brkMade r = true) :
    opened r = { r with state := .opening, closeCoil := false, holdCoil := false, opTime := 0 } := if_pos h

@[simp] theorem brkMade_opened (r : Breaker) : brkMade (opened r) = false := by
  unfold opened
  split
  · rfl
  · simp_all

@[simp] theorem opened_opened (r : Breaker) : opened (opened r) = opened r := opened_of_unmade (brkMade_opened r)

@[simp] theorem opened_feedback (r : Breaker) : (opened r).feedback = r.feedback := by
  unfold opened
  split <;> rfl

theorem openBrk_eq_opened (s : State) (b d : Brk) :
    brk (openBrk s b) d = if d = b then opened (brk s b) else brk s d := by
  rw [brk_openBrk]
  unfold opened
  by_cases h : d = b
  · subst h; simp
  · simp [h]

theorem openBoth_brk (s : State) (d : Brk) : brk (openBrk (openBrk s .bka) .bkd) d = opened (brk s d) := by
  cases d <;> simp [openBrk_eq_opened]

/-- From one state to another each breaker stands as it was, or has been opened. -/
def Opens (s t : State) : Prop := ∀ b, brk t b = brk s b ∨ brk t b = opened (brk s b)

theorem Opens.of_chg {s t : State} (h : t.chg = s.chg) : Opens s t := fun b => .inl (brk_congr h b)

theorem Opens.refl (s : State) : Opens s s := .of_chg rfl

theorem Opens.trans {s t u : State} (h : Opens s t) (g : Opens t u) : Opens s u := by
  intro b
  rcases h b with e | e <;> rcases g b with f | f <;> simp [e, f]

theorem Opens.of_unmade {s t : State} (h : Opens s t) {b : Brk} (u : brkMade (brk s b) = false) :
    brk t b = brk s b := by
  rcases h b with e | e
  · exact e
  · rw [e, opened_of_unmade u]

theorem Opens.feedback {s t : State} (h : Opens s t) (b : Brk) : (brk t b).feedback = (brk s b).feedback := by
  rcases h b with e | e <;> simp [e]

/-- Opened once more, the two states have the same breakers. -/
theorem Opens.opened {s t : State} (h : Opens s t) (b : Brk) : Machine.opened (brk t b) = Machine.opened (brk s b) := by
  rcases h b with e | e <;> simp [e]

theorem Opens.ite {s t u : State} {p : Prop} [Decidable p] (h : Opens s t) (g : Opens s u) :
    Opens s (if p then t else u) := by
  split
  · exact h
  · exact g

theorem Opens.foldl {α : Type} {f : State → α → State} (h : ∀ s x, Opens s (f s x)) (l : List α) (s : State) :
    Opens s (l.foldl f s) := by
  induction l generalizing s with
  | nil => exact .refl s
  | cons x xs ih => exact (h s x).trans (ih _)

theorem opens_openBrk (s : State) (b : Brk) : Opens s (openBrk s b) := by
  intro d
  rw [openBrk_eq_opened]
  split
  · subst_vars; exact .inr rfl
  · exact .inl rfl

theorem opens_abortSeq (s : State) (r : Reason) : Opens s (abortSeq s r) := by
  have ended : Opens s (recordEnd s (.aborted r) 0) := fun b => .inl (recordEnd_brk s _ _ b)
  have cancelled : ∀ u : State, Opens u (cancelClose u) := by
    intro u
    have first : Opens u (if u.chg.bka.state = .closing then openBrk u .bka else u) := .ite (opens_openBrk _ _) (.refl u)
    exact .ite (first.trans (opens_openBrk _ _)) first
  exact .ite (ended.trans (cancelled _)) (.refl s)

/-- The record with which a sequence starts (R117). -/
def freshSeq (s : State) (k : SeqKind) (o : Origin) (t : Option Sys) (a : Option Awaited) (st : Stage) : Sequence :=
  { kind := k, origin := o, target := t, fromSys := s.chg.inForce, awaited := a, stage := st, phase := none,
    lowerAll := k == .roofDown || k == .lowerPass, stageTime := 0, identifyTime := none, startTime := roofTime s,
    lowerSent := false, convTimerDone := false, exit := none }

/-- A start enters its first stage, ICE having been told (R117). -/
theorem startSeq_eq (s : State) (k : SeqKind) (o : Origin) (t : Option Sys) (a : Option Awaited) (st : Stage) :
    startSeq s k o t a st = enterWork st (startReported (putSeq s (freshSeq s k o t a st))) := by
  have running : (startReported (putSeq s (freshSeq s k o t a st))).chg.seq = some (freshSeq s k o t a st) := by
    rw [startReported_chg]
    rfl
  change enterStage st (startReported (putSeq s (freshSeq s k o t a st))) = _
  unfold enterStage
  rw [running]
  exact congrArg (enterWork st) (putSeq_self running)

/-- A start in the stage OPENING opens both breakers. -/
theorem startSeq_opening (s : State) (k : SeqKind) (o : Origin) (t : Option Sys) (a : Option Awaited) :
    startSeq s k o t a .opening
      = openBrk (openBrk (startReported (putSeq s (freshSeq s k o t a .opening))) .bka) .bkd := by
  rw [startSeq_eq]
  unfold enterWork
  rw [startReported_chg]
  rfl

theorem startSeq_opening_brk (s : State) (k : SeqKind) (o : Origin) (t : Option Sys) (a : Option Awaited) (b : Brk) :
    brk (startSeq s k o t a .opening) b = opened (brk s b) := by
  rw [startSeq_opening, openBoth_brk, brk_congr (startReported_chg _), putSeq_brk]

theorem opens_startSeq_opening (s : State) (k : SeqKind) (o : Origin) (t : Option Sys) (a : Option Awaited) :
    Opens s (startSeq s k o t a .opening) := fun b => .inr (startSeq_opening_brk s k o t a b)

theorem opens_protectionOpen (s : State) (b : Brk) : Opens s (protectionOpen s b) :=
  .ite (opens_openBrk s b) ((opens_abortSeq s _).trans (opens_startSeq_opening _ _ _ _ _))

theorem opens_failedSeq (s : State) : Opens s (failedSeq s) := by
  unfold failedSeq
  split
  · exact .ite (.refl s) (opens_abortSeq s _)
  · exact .refl s

theorem opens_collectorFailed (s : State) : Opens s (collectorFailed s) := by
  rw [collectorFailed_eq]
  split
  · exact (opens_failedSeq s).trans (opens_protectionOpen _ _)
  · exact opens_failedSeq s

theorem opens_failInto (s : State) (c : Chan) (x : ChanState) : Opens s (failInto s c x) := by
  have noted : Opens s (noteFailure (writeValve (putChan s c { inState (chan s c) x with dumpOn := true }) c 0)
      (chan s c).role) := .of_chg (by simp)
  exact .ite (noted.trans (opens_collectorFailed _)) noted

theorem opens_protLower (s : State) (c : Chan) : Opens s (protLower s c) := by
  unfold protLower
  split
  · exact opens_failInto s c _
  · exact opens_failInto s c _
  · exact .of_chg rfl
  · exact .of_chg rfl
  all_goals exact .refl s

theorem opens_protLowerAll (s : State) : Opens s (protLowerAll s) :=
  .foldl (fun s c => .ite (opens_protLower s c) (.refl s)) _ s

theorem opens_roofSafeSeq (s : State) : Opens s (roofSafeSeq s) :=
  .ite (opens_abortSeq s _) ((opens_abortSeq s _).trans (opens_startSeq_opening _ _ _ _ _))

theorem opens_roofSafe (s : State) : Opens s (roofSafe s) :=
  ((opens_roofSafeSeq s).trans (opens_protLowerAll _)).trans (.of_chg (enterSafeHeld_chg _))

theorem enterWork_shed_brk (s : State) (b : Brk) : brk (enterWork .shed s) b = brk s b := by
  unfold enterWork
  split
  · rfl
  · dsimp only
    rw [setShed_brk]
    split
    · exact putSeq_brk _ _ _
    · rfl

/-- An automatic start begins with SHED, which opens no breaker. -/
theorem opens_automaticStart (s : State) : Opens s (automaticStart s) := by
  refine .ite ?_ (.refl s)
  split
  · rename_i k t a _
    intro b
    rw [startSeq_eq, enterWork_shed_brk, brk_congr (startReported_chg _), putSeq_brk]
    exact .inl rfl
  · exact .refl s

theorem opens_endSeq (s : State) (r : Result) (n : Nat) : Opens s (endSeq s r n) := by
  have ended : Opens s (recordEnd s r n) := fun b => .inl (recordEnd_brk s r n b)
  exact .ite (ended.trans (opens_automaticStart _)) (.refl s)

theorem opens_takeAction (s : State) (o : Offer) (m : Option Brk) : Opens s (takeAction s o m) := by
  have action : ∀ (u : State) b, Opens u (openAction u b) := fun u b => .ite (opens_protectionOpen u b) (.refl u)
  unfold takeAction
  split
  · dsimp only
    split
    · exact (opens_protLower s _).trans (action _ _)
    · exact opens_protLower s _
  · exact action s _
  · exact opens_endSeq s _ _
  · exact .ite (opens_protectionOpen s _) (opens_endSeq s _ _)
  · exact .refl s

/-- Whatever an offer does, it closes no breaker and moves none but by an open. -/
theorem opens_offer (s : State) (o : Offer) : Opens s (offer s o) := by
  have logged : Opens s (logOffer s o.kind o.ctx) := .of_chg rfl
  have acted := Opens.ite (p := kindEnabled (bank s.flt (kindBank o.kind)) o.kind = true)
    (logged.trans (opens_takeAction _ o (madeBrk s))) logged
  exact .ite (acted.trans (opens_roofSafe _)) acted

/-! ### The records (R155, R156) -/

/-- The law of one bank's record (`RecordsHold`). -/
def RecordLaw (b : Bank) : Prop := ∀ r, b.record = some r →
  (r.corrupt = true → kindUncorrected r.kind = true) ∧ (kindCorrupt r.kind = true → r.corrupt = true)

theorem RecordsHold.bank {s : State} (h : RecordsHold s) (b : BankId) : RecordLaw (bank s.flt b) :=
  fun r e => ⟨h.uncorrected b r e, h.marked b r e⟩

/-- The record holds an uncorrected fault with roof_corrupt TRUE, which no offer replaces. -/
def CorruptStands (b : Bank) : Prop := ∃ r, b.record = some r ∧ r.corrupt = true ∧ kindUncorrected r.kind = true

theorem CorruptStands.corrupt {b : Bank} (h : CorruptStands b) : bankCorrupt b = true := by
  obtain ⟨r, e, c, -⟩ := h
  simp [bankCorrupt, e, c]

theorem anyCorrupt_of_bank {f : Flt} {b : BankId} (h : bankCorrupt (bank f b) = true) : anyCorrupt f = true := by
  simp only [anyCorrupt, allBanks, List.any_cons, List.any_nil, Bool.or_eq_true]
  cases b <;> simp [h]

@[simp] theorem countOffer_record (b : Bank) (k : FaultKind) : (countOffer b k).record = b.record := by
  unfold countOffer
  split <;> rfl

theorem bankOffer_record (b : Bank) (k : FaultKind) (c : Option Ctx) (t : BitVec 32) (p : Option Nat) :
    (bankOffer b k c t p).record =
      if reachesRecord b k then some (logRecord (countOffer b k) k c t p) else b.record := by
  unfold bankOffer
  dsimp only
  split
  · rfl
  · exact countOffer_record b k

/-- An offer to a bank whose record stands leaves it standing (Table 8-2). -/
theorem CorruptStands.bankOffer {b : Bank} (h : CorruptStands b) (k : FaultKind) (c : Option Ctx) (t : BitVec 32)
    (p : Option Nat) : CorruptStands (bankOffer b k c t p) := by
  obtain ⟨r, e, corrupt, uncorrected⟩ := h
  unfold CorruptStands
  rw [bankOffer_record]
  split
  · refine ⟨_, rfl, ?_⟩
    unfold logRecord
    rw [countOffer_record, e]
    dsimp only
    rw [if_neg (c := (!kindUncorrected r.kind) = true) (by simp [uncorrected])]
    split
    · exact ⟨corrupt, uncorrected⟩
    · split
      · exact ⟨corrupt, uncorrected⟩
      · exact ⟨rfl, uncorrected⟩
  · exact ⟨r, e, corrupt, uncorrected⟩

/-- An offer of a kind that is marked roof_corrupt leaves its bank's record corrupt (R155). -/
theorem corruptStands_of_marked {b : Bank} (h : RecordLaw b) {k : FaultKind} (marked : kindCorrupt k = true)
    (c : Option Ctx) (t : BitVec 32) (p : Option Nat) : CorruptStands (bankOffer b k c t p) := by
  have uncorrected : kindUncorrected k = true := by cases k <;> first | rfl | cases marked
  have reaches : reachesRecord b k = true := by cases k <;> first | rfl | cases marked
  unfold CorruptStands
  rw [bankOffer_record, if_pos reaches]
  refine ⟨_, rfl, ?_⟩
  unfold logRecord
  rw [countOffer_record]
  cases e : b.record with
  | none => exact ⟨marked, uncorrected⟩
  | some r =>
    obtain ⟨-, marks⟩ := h r e
    dsimp only
    rw [if_neg (by simp [uncorrected])]
    split
    · exact ⟨marked, uncorrected⟩
    · rename_i standing
      have stands : kindUncorrected r.kind = true := by simpa using standing
      split
      · rename_i same
        exact ⟨marks (by rw [same.1]; exact marked), stands⟩
      · exact ⟨rfl, stands⟩

theorem bank_logOffer (s : State) (k : FaultKind) (c : Option Ctx) (b : BankId) :
    bank (logOffer s k c).flt b = if b = kindBank k
      then bankOffer (bank s.flt (kindBank k)) k c (roofTime s) (stampPos s) else bank s.flt b :=
  bank_putBank _ _ _ _

theorem CorruptStands.logOffer {s : State} {b : BankId} (h : CorruptStands (bank s.flt b)) (k : FaultKind)
    (c : Option Ctx) : CorruptStands (bank (logOffer s k c).flt b) := by
  rw [bank_logOffer]
  split
  · subst_vars; exact h.bankOffer _ _ _ _
  · exact h

theorem CorruptStands.offer {s : State} {b : BankId} (h : CorruptStands (bank s.flt b)) (o : Offer) :
    CorruptStands (bank (offer s o).flt b) := by
  rw [offer_flt]
  exact h.logOffer _ _

end Sys2Proof.Machine
end

section
/-!
PROOFS. The end of STARTING (R179, R110, R170).
-/

namespace Sys2Proof.Machine

/-! ### The breakers' part -/

theorem startBrk_of_closed {s : State} {b : Brk} (h : (brk s b).feedback = true) :
    startBrk s b = offerBrk (putBrk s b (restBrk (brk s b) .failed)) .breakerOpenFail b := if_pos h

theorem startBrk_of_open {s : State} {b : Brk} (h : (brk s b).feedback = false) :
    startBrk s b = putBrk s b (restBrk (brk s b) .opened) := by simp [startBrk, h]

/-- A breaker at the end of STARTING is OPEN or FAILED, as its feedback shows (R110). -/
theorem startBrk_brk (s : State) (b : Brk) :
    brk (startBrk s b) b = restBrk (brk s b) (if (brk s b).feedback = true then .failed else .opened) := by
  cases h : (brk s b).feedback
  · rw [startBrk_of_open h, brk_putBrk_self]
    rfl
  · rw [startBrk_of_closed h, offerBrk, (opens_offer _ _).of_unmade, brk_putBrk_self]
    · rfl
    · rw [brk_putBrk_self]
      rfl

/-- The other breaker may be opened with it. -/
theorem startBrk_other (s : State) (b : Brk) :
    brk (startBrk s b) (otherBrk b) = brk s (otherBrk b) ∨
      brk (startBrk s b) (otherBrk b) = opened (brk s (otherBrk b)) := by
  cases h : (brk s b).feedback
  · rw [startBrk_of_open h, brk_putBrk_other]
    exact .inl rfl
  · rw [startBrk_of_closed h]
    have failed := opens_offer (putBrk s b (restBrk (brk s b) .failed)) ⟨.breakerOpenFail, some (.breaker b), false⟩
      (otherBrk b)
    rwa [brk_putBrk_other] at failed

theorem startBoth_bka (s : State) : brk (startBrk (startBrk s .bka) .bkd) .bka =
    restBrk s.chg.bka (if s.chg.bka.feedback = true then .failed else .opened) := by
  have first := startBrk_brk s .bka
  rcases startBrk_other (startBrk s .bka) .bkd with e | e
  · exact e.trans first
  · refine e.trans ?_
    rw [otherBrk, first]
    refine opened_of_unmade ?_
    split <;> rfl

theorem startBoth_bkd (s : State) : brk (startBrk (startBrk s .bka) .bkd) .bkd =
    restBrk (brk (startBrk s .bka) .bkd) (if s.chg.bkd.feedback = true then .failed else .opened) := by
  have feedback : (brk (startBrk s .bka) .bkd).feedback = s.chg.bkd.feedback := by
    rcases startBrk_other s .bka with e | e
    · exact congrArg Breaker.feedback e
    · exact (congrArg Breaker.feedback e).trans (opened_feedback _)
  rw [startBrk_brk, feedback]

theorem startBoth_state (s : State) (b : Brk) : (brk (startBrk (startBrk s .bka) .bkd) b).state =
    if (brk s b).feedback = true then .failed else .opened := by
  cases b
  · exact congrArg Breaker.state (startBoth_bka s)
  · exact congrArg Breaker.state (startBoth_bkd s)

theorem kept_startBrk (s : State) (b : Brk) : kept (startBrk s b) = kept s := by
  unfold startBrk
  split
  · rw [kept_offerBrk, calm_kept (calm_putBrk _ _ _)]
  · exact calm_kept (calm_putBrk _ _ _)

/-- An offer of a marked kind leaves its bank corrupt. -/
theorem corruptStands_offer_of_marked {s : State} {o : Offer} (h : RecordLaw (bank s.flt (kindBank o.kind)))
    (marked : kindCorrupt o.kind = true) : CorruptStands (bank (offer s o).flt (kindBank o.kind)) := by
  rw [offer_flt, bank_logOffer, if_pos rfl]
  exact corruptStands_of_marked h marked _ _ _

/-- A breaker that fails leaves the CHANGE record corrupt, where the records hold (R155). -/
theorem startBrk_corrupt {s : State} {b : Brk} (h : RecordLaw (bank s.flt .change))
    (closed : (brk s b).feedback = true) : CorruptStands (bank (startBrk s b).flt .change) := by
  have law : RecordLaw (bank (putBrk s b (restBrk (brk s b) .failed)).flt .change) := by
    rw [putBrk_flt]
    exact h
  rw [startBrk_of_closed closed]
  exact corruptStands_offer_of_marked (o := ⟨.breakerOpenFail, some (.breaker b), false⟩) law rfl

theorem CorruptStands.startBrk {s : State} {d : BankId} (h : CorruptStands (bank s.flt d)) (b : Brk) :
    CorruptStands (bank (startBrk s b).flt d) := by
  unfold Machine.startBrk
  split
  · exact CorruptStands.offer (by rw [putBrk_flt]; exact h) _
  · rw [putBrk_flt]
    exact h

theorem startBoth_corrupt {s : State} (h : RecordLaw (bank s.flt .change)) {b : Brk}
    (closed : (brk s b).feedback = true) :
    CorruptStands (bank (startBrk (startBrk s .bka) .bkd).flt .change) := by
  by_cases first : (brk s .bka).feedback = true
  · exact (startBrk_corrupt h first).startBrk _
  · cases b
    · exact absurd closed first
    · have skipped := startBrk_of_open (b := .bka) (Bool.not_eq_true _ ▸ first)
      refine startBrk_corrupt ?_ ?_
      · rw [skipped, putBrk_flt]
        exact h
      · rw [skipped]
        exact closed

/-! ### The channels' and the strips' part -/

theorem kept_offerDrops (s : State) : kept (offerDrops s) = kept s := kept_foldl _ (fun s c => kept_offerChan s _ c) _ _

theorem opens_offerDrops (s : State) : Opens s (offerDrops s) := .foldl (fun s _ => opens_offer s _) _ s

theorem CorruptStands.offerDrops {s : State} {d : BankId} (h : CorruptStands (bank s.flt d)) :
    CorruptStands (bank (offerDrops s).flt d) := by
  unfold Machine.offerDrops
  generalize initialDrops s = cs
  induction cs generalizing s with
  | nil => exact h
  | cons c cs ih => exact ih (h.offer _)

theorem CorruptStands.testStrip {s : State} {d : BankId} (h : CorruptStands (bank s.flt d)) (c : Chan) :
    CorruptStands (bank (testStrip s c).flt d) := by
  unfold Machine.testStrip
  dsimp only
  split
  · exact CorruptStands.logOffer (by exact h) _ _
  · exact h

/-- The channels' initial states, the force targets and the strips, which follow the offers (R179, log entry 17). -/
def startChannels (s : State) : State := testAllStrips (retargetAll (allChans.foldl initialState s))

theorem calm_startChannels (s : State) : calm (startChannels s) = calm s := by
  unfold startChannels
  rw [calm_testAllStrips, calm_retargetAll, calm_foldl _ calm_initialState]

theorem startChannels_chg (s : State) : (startChannels s).chg = s.chg := by
  unfold startChannels
  rw [testAllStrips_chg, retargetAll_chg, foldl_frame State.chg _ initialState_chg]

theorem initialState_flt (s : State) (c : Chan) : (initialState s c).flt = s.flt := by
  have read : ∀ d, (stateFromReadings s c d).flt = s.flt := fun _ => by simp [stateFromReadings]
  unfold initialState startHold
  split
  · split <;> exact read _
  · rfl

theorem CorruptStands.startChannels {s : State} {d : BankId} (h : CorruptStands (bank s.flt d)) :
    CorruptStands (bank (startChannels s).flt d) := by
  have targets : (retargetAll (allChans.foldl initialState s)).flt = s.flt := by
    unfold retargetAll
    rw [foldl_frame State.flt retarget (fun _ _ => rfl), foldl_frame State.flt _ initialState_flt]
  rw [← targets] at h
  exact (((h.testStrip .p1).testStrip .p2).testStrip .p3).testStrip .p4

/-! ### The whole -/

/-- The end of STARTING up to the slot state, in the order of log entry 17. -/
def startBlocks (s : State) : State :=
  startChannels (offerDrops (startBrk (startBrk (s.withPst { s.pst with live := true, load := .idle }) .bka) .bkd))

/-- What follows them: the slot state, identification, and last the roof state. -/
def startEnds (s : State) : State :=
  let s4 := s.withIce { s.ice with slot := if s.ros.auxok then .idle else .held }
  let s5 := (restartIdent s4).withRun 0
  s5.withRoof (if anyCorrupt s5.flt then .safeHeld else .ready)

theorem endStarting_eq (s : State) : endStarting s = startEnds (startBlocks s) := by
  unfold endStarting startEnds startBlocks startChannels
  rfl

theorem kept_startBlocks (s : State) :
    kept (startBlocks s) = kept (s.withPst { s.pst with live := true, load := .idle }) := by
  rw [startBlocks, calm_kept (calm_startChannels _), kept_offerDrops, kept_startBrk, kept_startBrk]

/-- What they leave alone, but for the loaded table that takes effect. -/
theorem startBlocks_frame (s : State) : (startBlocks s).pst = { s.pst with live := true, load := .idle } ∧
    (startBlocks s).held = s.held ∧ (startBlocks s).now = s.now ∧ (startBlocks s).smp.table = s.smp.table ∧
    (startBlocks s).ros.auxok = s.ros.auxok :=
  have h := kept_startBlocks s
  ⟨kept_pst h, (kept_held h).trans rfl, (kept_now h).trans rfl, (kept_table h).trans rfl, (kept_auxok h).trans rfl⟩

/-- The breakers stand as their own part left them: the offers that follow only open what is made. -/
theorem startBlocks_brk_state (s : State) (b : Brk) :
    (brk (startBlocks s) b).state = if (brk s b).feedback = true then .failed else .opened := by
  have started := startBoth_state (s.withPst { s.pst with live := true, load := .idle }) b
  have unmade : brkMade (brk (startBrk (startBrk (s.withPst { s.pst with live := true, load := .idle }) .bka) .bkd) b)
      = false := by
    unfold brkMade
    rw [started]
    split <;> rfl
  rw [startBlocks, brk_congr (startChannels_chg _), (opens_offerDrops _).of_unmade unmade, started]
  cases b <;> rfl

theorem startBlocks_corrupt {s : State} (h : RecordsHold s) {b : Brk} (closed : (brk s b).feedback = true) :
    anyCorrupt (startBlocks s).flt = true := by
  have failed : CorruptStands (bank (startBrk (startBrk
      (s.withPst { s.pst with live := true, load := .idle }) .bka) .bkd).flt .change) :=
    startBoth_corrupt (by exact h.bank .change) (b := b) (by cases b <;> exact closed)
  exact anyCorrupt_of_bank failed.offerDrops.startChannels.corrupt

/-- The end writes the slot state, the identifier, the time since STARTING and the roof state alone. -/
theorem startEnds_frame (s : State) : (startEnds s).pst = s.pst ∧ (startEnds s).held = s.held ∧
    (startEnds s).now = s.now ∧ (startEnds s).flt = s.flt ∧ (startEnds s).smp = s.smp ∧
    (∀ b, brk (startEnds s) b = brk s b) :=
  ⟨rfl, rfl, rfl, rfl, rfl, fun b => by cases b <;> rfl⟩

/-- Settles O30: `startBlocks` keeps what no protection touches, and each block's part gives its clause. -/
theorem startingEndsReadyOrSafeHeld : Obligations.StartingEndsReadyOrSafeHeld := by
  intro s _
  obtain ⟨loaded, held', now', table, auxok⟩ := startBlocks_frame s
  obtain ⟨pst, held, now, flt, smp, brks⟩ := startEnds_frame (startBlocks s)
  dsimp only
  rw [endStarting_eq]
  refine ⟨pst.trans loaded, rfl, held.trans held', now.trans now', rfl, rfl, rfl, rfl,
    (congrArg Smp.table smp).trans table, fun b => ?_, fun records b closed => ?_, ?_⟩
  · rw [brks, startBlocks_brk_state]
  · rw [flt]
    exact startBlocks_corrupt records closed
  · rw [← auxok]
    rfl

end Sys2Proof.Machine
end

section
/-!
PROOFS. ROOF SAFE and the protection OPEN (R130, R162, R163).
-/

namespace Sys2Proof.Machine

/-! ### An open, beside its breaker -/

/-- An open writes the breaker's record and shed_request alone. -/
theorem openBrk_frame (s : State) (b : Brk) : (openBrk s b).chg.seq = s.chg.seq ∧
    (openBrk s b).chg.ended = s.chg.ended ∧ (openBrk s b).pcu = s.pcu := by
  unfold openBrk
  dsimp only
  split
  · cases b <;> exact ⟨rfl, rfl, rfl⟩
  · exact ⟨rfl, rfl, rfl⟩

@[simp] theorem openBrk_seq (s : State) (b : Brk) : (openBrk s b).chg.seq = s.chg.seq := (openBrk_frame s b).1
@[simp] theorem openBrk_ended (s : State) (b : Brk) : (openBrk s b).chg.ended = s.chg.ended := (openBrk_frame s b).2.1
@[simp] theorem openBrk_pcu (s : State) (b : Brk) : (openBrk s b).pcu = s.pcu := (openBrk_frame s b).2.2

/-- A breaker that is made, or SHED, in the one state is so in the other: none is opened without SHED (R82, R107). -/
def Sheds (s t : State) : Prop :=
  ∀ b, brkMade (brk s b) = true ∨ s.chg.shed = true → brkMade (brk t b) = true ∨ t.chg.shed = true

theorem Sheds.refl (s : State) : Sheds s s := fun _ h => h

theorem Sheds.trans {s t u : State} (h : Sheds s t) (g : Sheds t u) : Sheds s u := fun b x => g b (h b x)

theorem Sheds.of_same {s t : State} (hb : ∀ b, brk t b = brk s b) (hs : t.chg.shed = s.chg.shed) : Sheds s t :=
  fun b h => by rwa [hb, hs]

theorem Sheds.ite {s t u : State} {p : Prop} [Decidable p] (h : Sheds s t) (g : Sheds s u) :
    Sheds s (if p then t else u) := by
  split
  · exact h
  · exact g

theorem sheds_openBrk (s : State) (b : Brk) : Sheds s (openBrk s b) := by
  unfold openBrk
  dsimp only
  split
  · exact fun _ _ => .inr rfl
  · exact .refl s

/-! ### Aborts and starts -/

theorem cancelClose_frame (s : State) : (cancelClose s).chg.seq = s.chg.seq ∧
    (cancelClose s).chg.ended = s.chg.ended ∧ (cancelClose s).pcu = s.pcu := by
  unfold cancelClose
  dsimp only
  split <;> split <;> simp

/-- An abort leaves the channels as they were. -/
theorem abortSeq_pcu (s : State) (r : Reason) : (abortSeq s r).pcu = s.pcu := by
  unfold abortSeq
  split
  · rw [(cancelClose_frame _).2.2]
    unfold recordEnd
    split <;> rfl
  · rfl

/-- The sequence that an abort ends heads the outcome list (R116). -/
theorem abortSeq_ended {s : State} {q : Sequence} (h : s.chg.seq = some q) (r : Reason) :
    (abortSeq s r).chg.ended.head? = some ⟨q.kind, q.origin, q.target, .aborted r, q.stage, 0, roofTime s⟩ := by
  unfold abortSeq recordEnd
  rw [h]
  exact congrArg List.head? (cancelClose_frame _).2.1

theorem recordEnd_shed (s : State) (r : Result) (n : Nat) : (recordEnd s r n).chg.shed = s.chg.shed := by
  unfold recordEnd
  split <;> rfl

theorem sheds_abortSeq (s : State) (r : Reason) : Sheds s (abortSeq s r) := by
  have ended : Sheds s (recordEnd s (.aborted r) 0) := .of_same (recordEnd_brk s _ _) (recordEnd_shed s _ _)
  have cancelled : ∀ u : State, Sheds u (cancelClose u) := by
    intro u
    have first : Sheds u (if u.chg.bka.state = .closing then openBrk u .bka else u) := .ite (sheds_openBrk _ _) (.refl u)
    exact .ite (first.trans (sheds_openBrk _ _)) first
  exact .ite (ended.trans (cancelled _)) (.refl s)

section Start
variable (s : State) (k : SeqKind) (o : Origin) (t : Option Sys) (a : Option Awaited)

theorem startSeq_opening_seq :
    (startSeq s k o t a .opening).chg.seq = some (freshSeq s k o t a .opening) := by
  rw [startSeq_opening, openBrk_seq, openBrk_seq, startReported_chg]
  rfl

theorem startSeq_opening_ended : (startSeq s k o t a .opening).chg.ended = s.chg.ended := by
  rw [startSeq_opening, openBrk_ended, openBrk_ended, startReported_chg]
  rfl

theorem startSeq_opening_pcu :
    (startSeq s k o t a .opening).pcu = (startReported (putSeq s (freshSeq s k o t a .opening))).pcu := by
  rw [startSeq_opening, openBrk_pcu, openBrk_pcu]

theorem sheds_startSeq_opening : Sheds s (startSeq s k o t a .opening) := by
  have reported : Sheds s (startReported (putSeq s (freshSeq s k o t a .opening))) :=
    .of_same (fun b => by rw [brk_congr (startReported_chg _), putSeq_brk]) (by rw [startReported_chg]; rfl)
  rw [startSeq_opening]
  exact (reported.trans (sheds_openBrk _ _)).trans (sheds_openBrk _ _)

end Start

/-! ### Channels lowered -/

/-- A channel after an ordinary lower (R31). -/
def lowered (r : Channel) : Channel := if raised r then { inState r .lowering with dumpOn := false } else r

theorem ordinaryLower_chan (s : State) (c d : Chan) :
    chan (ordinaryLower s c) d = if d = c then lowered (chan s c) else chan s d := by
  unfold ordinaryLower lowered
  split
  · rw [writeValve_chan, chan_putChan]
  · split
    · subst_vars; rfl
    · rfl

theorem lowered_of_raised {r : Channel} (h : raised r = true) :
    lowered r = { inState r .lowering with dumpOn := false } := if_pos h

theorem raised_lowered (r : Channel) : raised (lowered r) = false := by
  unfold lowered
  split
  · rfl
  · simp_all

theorem lowered_lowered (r : Channel) : lowered (lowered r) = lowered r :=
  if_neg (by simp [raised_lowered])

theorem lowerScraper_chan (s : State) (d : Chan) :
    chan (lowerScraper s) d = chan s d ∨ chan (lowerScraper s) d = lowered (chan s d) := by
  unfold lowerScraper
  generalize allChans = cs
  induction cs generalizing s with
  | nil => exact .inl rfl
  | cons c cs ih =>
    have first : chan (if isScraper s c then ordinaryLower s c else s) d = chan s d ∨
        chan (if isScraper s c then ordinaryLower s c else s) d = lowered (chan s d) := by
      split
      · rw [ordinaryLower_chan]
        split
        · subst_vars; exact .inr rfl
        · exact .inl rfl
      · exact .inl rfl
    rw [List.foldl_cons]
    rcases ih (if isScraper s c then ordinaryLower s c else s) with e | e <;> rcases first with f | f <;>
      simp [e, f, lowered_lowered]

theorem chan_congr {s t : State} (h : t.pcu = s.pcu) (c : Chan) : chan t c = chan s c := by simp [chan, h]

theorem withdrawScraper_chan (s : State) (d : Chan) :
    chan (withdrawScraper s) d = chan s d ∨ chan (withdrawScraper s) d = lowered (chan s d) := by
  have down := lowerScraper_chan (s.withIce { s.ice with scraperRequest := false }) d
  have same : chan (s.withIce { s.ice with scraperRequest := false }) d = chan s d := rfl
  rw [same] at down
  unfold withdrawScraper
  dsimp only
  generalize lowerScraper (s.withIce { s.ice with scraperRequest := false }) = u at down ⊢
  exact down

/-- A start may withdraw the scraper request, which lowers the SCRAPER (R117, R149). -/
theorem startReported_chan (s : State) (d : Chan) :
    chan (startReported s) d = chan s d ∨ chan (startReported s) d = lowered (chan s d) := by
  unfold startReported
  split
  · exact withdrawScraper_chan s d
  · exact .inl rfl

/-! ### Protection lowers while an OPEN runs -/

/-- An OPEN runs and no breaker is made: a collector's failure finds nothing to abort or to open. -/
structure OpenRuns (s : State) : Prop where
  unmade : ∀ b, brkMade (brk s b) = false
  running : ∃ q, s.chg.seq = some q ∧ q.kind = .open

theorem OpenRuns.of_chg {s t : State} (h : OpenRuns s) (e : t.chg = s.chg) : OpenRuns t :=
  ⟨fun b => by rw [brk_congr e]; exact h.unmade b, by rw [e]; exact h.running⟩

theorem OpenRuns.collectorFailed {s : State} (h : OpenRuns s) : collectorFailed s = s := by
  obtain ⟨q, hq, open_⟩ := h.running
  have none : madeBrk s = none := by
    have a := h.unmade .bka
    have d := h.unmade .bkd
    simp only [brk] at a d
    simp [madeBrk, a, d]
  rw [collectorFailed_eq, none]
  unfold failedSeq
  rw [hq]
  exact if_pos (.inl open_)

/-- A channel after a protection lower (Table 2-5). -/
def protLowered (r : Channel) : Channel :=
  if raised r then { inState r .lowering with dumpOn := true }
  else if r.state = .lowering ∨ r.state = .service then { r with dumpOn := true }
  else r

theorem protLowered_of_raised {r : Channel} (h : raised r = true) :
    protLowered r = { inState r .lowering with dumpOn := true } := if_pos h

theorem protLowered_of_coming_down {r : Channel} (h : r.state = .lowering ∨ r.state = .service) :
    protLowered r = { r with dumpOn := true } := by
  have low : raised r = false := by rcases h with h | h <;> simp [raised, h]
  simp [protLowered, low, h]

theorem protLowered_of_other {r : Channel} (h : raised r = false) (other : r.state ≠ .lowering ∧ r.state ≠ .service) :
    protLowered r = r := by
  simp [protLowered, h, other]

@[simp] theorem raised_protLowered (r : Channel) : raised (protLowered r) = false := by
  unfold protLowered
  split
  · rfl
  · split <;> simp_all [raised]

/-- Whether or not an ordinary lower came before it, a protection lower leaves a raised channel in LOWERING with its dump
on. -/
theorem protLowered_ends_lowering {r x : Channel} (h : raised r = true) (hx : x = r ∨ x = lowered r) :
    (protLowered x).state = .lowering ∧ (protLowered x).dumpOn = true := by
  rcases hx with rfl | rfl
  · rw [protLowered_of_raised h]
    exact ⟨rfl, rfl⟩
  · rw [lowered_of_raised h, protLowered_of_coming_down (.inl rfl)]
    exact ⟨rfl, rfl⟩

theorem noteFailure_chan (s : State) (r : Role) (d : Chan) : chan (noteFailure s r) d = chan s d := by
  cases r <;> rfl

theorem OpenRuns.failInto {s : State} (h : OpenRuns s) (c : Chan) (x : ChanState) :
    (failInto s c x).chg = s.chg ∧ ∀ d, chan (failInto s c x) d =
      if d = c then { inState (chan s c) x with dumpOn := true } else chan s d := by
  have noted : ∀ r, (noteFailure (writeValve (putChan s c { inState (chan s c) x with dumpOn := true }) c 0) r).chg
      = s.chg := fun r => by rw [noteFailure_chg, writeValve_chg, putChan_chg]
  have same : Machine.failInto s c x = noteFailure (writeValve (putChan s c { inState (chan s c) x with dumpOn := true })
      c 0) (chan s c).role := by
    unfold Machine.failInto failed
    dsimp only
    split
    · exact (h.of_chg (noted _)).collectorFailed
    · rfl
  rw [same]
  exact ⟨noted _, fun d => by rw [noteFailure_chan, writeValve_chan, chan_putChan]⟩

theorem OpenRuns.protLower {s : State} (h : OpenRuns s) (c : Chan) :
    (protLower s c).chg = s.chg ∧ ∀ d, chan (protLower s c) d = if d = c then protLowered (chan s c) else chan s d := by
  have failing : raised (chan s c) = true → (Machine.failInto s c .lowering).chg = s.chg ∧
      ∀ d, chan (Machine.failInto s c .lowering) d = if d = c then protLowered (chan s c) else chan s d := fun up => by
    rw [protLowered_of_raised up]
    exact h.failInto c _
  have resting : raised (chan s c) = false → (chan s c).state ≠ .lowering ∧ (chan s c).state ≠ .service →
      ∀ d, chan s d = if d = c then protLowered (chan s c) else chan s d := fun low other d => by
    rw [protLowered_of_other low other]
    split
    · subst_vars; rfl
    · rfl
  unfold Machine.protLower
  split
  · exact failing (by simp [raised, ‹(chan s c).state = _›])
  · exact failing (by simp [raised, ‹(chan s c).state = _›])
  · rw [protLowered_of_coming_down (.inl ‹_›)]
    exact ⟨rfl, fun d => chan_putChan _ _ _ _⟩
  · rw [protLowered_of_coming_down (.inr ‹_›)]
    exact ⟨rfl, fun d => chan_putChan _ _ _ _⟩
  all_goals
    rename_i state
    exact ⟨rfl, resting (by simp [raised, state]) (by simp [state])⟩

theorem kept_fitted {s t : State} (h : kept t = kept s) (c : Chan) : fitted t c = fitted s c := by
  unfold fitted chanClass
  rw [kept_eff h]

/-- ROOF SAFE's protection lower while an OPEN runs: every fitted channel by itself, and nothing at the sequencer. -/
theorem OpenRuns.protLowerAll {s : State} (h : OpenRuns s) : (protLowerAll s).chg = s.chg ∧
    ∀ d, chan (protLowerAll s) d = if fitted s d then protLowered (chan s d) else chan s d := by
  have fold : ∀ (cs : List Chan) (u : State), cs.Nodup → OpenRuns u →
      (cs.foldl (fun s c => if fitted s c then Machine.protLower s c else s) u).chg = u.chg ∧
      ∀ d, chan (cs.foldl (fun s c => if fitted s c then Machine.protLower s c else s) u) d =
        if d ∈ cs ∧ fitted u d = true then protLowered (chan u d) else chan u d := by
    intro cs
    induction cs with
    | nil => exact fun u _ _ => ⟨rfl, fun d => by simp⟩
    | cons c cs ih =>
      intro u distinct runs
      obtain ⟨fresh, rest⟩ := List.nodup_cons.mp distinct
      have here : (if fitted u c then Machine.protLower u c else u).chg = u.chg ∧
          ∀ d, chan (if fitted u c then Machine.protLower u c else u) d =
            if d = c ∧ fitted u d = true then protLowered (chan u d) else chan u d := by
        split
        · rename_i fits
          refine ⟨(runs.protLower c).1, fun d => ?_⟩
          rw [(runs.protLower c).2]
          by_cases e : d = c
          · subst e; simp [fits]
          · simp [e]
        · rename_i absent
          refine ⟨rfl, fun d => ?_⟩
          rw [if_neg]
          rintro ⟨rfl, fits⟩
          exact absent fits
      have classes : ∀ d, fitted (if fitted u c then Machine.protLower u c else u) d = fitted u d := fun d =>
        kept_fitted (by split <;> simp [calm_kept (calm_protLower u c)]) d
      obtain ⟨chg, chans⟩ := ih _ rest (runs.of_chg here.1)
      rw [List.foldl_cons]
      refine ⟨chg.trans here.1, fun d => ?_⟩
      rw [chans, here.2, classes]
      by_cases e : d = c
      · subst e; simp [fresh]
      · simp [e]
  obtain ⟨chg, chans⟩ := fold allChans s (by decide) h
  exact ⟨chg, fun d => (chans d).trans (by simp)⟩

/-! ### ROOF SAFE (R130, R162, R163) -/

/-- CHG's part outside STARTING: an abort, and an OPEN of origin PROTECTION. -/
theorem roofSafeSeq_eq {s : State} (h : s.roofState ≠ .starting) :
    roofSafeSeq s = startSeq (abortSeq s .roofSafe) .open .protection none none .opening := if_neg h

/-- The breakers, the sequence and the channels at an abort that an OPEN follows, and that OPEN's own record. -/
theorem abortThenOpen_brk (s : State) (r : Reason) (b : Brk) :
    brk (startSeq (abortSeq s r) .open .protection none none .opening) b = opened (brk s b) := by
  rw [startSeq_opening_brk, (opens_abortSeq s r).opened]

theorem abortThenOpen_seq (s : State) (r : Reason) :
    ((startSeq (abortSeq s r) .open .protection none none .opening).chg.seq.map fun q => (q.kind, q.origin, q.stage))
      = some (.open, .protection, .opening) := by
  rw [startSeq_opening_seq]
  rfl

theorem abortThenOpen_ended {s : State} {q : Sequence} (h : s.chg.seq = some q) (r : Reason) :
    (startSeq (abortSeq s r) .open .protection none none .opening).chg.ended.head?
      = some ⟨q.kind, q.origin, q.target, .aborted r, q.stage, 0, roofTime s⟩ := by
  rw [startSeq_opening_ended, abortSeq_ended h]

theorem abortThenOpen_chan (s : State) (r : Reason) (c : Chan) :
    chan (startSeq (abortSeq s r) .open .protection none none .opening) c = chan s c ∨
      chan (startSeq (abortSeq s r) .open .protection none none .opening) c = lowered (chan s c) := by
  have same : chan (putSeq (abortSeq s r) (freshSeq (abortSeq s r) .open .protection none none .opening)) c = chan s c :=
    chan_congr (abortSeq_pcu s r) c
  rw [chan_congr (startSeq_opening_pcu _ _ _ _ _), ← same]
  exact startReported_chan _ c

theorem openRuns_abortThenOpen (s : State) (r : Reason) :
    OpenRuns (startSeq (abortSeq s r) .open .protection none none .opening) where
  unmade b := by rw [abortThenOpen_brk, brkMade_opened]
  running := ⟨_, startSeq_opening_seq _ _ _ _ _, rfl⟩

theorem enterSafeHeld_chan (s : State) (c : Chan) : chan (enterSafeHeld s) c = chan s c := by
  have demand : ∀ u : State, chan (endDemand u) c = chan u c := fun u => by
    unfold endDemand
    split <;> rfl
  unfold enterSafeHeld
  split
  · exact demand _
  · rfl
  · rfl
  · rfl

/-- ROOF SAFE outside STARTING, at the sequencer and at the channels. -/
theorem roofSafe_chg {s : State} (h : s.roofState ≠ .starting) :
    (roofSafe s).chg = (startSeq (abortSeq s .roofSafe) .open .protection none none .opening).chg := by
  rw [roofSafe, enterSafeHeld_chg, roofSafeSeq_eq h, (openRuns_abortThenOpen s _).protLowerAll.1]

theorem roofSafe_chan {s : State} (h : s.roofState ≠ .starting) (c : Chan) :
    ∃ x, (x = chan s c ∨ x = lowered (chan s c)) ∧
      chan (roofSafe s) c = if fitted s c then protLowered x else x := by
  refine ⟨_, abortThenOpen_chan s .roofSafe c, ?_⟩
  have classes : fitted (startSeq (abortSeq s .roofSafe) .open .protection none none .opening) c = fitted s c :=
    kept_fitted (calm_kept (by rw [calm_startSeq, calm_abortSeq])) c
  rw [roofSafe, enterSafeHeld_chan, roofSafeSeq_eq h, (openRuns_abortThenOpen s _).protLowerAll.2, classes]

theorem calm_beforeSafeHeld (s : State) : calm (protLowerAll (roofSafeSeq s)) = calm s := by
  rw [calm_protLowerAll, calm_roofSafeSeq]

/-- The entry to SAFE_HELD from READY ends the demand; from CHECK it ends the sense check (R163, R21). -/
theorem enterSafeHeld_of_ready {s : State} (h : s.roofState = .ready) : (enterSafeHeld s).roofState = .safeHeld ∧
    (enterSafeHeld s).cau.demand = none ∧ (enterSafeHeld s).pcu.collectorHold = false := by
  unfold enterSafeHeld
  rw [h]
  dsimp only
  rw [endDemand_eq]
  exact ⟨rfl, rfl, rfl⟩

theorem enterSafeHeld_of_check {s : State} (h : s.roofState = .check) : (enterSafeHeld s).roofState = .safeHeld ∧
    (enterSafeHeld s).lsi.measured = .none ∧ (enterSafeHeld s).lsi.checkResult ≠ .pending := by
  unfold enterSafeHeld
  rw [h]
  dsimp only
  rw [leaveCheck_eq]
  refine ⟨rfl, rfl, ?_⟩
  simp only [State.withLsi_lsi, State.withRoof_lsi]
  by_cases pending : s.lsi.checkResult = .pending <;> simp [pending]

/-- An offer of a kind whose action is ROOF SAFE is logged and calls it, once (R162). -/
theorem offer_of_roofSafe {k : FaultKind} (h : kindAction k = .roofSafe) (s : State) (ctx : Option Ctx) :
    offer s ⟨k, ctx, false⟩ = roofSafe (logOffer s k ctx) := by
  have quiet : ∀ (u : State) m, takeAction u ⟨k, ctx, false⟩ m = u := fun u m => by
    unfold takeAction
    rw [h]
  unfold offer callsRoofSafe
  dsimp only
  rw [h, quiet]
  simp

/-! ### The protection OPEN (R130) -/

theorem protectionOpen_of_joins {s : State} (h : joins s = true) (b : Brk) : protectionOpen s b = openBrk s b := if_pos h

theorem protectionOpen_of_not_joins {s : State} (h : joins s = false) (b : Brk) : protectionOpen s b =
    startSeq (abortSeq s .protection) .open .protection none none .opening := if_neg (by simp [h])

/-- The breaker that a protection OPEN names ends opened. -/
theorem protectionOpen_brk (s : State) (b : Brk) : brk (protectionOpen s b) b = opened (brk s b) := by
  cases h : joins s
  · rw [protectionOpen_of_not_joins h, abortThenOpen_brk]
  · rw [protectionOpen_of_joins h, openBrk_eq_opened, if_pos rfl]

theorem sheds_protectionOpen (s : State) (b : Brk) : Sheds s (protectionOpen s b) :=
  .ite (sheds_openBrk s b) ((sheds_abortSeq s _).trans (sheds_startSeq_opening _ _ _ _ _))

/-- Settles O48: an abort and an OPEN, during which each channel is lowered by itself, and the entry to SAFE_HELD. -/
theorem roofSafeAndProtectionOpen : Obligations.RoofSafeAndProtectionOpen := by
  refine ⟨⟨fun s up => ?_, fun s k h ctx => offer_of_roofSafe h s ctx⟩, fun s b made => ?_⟩
  · have running : s.roofState ≠ .starting := by rcases up with h | h <;> simp [h]
    have roof := calm_roofState (calm_beforeSafeHeld s)
    have chg := roofSafe_chg running
    dsimp only
    refine ⟨?_, fun ready => ?_, fun check => ?_, fun b => ?_, fun c fits => ?_, fun c fits high => ?_, ?_,
      fun q hq => ?_⟩
    · rcases up with h | h
      · exact (enterSafeHeld_of_ready (roof.trans h)).1
      · exact (enterSafeHeld_of_check (roof.trans h)).1
    · exact (enterSafeHeld_of_ready (roof.trans ready)).2
    · exact (enterSafeHeld_of_check (roof.trans check)).2
    · rw [brk_congr chg, abortThenOpen_brk]
      cases made : brkMade (brk s b)
      · rw [opened_of_unmade made]
        exact .inl ⟨rfl, rfl, rfl⟩
      · rw [opened_of_made made]
        exact .inr ⟨rfl, rfl, rfl⟩
    · obtain ⟨x, -, e⟩ := roofSafe_chan running c
      rw [e, if_pos fits, raised_protLowered]
    · obtain ⟨x, hx, e⟩ := roofSafe_chan running c
      rw [e, if_pos fits]
      exact protLowered_ends_lowering high hx
    · rw [chg, abortThenOpen_seq]
    · rw [chg, abortThenOpen_ended hq]
  · have record := protectionOpen_brk s b
    rw [opened_of_made made] at record
    have unmade : brkMade (brk (protectionOpen s b) b) ≠ true := by
      rw [record]
      simp [brkMade]
    dsimp only
    refine ⟨by rw [record], by rw [record], by rw [record],
      (sheds_protectionOpen s b b (.inl made)).resolve_left unmade, fun h => ?_, fun h => ⟨?_, fun d => ?_, fun q hq => ?_⟩⟩
    · rw [protectionOpen_of_joins h]
      exact ⟨openBrk_seq s b, openBrk_ended s b⟩
    · rw [protectionOpen_of_not_joins h, abortThenOpen_seq]
    · rw [protectionOpen_of_not_joins h, abortThenOpen_brk, brkMade_opened]
    · rw [protectionOpen_of_not_joins h, abortThenOpen_ended hq]

end Sys2Proof.Machine
end

section
/-!
PROOFS. What every command's own effect keeps before its event settles: no channel starts to rise, roles and requests are
only given up, the bounds of the records stand, and the classes stay apart. Three grades of it, from one state to another:
`Sinks` says nothing of the classes, `Tame` keeps them apart, and `Eases` also engages no channel.
-/

namespace Sys2Proof.Machine

/-! ### A channel and its valve -/

/-- Away from rest, of the record alone (chapter 2.1). -/
def away (r : Channel) : Bool := r.state != .lowered && r.state != .lockedOut

/-- In SERVICE, or being taken (R58). -/
def served (r : Channel) (o : Out) : Bool := r.state == .service || o.handover == .toService

/-- The valve is the Service Tool's, or on its way back to the loop (R58, R60). -/
def tooled (o : Out) : Bool := o.owner == .service || o.handover == .toLoop

/-- LOWERED, with its valve the loop's: how STARTING finds every channel (R45, R65). -/
def resting (r : Channel) (o : Out) : Prop := r.state = .lowered ∧ o.owner = .loop ∧ o.handover = .none

theorem awayFromRest_eq (s : State) (c : Chan) : awayFromRest s c = away (chan s c) := rfl
theorem inService_eq (s : State) (c : Chan) : inService s c = served (chan s c) (valve s c) := rfl
theorem engaged_eq (s : State) (c : Chan) : engaged s c = (raised (chan s c) || served (chan s c) (valve s c)) := rfl

theorem tooled_iff (o : Out) : tooled o = true ↔ o.owner = .service ∨ o.handover = .toLoop := by simp [tooled]

theorem away_of_raised {r : Channel} (h : raised r = true) : away r = true := by
  unfold raised at h
  unfold away
  cases e : r.state <;> simp_all

theorem resting_iff (r : Channel) (o : Out) :
    resting r o ↔ (r.state = .lowered ∧ tooled o = false ∧ o.handover ≠ .toService) := by
  unfold resting tooled
  cases o.owner <;> cases o.handover <;> simp

/-! ### The laws -/

/-- The winter layers hold only parameters that R186 lets them carry. -/
def WinterCarried (p : Pst) : Prop := ∀ x ∈ p.winter ++ p.winterHeld, winterCarries x.1 = true

/-- `ClassesHold` without the roles and the clause of the SCRAPER, which the end of the event restores (R38). -/
structure ClassesApart (s : State) : Prop where
  held : HeldLaw s
  starting : s.roofState = .starting → ∀ c, resting (chan s c) (valve s c)
  fitted : ∀ c, raised (chan s c) = true → fitted s c = true
  service : ∀ c, tooled (valve s c) = true → (chan s c).state = .service
  winter : WinterCarried s.pst
  classes : ∀ c d, Machine.fitted s c = true → Machine.fitted s d = true → chanClass s c ≠ chanClass s d →
    engaged s c = true → (away (chan s d) || served (chan s d) (valve s d)) = false

/-- No channel is engaged, and no valve is with the Service Tool. -/
def Still (s : State) : Prop := ∀ c, engaged s c = false ∧ tooled (valve s c) = false

/-- From one state to another no channel starts to rise, no role is given and no scraper request set, and the records keep
their bounds. -/
structure Sinks (s t : State) : Prop where
  rise : ∀ c, (chan t c).state = .raising → (chan s c).state = .raising
  role : ∀ c, (chan t c).role = .none ∨ (chan t c).role = (chan s c).role
  request : t.ice.scraperRequest = true → s.ice.scraperRequest = true
  outcomes : OutcomesHold s → OutcomesHold t
  ice : IceHolds s → IceHolds t
  position : PositionHolds s → PositionHolds t
  channels : ChannelsHold s → ChannelsHold t

/-- And the classes stay apart. -/
structure Tame (s t : State) : Prop extends Sinks s t where
  apart : ClassesApart s → ClassesApart t

/-- And where no channel is engaged none becomes so. -/
structure Lulls (s t : State) : Prop extends Sinks s t where
  still : Still s → Still t
  held : t.held = s.held
  starting : t.roofState = .starting ↔ s.roofState = .starting

/-- Both. -/
structure Eases (s t : State) : Prop extends Lulls s t where
  apart : ClassesApart s → ClassesApart t

theorem Eases.tame {s t : State} (h : Eases s t) : Tame s t := ⟨h.toSinks, h.apart⟩

theorem Sinks.refl (s : State) : Sinks s s := ⟨fun _ => id, fun _ => .inr rfl, id, id, id, id, id⟩
theorem Tame.refl (s : State) : Tame s s := ⟨.refl s, id⟩
theorem Lulls.refl (s : State) : Lulls s s := ⟨.refl s, id, rfl, Iff.rfl⟩
theorem Eases.refl (s : State) : Eases s s := ⟨.refl s, id⟩

theorem Sinks.trans {s t u : State} (h : Sinks s t) (g : Sinks t u) : Sinks s u where
  rise c := h.rise c ∘ g.rise c
  role c := (g.role c).elim .inl fun e => (h.role c).imp (e.trans ·) (e.trans ·)
  request := h.request ∘ g.request
  outcomes := g.outcomes ∘ h.outcomes
  ice := g.ice ∘ h.ice
  position := g.position ∘ h.position
  channels := g.channels ∘ h.channels

theorem Tame.trans {s t u : State} (h : Tame s t) (g : Tame t u) : Tame s u :=
  ⟨h.toSinks.trans g.toSinks, g.apart ∘ h.apart⟩

theorem Lulls.trans {s t u : State} (h : Lulls s t) (g : Lulls t u) : Lulls s u :=
  ⟨h.toSinks.trans g.toSinks, g.still ∘ h.still, g.held.trans h.held, g.starting.trans h.starting⟩

theorem Eases.trans {s t u : State} (h : Eases s t) (g : Eases t u) : Eases s u :=
  ⟨h.toLulls.trans g.toLulls, g.apart ∘ h.apart⟩

theorem Tame.ite {s t u : State} {p : Prop} [Decidable p] (h : p → Tame s t) (g : ¬ p → Tame s u) :
    Tame s (if p then t else u) := by
  split
  · exact h ‹_›
  · exact g ‹_›

theorem Eases.ite {s t u : State} {p : Prop} [Decidable p] (h : p → Eases s t) (g : ¬ p → Eases s u) :
    Eases s (if p then t else u) := by
  split
  · exact h ‹_›
  · exact g ‹_›

theorem Lulls.foldl {α : Type} {f : State → α → State} (h : ∀ s x, Lulls s (f s x)) (l : List α) (s : State) :
    Lulls s (l.foldl f s) := by
  induction l generalizing s with
  | nil => exact .refl s
  | cons x xs ih => exact (h s x).trans (ih _)

theorem Eases.foldl {α : Type} {f : State → α → State} (h : ∀ s x, Eases s (f s x)) (l : List α) (s : State) :
    Eases s (l.foldl f s) := by
  induction l generalizing s with
  | nil => exact .refl s
  | cons x xs ih => exact (h s x).trans (ih _)

/-- While nothing is engaged the classes are apart, whatever they are. -/
theorem ClassesApart.of_still {s : State} (h : Still s) (held : HeldLaw s)
    (starting : s.roofState = .starting → ∀ c, resting (chan s c) (valve s c))
    (winter : WinterCarried s.pst) : ClassesApart s where
  held := held
  starting := starting
  fitted c up := by
    have idle := (h c).1
    rw [engaged_eq, up] at idle
    cases idle
  service c own := by simp [(h c).2] at own
  winter := winter
  classes c _ _ _ _ up := by simp [(h c).1] at up

/-- At rest nothing is engaged. -/
theorem still_of_resting {s : State} (h : ∀ c, resting (chan s c) (valve s c)) : Still s := fun c => by
  obtain ⟨low, own, none⟩ := h c
  simp [engaged_eq, raised, served, tooled, low, own, none]

/-! ### From one state to another, part by part -/

/-- What a channel and its valve may become without engaging itself. -/
structure PairEases (r : Channel) (o : Out) (r' : Channel) (o' : Out) : Prop where
  rise : r'.state = .raising → r.state = .raising
  role : r'.role = .none ∨ r'.role = r.role
  law : ChannelLaw r → ChannelLaw r'
  raised : raised r' = true → raised r = true
  busy : (away r' || served r' o') = true → (away r || served r o) = true
  engaged : (Machine.raised r' || served r' o') = true → (Machine.raised r || served r o) = true
  tool : (tooled o = true → r.state = .service) → tooled o' = true → r'.state = .service

/-- Every channel with its valve, and those at rest in STARTING stay so. -/
structure ChansEase (s t : State) : Prop where
  pairs : ∀ c, PairEases (chan s c) (valve s c) (chan t c) (valve t c)
  rest : s.roofState = .starting → ∀ c, resting (chan s c) (valve s c) → resting (chan t c) (valve t c)

/-- Everything else that the laws speak of. -/
structure OthersEase (s t : State) : Prop where
  classes : WinterCarried s.pst → ∀ c, chanClass t c = chanClass s c
  winter : WinterCarried s.pst → WinterCarried t.pst
  held : t.held = s.held
  starting : t.roofState = .starting ↔ s.roofState = .starting
  request : t.ice.scraperRequest = true → s.ice.scraperRequest = true
  outcomes : OutcomesHold s → OutcomesHold t
  ice : IceHolds s → IceHolds t
  position : PositionHolds s → PositionHolds t

theorem ClassesApart.of_eases {s t : State} (h : ClassesApart s) (chans : ChansEase s t) (others : OthersEase s t) :
    ClassesApart t := by
  have fits : ∀ c, Machine.fitted t c = Machine.fitted s c := fun c => by
    rw [Machine.fitted, others.classes h.winter, Machine.fitted]
  refine ⟨fun held => ?_, fun start c => ?_, fun c up => ?_,
      fun c => ?_, others.winter h.winter, fun c d hc hd differ on => ?_⟩
  · exact others.starting.mpr (h.held (others.held ▸ held))
  · have start' := others.starting.mp start
    exact chans.rest start' c (h.starting start' c)
  · rw [fits]
    exact h.fitted c ((chans.pairs c).raised up)
  · exact (chans.pairs c).tool (h.service c)
  · rw [fits] at hc hd
    rw [others.classes h.winter, others.classes h.winter] at differ
    have apart := h.classes c d hc hd differ ((chans.pairs c).engaged on)
    have busy := (chans.pairs d).busy
    rw [apart] at busy
    simpa using busy

theorem Eases.of {s t : State} (chans : ChansEase s t) (others : OthersEase s t) : Eases s t where
  rise c := (chans.pairs c).rise
  role c := (chans.pairs c).role
  request := others.request
  outcomes := others.outcomes
  ice := others.ice
  position := others.position
  channels h c := (chans.pairs c).law (h c)
  apart h := h.of_eases chans others
  still h c := by
    obtain ⟨idle, own⟩ := h c
    have idle' : engaged t c = false := by
      have := (chans.pairs c).engaged
      rw [← engaged_eq, ← engaged_eq, idle] at this
      simpa using this
    refine ⟨idle', ?_⟩
    have tool := (chans.pairs c).tool (by simp [own])
    cases e : tooled (valve t c)
    · rfl
    · rw [engaged_eq] at idle'
      simp [served, tool e] at idle'
  held := others.held
  starting := others.starting

/-- A pair that keeps the channel's state and role, and the valve. -/
theorem PairEases.of_state {r r' : Channel} {o o' : Out} (state : r'.state = r.state)
    (role : r'.role = .none ∨ r'.role = r.role) (law : ChannelLaw r → ChannelLaw r') (owner : o'.owner = o.owner)
      (handover : o'.handover = o.handover) :
    PairEases r o r' o' where
  rise := by rw [state]; exact id
  role := role
  law := law
  raised := by unfold Machine.raised; rw [state]; exact id
  busy := by unfold away served; rw [state, handover]; exact id
  engaged := by unfold Machine.raised served; rw [state, handover]; exact id
  tool := by unfold tooled; rw [state, owner, handover]; exact id

theorem PairEases.refl (r : Channel) (o : Out) : PairEases r o r o := .of_state rfl (.inr rfl) id rfl rfl

theorem ChansEase.of_same {s t : State} (chans : t.pcu.chans = s.pcu.chans) (valves : t.ros.valves = s.ros.valves) :
    ChansEase s t := by
  have hc : ∀ c, chan t c = chan s c := fun c => by rw [chan, chans, chan]
  have hv : ∀ c, valve t c = valve s c := fun c => by rw [valve, valves, valve]
  exact ⟨fun c => by rw [hc, hv]; exact .refl _ _, fun _ c h => by rwa [hc, hv]⟩

/-- What the laws read beside channels and valves. -/
structure OtherView where
  classes : Chan → Option Cls
  winter : Layer
  held : Bool
  starting : Bool
  request : Bool
  ended : List Ended
  index : Nat
  arcs : Nat
  pos : Position

def otherView (s : State) : OtherView :=
  ⟨chanClass s, s.pst.winter ++ s.pst.winterHeld, s.held, s.roofState == .starting, s.ice.scraperRequest, s.chg.ended,
    s.ice.index, s.ice.arcCount, s.smp.pos⟩

theorem OthersEase.of_view {s t : State} (h : otherView t = otherView s) : OthersEase s t := by
  simp only [otherView, OtherView.mk.injEq] at h
  obtain ⟨classes, winter, held, starting, request, ended, index, arcs, pos⟩ := h
  refine ⟨fun _ c => congrFun classes c, fun h => by unfold WinterCarried; rwa [winter], held, ?_, fun h =>
      by rwa [← request], fun h => ?_,
    fun h => ⟨?_, ?_⟩, fun h => ⟨?_, ?_, ?_, ?_⟩⟩
  · have : (t.roofState == .starting) = true ↔ (s.roofState == .starting) = true := by rw [starting]
    simpa using this
  · unfold OutcomesHold; rw [ended]; exact h
  · rw [index]; exact h.index
  · rw [arcs]; exact h.arcs
  · rw [pos]; exact h.metres
  · rw [pos]; exact h.remainder
  · rw [pos]; exact h.speed
  · rw [pos]; exact h.track

/-- Nothing that the laws speak of changes. -/
theorem Eases.of_view {s t : State} (chans : t.pcu.chans = s.pcu.chans) (valves : t.ros.valves = s.ros.valves)
    (others : otherView t = otherView s) : Eases s t := .of (.of_same chans valves) (.of_view others)

end Sys2Proof.Machine
end

section
/-!
PROOFS. Every shared operation eases: the single writes, lowering, the sequences, and an offer with its actions.
-/

namespace Sys2Proof.Machine

/-! ### Single writes -/

theorem raised_iff (r : Channel) : raised r = true ↔ r.state = .raising ∨ r.state = .inContact := by simp [raised]

theorem away_iff (r : Channel) : away r = true ↔ r.state ≠ .lowered ∧ r.state ≠ .lockedOut := by simp [away]

/-- A channel may go from the one state to the other, SERVICE apart, without being raised or leaving its rest. -/
structure Descends (x y : ChanState) : Prop where
  source : x ≠ .service
  target : y ≠ .service
  rise : y = .raising → x = .raising
  up : y = .raising ∨ y = .inContact → x = .raising ∨ x = .inContact
  high : y ≠ .lowered ∧ y ≠ .lockedOut → x ≠ .lowered ∧ x ≠ .lockedOut

theorem channelLaw_of_kept {r r' : Channel} (h : chanKept r' = chanKept r) (law : ChannelLaw r) : ChannelLaw r' := by
  simp only [chanKept, ChanKept.mk.injEq] at h
  obtain ⟨-, height, -, force, -, integrator⟩ := h
  exact ⟨height ▸ law.height, force ▸ law.force, integrator ▸ law.low, integrator ▸ law.high⟩

theorem PairEases.of_descends {r r' : Channel} {o : Out} (h : Descends r.state r'.state)
    (role : r'.role = .none ∨ r'.role = r.role) (law : ChannelLaw r → ChannelLaw r') : PairEases r o r' o := by
  have up : Machine.raised r' = true → Machine.raised r = true := by rw [raised_iff, raised_iff]; exact h.up
  have high : away r' = true → away r = true := by rw [away_iff, away_iff]; exact h.high
  have same : served r' o = served r o := by
    rw [served, served, beq_false_of_ne h.source, beq_false_of_ne h.target]
  refine ⟨h.rise, role, law, up, ?_, ?_, fun own tool => absurd (own tool) h.source⟩ <;> rw [same] <;>
    simp only [Bool.or_eq_true]
  · exact Or.imp_left high
  · exact Or.imp_left up

/-- What an output may become without being engaged. -/
structure OutEases (o o' : Out) : Prop where
  taken : o'.handover = .toService → o.handover = .toService
  tool : tooled o' = true → tooled o = true

theorem OutEases.of_same {o o' : Out} (owner : o'.owner = o.owner) (handover : o'.handover = o.handover) :
    OutEases o o' := ⟨by rw [handover]; exact id, by unfold tooled; rw [owner, handover]; exact id⟩

theorem PairEases.of_out {o o' : Out} (h : OutEases o o') (r : Channel) : PairEases r o r o' := by
  have served_le : served r o' = true → served r o = true := by
    simp only [served, Bool.or_eq_true, beq_iff_eq]
    exact Or.imp_right h.taken
  refine ⟨id, .inr rfl, id, id, ?_, ?_, fun own tool => own (h.tool tool)⟩
  · simp only [Bool.or_eq_true]
    exact Or.imp_right served_le
  · simp only [Bool.or_eq_true]
    exact Or.imp_right served_le

theorem eases_putChan {s : State} {c : Chan} {r : Channel} (pair : PairEases (chan s c) (valve s c) r (valve s c))
    (rest : s.roofState = .starting → (chan s c).state = .lowered → r.state = .lowered) : Eases s (putChan s c r) := by
  refine .of ⟨fun d => ?_, fun start d low => ?_⟩ (.of_view rfl) <;> rw [chan_putChan, putChan_valve] <;> split
  · subst_vars; exact pair
  · exact .refl _ _
  · subst_vars; exact ⟨rest start low.1, low.2⟩
  · exact low

/-- A write that keeps state and role. -/
theorem eases_putChan_same {s : State} {c : Chan} {r : Channel} (state : r.state = (chan s c).state)
    (role : r.role = .none ∨ r.role = (chan s c).role) (law : ChannelLaw (chan s c) → ChannelLaw r) :
      Eases s (putChan s c r) :=
  eases_putChan (.of_state state role law rfl rfl) fun _ low => state.trans low

/-- A write that takes a channel down from a state other than LOWERED. -/
theorem eases_putChan_down {s : State} {c : Chan} {r : Channel} (h : Descends (chan s c).state r.state)
    (high : (chan s c).state ≠ .lowered) (role : r.role = .none ∨ r.role = (chan s c).role)
    (kept : chanKept r = chanKept (chan s c)) : Eases s (putChan s c r) :=
  eases_putChan (.of_descends h role (channelLaw_of_kept kept)) fun _ low => absurd low high

theorem eases_withRos {s : State} {x : Ros} (h : ∀ c, OutEases (valve s c) (x.valves.get c)) : Eases s (s.withRos x) := by
  refine .of ⟨fun c => .of_out (h c) _, fun _ c low => ?_⟩ (.of_view rfl)
  obtain ⟨low, own, none⟩ := (resting_iff _ _).mp low
  refine (resting_iff _ _).mpr ⟨low, ?_, fun e => none ((h c).taken e)⟩
  exact Bool.eq_false_iff.mpr fun tool => Bool.eq_false_iff.mp own ((h c).tool tool)

theorem eases_putValve {s : State} {c : Chan} {o : Out} (h : OutEases (valve s c) o) : Eases s (putValve s c o) := by
  refine eases_withRos fun d => ?_
  rw [Quad.get_set]
  split
  · subst_vars; exact h
  · exact .of_same rfl rfl

theorem eases_writeValve (s : State) (c : Chan) (d : Nat) : Eases s (writeValve s c d) := by
  rcases writeValve_cases s c d with h | ⟨a, -, h⟩ <;> rw [h]
  · exact .refl s
  · exact eases_putValve (.of_same rfl rfl)

theorem eases_withChg {s : State} {x : Chg} (h : s.chg.ended.length ≤ 4 → x.ended.length ≤ 4) : Eases s (s.withChg x) :=
  .of (.of_same rfl rfl) ⟨fun _ _ => rfl, id, rfl, Iff.rfl, id, h, fun h => ⟨h.index, h.arcs⟩,
    fun h => ⟨h.metres, h.remainder, h.speed, h.track⟩⟩

theorem eases_putSeq (s : State) (q : Sequence) : Eases s (putSeq s q) := eases_withChg id
theorem eases_setShed (s : State) : Eases s (setShed s) := eases_withChg id
theorem eases_putBrk (s : State) (b : Brk) (r : Breaker) : Eases s (putBrk s b r) := by
  cases b <;> exact eases_withChg id
theorem eases_openBrk (s : State) (b : Brk) : Eases s (openBrk s b) :=
  .ite (fun _ => (eases_putBrk ..).trans (eases_setShed _)) fun _ => .refl s
theorem eases_closeBrk (s : State) (b : Brk) : Eases s (closeBrk s b) := eases_putBrk ..

theorem eases_logOffer (s : State) (k : FaultKind) (x : Option Ctx) : Eases s (logOffer s k x) := .of_view rfl rfl rfl

/-- A change of the roof state, not to or from STARTING. -/
theorem eases_withRoof {s : State} {r : RoofState} (from_ : s.roofState ≠ .starting) (dest : r ≠ .starting) :
    Eases s (s.withRoof r) :=
  .of (.of_same rfl rfl) ⟨fun _ _ => rfl, id, rfl, by simp [from_, dest], id, id, fun h => ⟨h.index, h.arcs⟩,
    fun h => ⟨h.metres, h.remainder, h.speed, h.track⟩⟩

/-! ### Channels lowered -/

theorem descends_of_raised {r : Channel} (h : raised r = true) {x : ChanState} (dest : x = .lowering ∨ x = .dropped) :
    Descends r.state x := by
  have up := (raised_iff r).mp h
  have high := (away_iff r).mp (away_of_raised h)
  rcases dest with rfl | rfl <;> exact ⟨fun e => by simp [e] at up, nofun, nofun, fun _ => up, fun _ => high⟩

/-- From a way down to its rest, or to another way down. -/
theorem descends_of_down {x y : ChanState} (hx : x = .lowering ∨ x = .dropped ∨ x = .stuck)
    (hy : y = .lowered ∨ y = .lockedOut ∨ y = .dropped ∨ y = .stuck) : Descends x y := by
  rcases hx with rfl | rfl | rfl <;> rcases hy with rfl | rfl | rfl | rfl <;>
    exact ⟨nofun, nofun, nofun, by simp, by simp⟩

/-- From rest to rest. -/
theorem descends_of_rest {x y : ChanState} (hx : x = .lowered ∨ x = .lockedOut) (hy : y = .lowered ∨ y = .lockedOut) :
    Descends x y := by
  rcases hx with rfl | rfl <;> rcases hy with rfl | rfl <;> exact ⟨nofun, nofun, nofun, by simp, by simp⟩

theorem ne_lowered_of_raised {r : Channel} (h : raised r = true) : r.state ≠ .lowered := fun e => by simp [raised, e] at h

/-- A raised channel goes to LOWERING or DROPPED. -/
theorem eases_putChan_lower {s : State} {c : Chan} {r : Channel} (up : raised (chan s c) = true)
    (dest : r.state = .lowering ∨ r.state = .dropped) (role : r.role = (chan s c).role)
    (kept : chanKept r = chanKept (chan s c)) : Eases s (putChan s c r) :=
  eases_putChan_down (descends_of_raised up dest) (ne_lowered_of_raised up) (.inr role) kept

theorem eases_ordinaryLower (s : State) (c : Chan) : Eases s (ordinaryLower s c) :=
  .ite (fun up => (eases_putChan_lower (r := { inState (chan s c) .lowering with dumpOn := false }) up (.inl rfl) rfl
    rfl).trans (eases_writeValve ..)) fun _ => .refl s

theorem eases_lowerAllFitted (s : State) : Eases s (lowerAllFitted s) :=
  .foldl (fun s c => .ite (fun _ => eases_ordinaryLower s c) fun _ => .refl s) _ s

theorem eases_lowerScraper (s : State) : Eases s (lowerScraper s) :=
  .foldl (fun s c => .ite (fun _ => eases_ordinaryLower s c) fun _ => .refl s) _ s

theorem eases_dropScraper (s : State) : Eases s (dropScraper s) :=
  .ite (fun _ => eases_lowerScraper s) fun _ => .refl s

theorem eases_withdrawScraper (s : State) : Eases s (withdrawScraper s) := by
  have asked : Eases s (s.withIce { s.ice with scraperRequest := false }) :=
    .of (.of_same rfl rfl) ⟨fun _ _ => rfl, id, rfl, Iff.rfl, nofun, id, fun h => ⟨h.index, h.arcs⟩,
      fun h => ⟨h.metres, h.remainder, h.speed, h.track⟩⟩
  have released : ∀ u : State, Eases u (u.withPcu { u.pcu with scraperHold := false }) := fun _ => .of_view rfl rfl rfl
  exact (asked.trans (eases_lowerScraper _)).trans (released _)

theorem eases_noteFailure (s : State) (x : Role) : Eases s (noteFailure s x) := by
  cases x <;> exact .of_view rfl rfl rfl

theorem eases_dumpInService (s : State) (c : Chan) : Eases s (dumpInService s c) :=
  (eases_putChan_same (r := { chan s c with dumpOn := true }) rfl (.inr rfl) (channelLaw_of_kept rfl)).trans
    (eases_putValve (.of_same rfl rfl))

theorem eases_retarget (s : State) (c : Chan) : Eases s (retarget s c) :=
  eases_putChan_same rfl (.inr rfl) (channelLaw_of_kept rfl)

theorem eases_retargetAll (s : State) : Eases s (retargetAll s) := .foldl eases_retarget _ s

theorem eases_testStrip (s : State) (c : Chan) : Eases s (testStrip s c) := by
  have tested : ∀ hot, Eases s (s.withIce { s.ice with stripHot := s.ice.stripHot.set c hot }) :=
    fun _ => .of_view rfl rfl rfl
  exact .ite (fun _ => (tested _).trans (eases_logOffer ..)) fun _ => tested _

theorem eases_testAllStrips (s : State) : Eases s (testAllStrips s) := .foldl eases_testStrip _ s

/-! ### Sequences -/

theorem eases_recompute (s : State) : Eases s (recompute s) := by
  have computed : ∀ (o : Outlook) (b : Bool),
      Eases s ((s.withSmp { s.smp with outlook := o, prevConflict := b }).withIce { s.ice with watch := o.iceHere }) :=
    fun _ _ => .of_view rfl rfl rfl
  exact .ite (fun _ => (computed _ _).trans (eases_logOffer ..)) fun _ => computed _ _

theorem eases_forceChanged (b : Option Sys) (s : State) : Eases s (forceChanged b s) :=
  .ite (fun _ => eases_recompute s) fun _ => .refl s

theorem eases_waitTest (s : State) : Eases s (waitTest s) := by
  unfold waitTest
  split
  · exact .refl s
  · refine .ite (fun _ => .ite (fun _ => ?_) fun _ => eases_putSeq ..) fun _ => .refl s
    exact .ite (fun _ => eases_putSeq ..) fun _ => (eases_putSeq ..).trans (eases_withChg id)

theorem eases_identifyTest (s : State) : Eases s (identifyTest s) := by
  unfold identifyTest
  split
  · exact .ite (fun _ => eases_putSeq ..) fun _ => .refl s
  · exact .refl s

theorem eases_enterWork (st : Stage) (s : State) : Eases s (enterWork st s) := by
  unfold enterWork
  split
  · exact .refl s
  · cases st with
    | shed => exact Eases.trans (.ite (fun _ => eases_putSeq ..) fun _ => .refl s) (eases_setShed _)
    | opening => exact (eases_openBrk ..).trans (eases_openBrk ..)
    | lowering =>
      exact .ite (fun _ => (eases_putSeq ..).trans (eases_lowerAllFitted _)) fun _ => eases_putSeq ..
    | waitSection => exact (eases_putSeq ..).trans (eases_waitTest _)
    | raising => exact eases_putSeq ..
    | identify => exact .ite (fun _ => eases_putSeq ..) fun _ => eases_putSeq ..
    | converter => exact .refl s
    | closing =>
      dsimp only
      split
      · exact eases_putSeq ..
      · exact eases_closeBrk ..
      · exact .refl s

theorem eases_enterStage (st : Stage) (s : State) : Eases s (enterStage st s) := by
  unfold enterStage
  split
  · exact .refl s
  · exact (eases_putSeq ..).trans (eases_enterWork ..)

/-- The outcome list keeps four entries (R116). -/
theorem eases_recordEnd (s : State) (x : Result) (n : Nat) : Eases s (recordEnd s x n) := by
  unfold recordEnd
  split
  · exact .refl s
  · exact eases_withChg fun _ => by simp

theorem eases_cancelClose (s : State) : Eases s (cancelClose s) := by
  have first : Eases s (if s.chg.bka.state = .closing then openBrk s .bka else s) :=
    .ite (fun _ => eases_openBrk ..) fun _ => .refl s
  exact .ite (fun _ => first.trans (eases_openBrk ..)) fun _ => first

theorem eases_abortSeq (s : State) (x : Reason) : Eases s (abortSeq s x) :=
  .ite (fun _ => (eases_recordEnd ..).trans (eases_cancelClose _)) fun _ => .refl s

theorem eases_startReported (s : State) : Eases s (startReported s) :=
  .ite (fun _ => eases_withdrawScraper s) fun _ => .refl s

theorem eases_startSeq (s : State) (k : SeqKind) (o : Origin) (t : Option Sys) (a : Option Awaited) (st : Stage) :
    Eases s (startSeq s k o t a st) :=
  ((eases_putSeq ..).trans (eases_startReported _)).trans (eases_enterStage ..)

theorem eases_automaticStart (s : State) : Eases s (automaticStart s) := by
  refine .ite (fun _ => ?_) fun _ => .refl s
  split
  · exact eases_startSeq ..
  · exact .refl s

theorem eases_endSeq (s : State) (x : Result) (n : Nat) : Eases s (endSeq s x n) :=
  .ite (fun _ => (eases_recordEnd ..).trans (eases_automaticStart _)) fun _ => .refl s

theorem eases_handOutlook (s : State) : Eases s (handOutlook s) :=
  ((eases_waitTest s).trans (eases_identifyTest _)).trans (eases_automaticStart _)

theorem eases_newOutlook (s : State) : Eases s (newOutlook s) := (eases_recompute s).trans (eases_handOutlook _)

theorem eases_openingEnds (s : State) (q : Sequence) : Eases s (openingEnds s q) :=
  .ite (fun _ => Eases.trans (t := s.withChg { s.chg with inForce := none, target := q.target }) (eases_withChg id)
    (eases_forceChanged ..)) fun _ => .refl s

theorem eases_leaveStage (s : State) (q : Sequence) : Eases s (leaveStage s q) := by
  unfold leaveStage
  dsimp only
  split
  · exact (eases_openingEnds s q).trans (eases_enterStage ..)
  · exact (eases_openingEnds s q).trans (eases_endSeq ..)

theorem eases_stageStep {s t : State} (h : stageStep s = some t) : Eases s t := by
  unfold stageStep at h
  split at h
  · cases h
  · split at h
    · cases h; exact eases_leaveStage ..
    · cases h; exact eases_enterStage ..
    · cases h; exact eases_endSeq ..
    · split at h
      · cases h; exact eases_leaveStage ..
      · cases h

theorem eases_progress (s : State) : Eases s (progress s) := by
  have fuelled : ∀ n s, Eases s (progressFuel n s) := fun n => by
    induction n with
    | zero => exact .refl
    | succ n ih =>
      intro s
      unfold progressFuel
      split
      · exact (eases_stageStep ‹_›).trans (ih _)
      · exact .refl s
  exact fuelled _ _

theorem eases_roofDownSeq (s : State) (x : Reason) (o : Origin) : Eases s (roofDownSeq s x o) :=
  (eases_abortSeq ..).trans (eases_startSeq ..)

theorem eases_protectionOpen (s : State) (b : Brk) : Eases s (protectionOpen s b) :=
  .ite (fun _ => eases_openBrk ..) fun _ => (eases_abortSeq ..).trans (eases_startSeq ..)

theorem eases_failedSeq (s : State) : Eases s (failedSeq s) := by
  unfold failedSeq
  split
  · exact .ite (fun _ => .refl s) fun _ => eases_abortSeq ..
  · exact .refl s

theorem eases_collectorFailed (s : State) : Eases s (collectorFailed s) := by
  rw [collectorFailed_eq]
  split
  · exact (eases_failedSeq s).trans (eases_protectionOpen ..)
  · exact eases_failedSeq s

theorem eases_roofSafeSeq (s : State) : Eases s (roofSafeSeq s) :=
  .ite (fun _ => eases_abortSeq ..) fun _ => (eases_abortSeq ..).trans (eases_startSeq ..)

/-! ### Protection -/

theorem eases_failed (s : State) (x : Role) : Eases s (failed s x) :=
  .ite (fun _ => (eases_noteFailure ..).trans (eases_collectorFailed _)) fun _ => eases_noteFailure ..

theorem eases_failInto {s : State} {c : Chan} {x : ChanState} (up : raised (chan s c) = true)
    (dest : x = .lowering ∨ x = .dropped) : Eases s (failInto s c x) :=
  ((eases_putChan_lower (r := { inState (chan s c) x with dumpOn := true }) up dest rfl rfl).trans
    (eases_writeValve ..)).trans (eases_failed ..)

theorem eases_protLower (s : State) (c : Chan) : Eases s (protLower s c) := by
  unfold protLower
  split
  · exact eases_failInto (by simp [raised, *]) (.inl rfl)
  · exact eases_failInto (by simp [raised, *]) (.inl rfl)
  · exact eases_putChan_same rfl (.inr rfl) (channelLaw_of_kept rfl)
  · exact eases_dumpInService s c
  all_goals exact .refl s

theorem eases_protLowerAll (s : State) : Eases s (protLowerAll s) :=
  .foldl (fun s c => .ite (fun _ => eases_protLower s c) fun _ => .refl s) _ s

theorem eases_restartIdent (s : State) : Eases s (restartIdent s) := .of_view rfl rfl rfl

theorem eases_endDemand (s : State) : Eases s (endDemand s) := .ite (fun _ => .of_view rfl rfl rfl) fun _ => .refl s

theorem eases_enterSafeHeld (s : State) : Eases s (enterSafeHeld s) := by
  have released : ∀ u : State, Eases u (u.withPcu { u.pcu with collectorHold := false }) := fun _ => .of_view rfl rfl rfl
  have left : ∀ u : State, Eases u (leaveCheck u) := fun _ => .of_view rfl rfl rfl
  unfold enterSafeHeld
  split
  · have entered : Eases s (s.withRoof .safeHeld) := eases_withRoof (by simp [*]) (by simp)
    exact (entered.trans (eases_endDemand _)).trans (released _)
  · have entered : Eases s (s.withRoof .safeHeld) := eases_withRoof (by simp [*]) (by simp)
    exact entered.trans (left _)
  · exact .refl s
  · exact .refl s

theorem eases_roofSafe (s : State) : Eases s (roofSafe s) :=
  ((eases_roofSafeSeq s).trans (eases_protLowerAll _)).trans (eases_enterSafeHeld _)

theorem eases_openAction (s : State) (b : Brk) : Eases s (openAction s b) :=
  .ite (fun _ => eases_protectionOpen ..) fun _ => .refl s

theorem eases_takeAction (s : State) (o : Offer) (m : Option Brk) : Eases s (takeAction s o m) := by
  unfold takeAction
  split
  · dsimp only
    split
    · exact (eases_protLower ..).trans (eases_openAction ..)
    · exact eases_protLower ..
  · exact eases_openAction ..
  · exact eases_endSeq ..
  · exact .ite (fun _ => eases_protectionOpen ..) fun _ => eases_endSeq ..
  · exact .refl s

theorem eases_offer (s : State) (o : Offer) : Eases s (offer s o) := by
  have acted : Eases s (if kindEnabled (bank s.flt (kindBank o.kind)) o.kind = true
      then takeAction (logOffer s o.kind o.ctx) o (madeBrk s) else logOffer s o.kind o.ctx) :=
    .ite (fun _ => (eases_logOffer ..).trans (eases_takeAction ..)) fun _ => eases_logOffer ..
  exact .ite (fun _ => acted.trans (eases_roofSafe _)) fun _ => acted

theorem eases_offerPlain (s : State) (k : FaultKind) : Eases s (offerPlain s k) := eases_offer ..
theorem eases_offerChan (s : State) (k : FaultKind) (c : Chan) : Eases s (offerChan s k c) := eases_offer ..
theorem eases_offerBrk (s : State) (k : FaultKind) (b : Brk) : Eases s (offerBrk s k b) := eases_offer ..
theorem eases_offerParam (s : State) (k : FaultKind) (n : Nat) : Eases s (offerParam s k n) := eases_offer ..
theorem eases_haltThenOffer (s : State) (x : Reason) (k : FaultKind) (b : Brk) : Eases s (haltThenOffer s x k b) :=
  (eases_endSeq ..).trans (eases_offerBrk ..)

end Sys2Proof.Machine
end

section
/-!
PROOFS. The effects of readings, inputs and timers ease, block by block.
-/

namespace Sys2Proof.Machine

/-! ### The cab, the converter and the breakers -/

theorem eases_roofDownRequest (s : State) (x : Reason) (o : Origin) : Eases s (roofDownRequest s x o) :=
  (eases_endDemand s).trans (eases_roofDownSeq ..)

theorem eases_setActive (s : State) (v : Option Vcu) : Eases s (setActive s v) := .of_view rfl rfl rfl

theorem eases_cabLapse (s : State) : Eases s (cabLapse s) := by
  unfold cabLapse
  split
  · exact ((eases_offer ..).trans (eases_setActive ..)).trans (eases_roofDownRequest ..)
  · exact .refl s

theorem eases_demandExpiry (s : State) : Eases s (demandExpiry s) := by
  unfold demandExpiry
  split
  · exact eases_roofDownRequest ..
  · exact .refl s

theorem eases_examineConverter (s : State) : Eases s (examineConverter s) := by
  unfold examineConverter
  split
  · exact .refl s
  · exact .ite (fun _ => eases_offerBrk ..) fun _ => .ite (fun _ => eases_offerBrk ..) fun _ => .refl s

theorem eases_withCau (s : State) (x : Cau) : Eases s (s.withCau x) := .of_view rfl rfl rfl

theorem eases_converterStale (s : State) : Eases s (converterStale s) :=
  .ite (fun _ => (eases_withCau ..).trans (eases_examineConverter _)) fun _ => .refl s

theorem eases_converterRetest (s : State) : Eases s (converterRetest s) :=
  .ite (fun _ => eases_withCau ..) fun _ => eases_converterStale s

theorem eases_takeReport (x : ConvState) (t : Option Sys) (s : State) : Eases s (takeReport x t s) := by
  have reported : ∀ u, Eases u (shedReport x u) := fun u => by
    unfold shedReport
    split
    · exact .ite (fun _ => eases_putSeq ..) fun _ => .refl u
    · exact .refl u
  exact (((eases_withCau ..).trans (reported _)).trans (eases_progress _)).trans (eases_examineConverter _)

theorem eases_closeCompletes (s : State) (b : Brk) : Eases s (closeCompletes s b) := by
  have closed : Eases s (putBrk s b { brk s b with state := .closed, closeCoil := false, holdCoil := true, opTime := 0 }) :=
    eases_putBrk ..
  have inForce : ∀ u : State, Eases u (u.withChg { u.chg with inForce := u.chg.target, shed := false }) :=
    fun _ => eases_withChg id
  exact ((((closed.trans (inForce _)).trans (eases_recordEnd ..)).trans (eases_forceChanged ..)).trans
    (eases_examineConverter _)).trans (eases_automaticStart _)

theorem eases_feedbackTaken (s : State) (b : Brk) (closed : Bool) : Eases s (feedbackTaken s b closed) := by
  unfold feedbackTaken
  split
  · exact eases_closeCompletes ..
  · exact ((eases_putBrk ..).trans (eases_setShed _)).trans (eases_offerBrk ..)
  · exact ((eases_putBrk ..).trans (eases_openBrk ..)).trans (eases_offerBrk ..)
  · exact eases_putBrk ..
  · exact eases_putBrk ..
  all_goals exact .refl s

theorem eases_feedbackChange (b : Brk) (closed : Bool) (s : State) : Eases s (feedbackChange b closed s) :=
  .ite (fun _ => .refl s) fun _ => .ite (fun _ => eases_putBrk ..) fun _ =>
    (eases_putBrk ..).trans (eases_feedbackTaken ..)

theorem eases_closeExpiry (b : Brk) (closed : Bool) (s : State) : Eases s (closeExpiry b closed s) :=
  .ite (fun _ => (eases_putBrk ..).trans (eases_haltThenOffer ..)) fun _ => .refl s

theorem eases_openExpiry (b : Brk) (closed : Bool) (s : State) : Eases s (openExpiry b closed s) :=
  .ite (fun _ => .ite (fun _ => (eases_putBrk ..).trans (eases_offerBrk ..)) fun _ => eases_putBrk ..) fun _ => .refl s

theorem eases_shedExpiry (s : State) : Eases s (shedExpiry s) := by
  unfold shedExpiry
  split
  · exact .ite (fun _ => (eases_offer ..).trans (eases_putSeq ..)) fun _ => .refl s
  · exact .refl s

theorem eases_deadRunExpiry (s : State) : Eases s (deadRunExpiry s) := by
  unfold deadRunExpiry
  split
  · exact .ite (fun _ => eases_offer ..) fun _ => .refl s
  · exact .refl s

theorem eases_identifyExpiry (s : State) : Eases s (identifyExpiry s) := by
  unfold identifyExpiry
  split
  · exact .ite (fun _ => eases_offer ..) fun _ => .refl s
  · exact .refl s

theorem eases_converterExpiry (s : State) : Eases s (converterExpiry s) := by
  unfold converterExpiry
  split
  · exact .ite (fun _ => (eases_putSeq ..).trans (eases_offer ..)) fun _ => .refl s
  · exact .refl s

/-! ### The identifier -/

theorem eases_withLsi (s : State) (x : Lsi) : Eases s (s.withLsi x) := .of_view rfl rfl rfl

theorem eases_takeSample (x : Int) (s : State) : Eases s (takeSample x s) :=
  .ite (fun _ => .refl s) fun _ => .ite (fun _ => eases_withLsi ..) fun _ => eases_withLsi ..

theorem eases_decideCheck (k : LineClass) (s : State) : Eases s (decideCheck k s) := by
  unfold decideCheck
  split
  · exact .ite (fun _ => .ite (fun _ => eases_withLsi ..) fun _ => (eases_withLsi ..).trans (eases_offerPlain ..))
      fun _ => .refl s
  · exact .refl s

theorem eases_examineLine (k : LineClass) (s : State) : Eases s (examineLine k s) := by
  unfold examineLine
  split
  · exact .refl s
  · split
    · exact eases_offerBrk ..
    · exact eases_offerBrk ..
    · exact .ite (fun _ => .refl s) fun _ => eases_offerBrk ..

theorem eases_identifyResult (k : LineClass) (s : State) : Eases s (identifyResult k s) := by
  unfold identifyResult
  split
  · exact .refl s
  · split
    · split
      · exact .refl s
      · exact eases_haltThenOffer ..
      · exact .ite (fun _ => eases_putSeq ..) fun _ => eases_offerBrk ..
    · exact .refl s

theorem eases_handResult (k : LineClass) (s : State) : Eases s (handResult k s) :=
  ((eases_decideCheck ..).trans (eases_examineLine ..)).trans (eases_identifyResult ..)

theorem eases_published (s : State) (w : Window) (m : LineClass) : Eases s (published s w m) :=
  .ite (fun _ => (eases_withLsi ..).trans (eases_offer ..)) fun _ => eases_withLsi ..

theorem eases_publishWindow (s : State) : Eases s (publishWindow s) := by
  cases hw : s.lsi.evaluating with
  | none =>
    unfold publishWindow
    rw [hw]
    exact .refl s
  | some w =>
    by_cases enough : runRequirement s (windowRecord s w).cls
        ≤ nextRun s.lsi.candidate s.lsi.runCount (windowRecord s w).cls
    · rw [publishWindow_qualified hw enough]
      exact (eases_published ..).trans (eases_handResult ..)
    · rw [publishWindow_unqualified hw (Nat.lt_of_not_le enough)]
      exact eases_published ..

/-! ### Readings (R25 to R30, R33, R35) -/

theorem clampInt_mem {lo hi : Int} (h : lo ≤ hi) (x : Int) : lo ≤ clampInt lo hi x ∧ clampInt lo hi x ≤ hi := by
  unfold clampInt
  omega

theorem eases_storeForce (c : Chan) (f : Int) (s : State) : Eases s (storeForce c f s) := by
  have stored : ∀ b, Eases s (putChan s c { chan s c with forceN := (clampInt 0 500 f).toNat, forceRangeArmed := b }) :=
    fun b => eases_putChan_same rfl (.inr rfl) fun law => ⟨law.height, by
      have := clampInt_mem (lo := 0) (hi := 500) (by decide) f
      change (clampInt 0 500 f).toNat ≤ 500
      omega, law.low, law.high⟩
  exact .ite (fun _ => (stored _).trans (eases_offerChan ..)) fun _ => stored _

theorem heightOk_iff (h : Int) : heightOk h = true ↔ 0 ≤ h ∧ h ≤ 3200 := by simp [heightOk]

theorem eases_storeHeight (c : Chan) (h : Int) (s : State) : Eases s (storeHeight c h s) := by
  refine .ite (fun ok => ?_) fun _ => eases_putChan_same rfl (.inr rfl) (channelLaw_of_kept rfl)
  have height := ((heightOk_iff h).mp ok).2
  exact eases_putChan_same rfl (.inr rfl) fun law => ⟨by change h.toNat ≤ 3200; omega, law.force, law.low, law.high⟩

theorem eases_storeStrip (c : Chan) (t : Int) (s : State) : Eases s (storeStrip c t s) := by
  have stored : Eases s (s.withIce { s.ice with strip := s.ice.strip.set c t }) := .of_view rfl rfl rfl
  exact stored.trans (eases_testStrip ..)

theorem eases_failLower {s : State} {c : Chan} (up : raised (chan s c) = true) : Eases s (failLower s c) :=
  ((eases_putChan_lower (r := { inState (chan s c) .lowering with dumpOn := false }) up (.inl rfl) rfl rfl).trans
    (eases_writeValve ..)).trans (eases_failed ..)

theorem eases_noWire {s : State} {c : Chan} (up : raised (chan s c) = true) : Eases s (noWire s c) :=
  (eases_failLower up).trans (eases_offerChan ..)

theorem eases_readRaising {c : Chan} {h : Int} {s : State} (up : (chan s c).state = .raising) :
    Eases s (readRaising c h s) := by
  refine .ite (fun _ => ?_) fun _ => .ite (fun _ => eases_noWire ((raised_iff _).mpr (.inl up))) fun _ => .refl s
  refine eases_putChan (.of_descends ?_ (.inr rfl) fun law => ⟨law.height, law.force, ?_, ?_⟩)
    fun _ low => by simp [up] at low
  · rw [up]
    exact ⟨nofun, nofun, nofun, fun _ => .inl rfl, fun _ => by simp⟩
  · change (-256000 : Int) ≤ 0; decide
  · change (0 : Int) ≤ 256000; decide

theorem bankCorrupt_eq (b : Bank) : bankCorrupt b = b.record.any (·.corrupt) := by
  unfold bankCorrupt
  cases b.record <;> rfl

/-- A correctable fault whose action is LOG is only logged: it cannot make a record corrupt (R155). -/
theorem offer_of_log {k : FaultKind} (action : kindAction k = .log) (minor : kindUncorrected k = false)
    (plain : kindCorrupt k = false) (s : State) (x : Option Ctx) (b : Bool) : offer s ⟨k, x, b⟩ = logOffer s k x := by
  have record : ∀ (r : Bank) (t : BitVec 32) (p : Option Nat), bankCorrupt (bankOffer r k x t p) = bankCorrupt r := by
    intro r t p
    rw [bankCorrupt_eq, bankCorrupt_eq, bankOffer_record]
    split
    · cases e : r.record <;> simp [logRecord, e, minor, plain, writeRecord]
    · rfl
  have quiet : callsRoofSafe (bank s.flt (kindBank k)) (bank (logOffer s k x).flt (kindBank k)) k = false := by
    unfold callsRoofSafe
    rw [bank_logOffer]
    simp [action, record]
  unfold offer
  dsimp only
  rw [quiet]
  simp [takeAction, action]

theorem offer_arc (s : State) (x : Option Ctx) (b : Bool) : offer s ⟨.arc, x, b⟩ = logOffer s .arc x :=
  offer_of_log rfl rfl rfl s x b

theorem offer_forceRange (s : State) (x : Option Ctx) (b : Bool) :
    offer s ⟨.forceRange, x, b⟩ = logOffer s .forceRange x :=
  offer_of_log rfl rfl rfl s x b

@[simp] theorem logOffer_chan (s : State) (k : FaultKind) (x : Option Ctx) (c : Chan) :
    chan (logOffer s k x) c = chan s c := rfl

/-- An arc counted (R135). -/
theorem eases_countArc (s : State) : Eases s (s.withIce { s.ice with arcCount := min 65535 (s.ice.arcCount + 1) }) :=
  .of (.of_same rfl rfl) ⟨fun _ _ => rfl, id, rfl, Iff.rfl, id, id, fun h => ⟨h.index, Nat.min_le_left ..⟩,
    fun h => ⟨h.metres, h.remainder, h.speed, h.track⟩⟩

theorem eases_arcEvent (c : Chan) (s : State) : Eases s (arcEvent c s) := by
  have offered : Eases s (offerChan (putChan s c { chan s c with arcArmed := false }) .arc c) :=
    Eases.trans (eases_putChan_same (r := { chan s c with arcArmed := false }) rfl (.inr rfl) (channelLaw_of_kept rfl))
      (eases_offerChan ..)
  exact .ite (fun _ => offered.trans (eases_countArc _)) fun _ => offered

theorem arcEvent_chan (c : Chan) (s : State) : chan (arcEvent c s) c = { chan s c with arcArmed := false } := by
  have logged : chan (offerChan (putChan s c { chan s c with arcArmed := false }) .arc c) c =
      { chan s c with arcArmed := false } := by
    unfold offerChan
    rw [offer_arc, logOffer_chan, chan_putChan_self]
  unfold arcEvent
  dsimp only
  split
  · exact logged
  · exact logged

theorem eases_countLowForce (c : Chan) (low : Bool) (s : State) : Eases s (countLowForce c low s) :=
  eases_putChan_same rfl (.inr rfl) (channelLaw_of_kept rfl)

/-- The arc of a reading in IN_CONTACT, or its re-arming (R29). -/
def readArc (c : Chan) (low : Bool) (s : State) : State :=
  if low && (chan s c).arcArmed then arcEvent c (countLowForce c low s)
  else if eff s Par.contactForce ≤ (chan s c).forceN
    then putChan (countLowForce c low s) c { chan (countLowForce c low s) c with arcArmed := true }
    else countLowForce c low s

theorem readContact_eq (c : Chan) (s : State) : readContact c s =
    let low := decide (((chan s c).forceN : Int) < eff s Par.lossForce)
    if low && decide ((chan (readArc c low s) c).lossLimit ≤ (chan (readArc c low s) c).lowForceTime)
      then noWire (readArc c low s) c else readArc c low s := rfl

theorem eases_readArc (c : Chan) (low : Bool) (s : State) : Eases s (readArc c low s) :=
  .ite (fun _ => (eases_countLowForce ..).trans (eases_arcEvent ..)) fun _ =>
    .ite (fun _ => (eases_countLowForce ..).trans (eases_putChan_same rfl (.inr rfl) (channelLaw_of_kept rfl)))
      fun _ => eases_countLowForce ..

theorem readArc_state (c : Chan) (low : Bool) (s : State) : (chan (readArc c low s) c).state = (chan s c).state := by
  unfold readArc
  split
  · rw [arcEvent_chan, countLowForce, chan_putChan_self]
  · split
    · rw [chan_putChan_self, countLowForce, chan_putChan_self]
    · rw [countLowForce, chan_putChan_self]

theorem eases_readContact {c : Chan} {s : State} (up : (chan s c).state = .inContact) : Eases s (readContact c s) := by
  rw [readContact_eq]
  refine .ite (fun _ => (eases_readArc ..).trans (eases_noWire ?_)) fun _ => eases_readArc ..
  rw [raised_iff, readArc_state]
  exact .inr up

theorem eases_giveNone (s : State) (c : Chan) : Eases s (giveRole s c .none) :=
  eases_putChan_same rfl (.inl rfl) (channelLaw_of_kept rfl)

/-- The end of a way down: LOWERED or LOCKED_OUT, without a role. -/
theorem eases_reachRest (s : State) (c : Chan) : Eases s (reachRest s c) := by
  have rests : ∀ (x : ChanState) (l : Option Lockout), ((chan s c).state = .lowering ∨ (chan s c).state = .dropped ∨
      (chan s c).state = .stuck) → (x = .lowered ∨ x = .lockedOut) →
      Eases s (giveRole (putChan s c { inState (chan s c) x with dumpOn := false, lockout := l }) c .none) := by
    intro x l down dest
    refine (eases_putChan_down (r := { inState (chan s c) x with dumpOn := false, lockout := l }) ?_ ?_ (.inr rfl)
      rfl).trans (eases_giveNone ..)
    · exact descends_of_down down (dest.imp_right .inl)
    · rcases down with h | h | h <;> simp [h]
  unfold reachRest
  dsimp only
  split
  · exact rests _ _ (.inl ‹_›) (.inl rfl)
  · exact rests _ _ (.inr (.inl ‹_›)) (.inr rfl)
  · exact .ite (fun _ => rests _ _ (.inr (.inr ‹_›)) (.inl rfl)) fun _ => rests _ _ (.inr (.inr ‹_›)) (.inr rfl)
  all_goals exact .refl s

theorem eases_readTransitions (c : Chan) (h : Int) (s : State) : Eases s (readTransitions c h s) := by
  unfold readTransitions
  split
  · exact eases_readRaising ‹_›
  · exact eases_readContact ‹_›
  · exact .ite (fun _ => eases_reachRest ..) fun _ => .refl s
  · exact .ite (fun _ => eases_reachRest ..) fun _ => .refl s
  · exact .ite (fun _ => eases_reachRest ..) fun _ => .refl s
  all_goals exact .refl s

theorem eases_takeReading (c : Chan) (h f t : Int) (s : State) : Eases s (takeReading c h f t s) := by
  have stored : Eases s (storeStrip c t (storeHeight c h (storeForce c f s))) :=
    ((eases_storeForce ..).trans (eases_storeHeight ..)).trans (eases_storeStrip ..)
  exact .ite (fun _ => stored) fun _ => stored.trans (eases_readTransitions ..)

/-! ### Height sensor, HEADOK, timers and LOCKOUT CLEAR (R26, R34, R28, R30, R33, R37) -/

/-- A LOWERED channel of a running roof is locked out. -/
theorem eases_lockOut {s : State} {c : Chan} {r : Channel} (run : s.roofState ≠ .starting)
    (low : (chan s c).state = .lowered) (dest : r.state = .lockedOut) (role : r.role = (chan s c).role)
    (kept : chanKept r = chanKept (chan s c)) : Eases s (putChan s c r) :=
  eases_putChan (.of_descends (descends_of_rest (.inl low) (.inr dest)) (.inr role) (channelLaw_of_kept kept))
    fun start => absurd start run

theorem eases_heightFails {s : State} (run : s.roofState ≠ .starting) (c : Chan) : Eases s (heightFails s c) := by
  have dumped : Eases s (putChan s c { chan s c with dumpOn := true }) :=
    eases_putChan_same rfl (.inr rfl) (channelLaw_of_kept rfl)
  unfold heightFails
  dsimp only
  split
  · exact eases_failInto (by simp [raised, *]) (.inl rfl)
  · exact eases_failInto (by simp [raised, *]) (.inl rfl)
  · exact dumped
  · exact dumped
  · exact dumped
  · exact eases_lockOut run ‹_› rfl rfl rfl
  · exact .refl s
  · exact eases_dumpInService s c

theorem eases_heightSensor (c : Chan) (s : State) : Eases s (heightSensor c s) := by
  refine .ite (fun due => ?_) fun _ => .refl s
  have noted : Eases s (putChan s c { chan s c with heightValid := false, hold := .failed }) :=
    eases_putChan_same rfl (.inr rfl) fun law => ⟨law.height, law.force, law.low, law.high⟩
  exact .ite (fun _ => (noted.trans (eases_heightFails (by exact due.1) c)).trans (eases_offerChan ..)) fun _ => noted

theorem eases_headLost {s t : State} {c : Chan} (run : s.roofState ≠ .starting) (h : headLost s c = some t) :
    Eases s t := by
  unfold headLost at h
  dsimp only at h
  split at h <;> cases h
  · exact eases_failInto (by simp [raised, *]) (.inr rfl)
  · exact eases_failInto (by simp [raised, *]) (.inr rfl)
  · rename_i down
    exact eases_putChan_down (descends_of_down (.inl down) (.inr (.inr (.inl rfl)))) (by simp [down]) (.inr rfl) rfl
  · exact eases_lockOut run ‹_› rfl rfl rfl
  · exact .refl s
  · exact eases_dumpInService s c

theorem eases_headokLevel (s : State) (c : Chan) (b : Bool) : Eases s (putChan s c { chan s c with headok := b }) :=
  eases_putChan_same rfl (.inr rfl) fun law => ⟨law.height, law.force, law.low, law.high⟩

theorem eases_headokLost (c : Chan) (s : State) : Eases s (headokLost c s) := by
  refine .ite (fun _ => .ite (fun _ => eases_headokLevel ..) fun running => ?_) fun _ => .refl s
  rw [not_or] at running
  split
  · rename_i t lost
    exact ((eases_headokLevel ..).trans (eases_headLost (by exact running.1) lost)).trans (eases_offer ..)
  · exact eases_headokLevel ..

theorem eases_raiseTimeout (c : Chan) (s : State) : Eases s (raiseTimeout c s) := by
  refine .ite (fun due => (eases_failLower ?_).trans (eases_offerChan ..)) fun _ => .refl s
  simp only [raiseDue, Bool.and_eq_true, beq_iff_eq] at due
  exact (raised_iff _).mpr (.inl due.1)

theorem eases_contactLoss (c : Chan) (s : State) : Eases s (contactLoss c s) := by
  refine .ite (fun due => eases_noWire ?_) fun _ => .refl s
  simp only [contactDue, Bool.and_eq_true, beq_iff_eq] at due
  exact (raised_iff _).mpr (.inr due.1.1)

theorem eases_lowerTimeout (c : Chan) (s : State) : Eases s (lowerTimeout c s) := by
  refine .ite (fun due => ?_) fun _ => .refl s
  simp only [lowerDue, comingDown, Bool.and_eq_true, Bool.or_eq_true, beq_iff_eq] at due
  have stuck : Eases s (putChan s c { inState (chan s c) .stuck with dumpOn := true }) :=
    eases_putChan_down (descends_of_down (due.1.imp_right .inl) (.inr (.inr (.inr rfl))))
      (by rcases due.1 with h | h <;> simp [h]) (.inr rfl) rfl
  exact stuck.trans (eases_offerChan ..)

theorem eases_lockoutClear (p : List Byte) (s : State) : Eases s (lockoutClear p s).1 := by
  unfold lockoutClear
  split
  · exact .refl s
  · dsimp only
    split
    · exact .refl s
    · split
      · exact .refl s
      · rename_i locked
        rw [not_not] at locked
        split
        · exact .refl s
        · exact eases_putChan_down (descends_of_rest (.inr locked) (.inl rfl)) (by simp [locked]) (.inr rfl) rfl

/-! ### The force loop (R50 to R52) -/

theorem loopIntegrator_mem {r : Channel} (law : ChannelLaw r) (s : State) :
    -256000 ≤ loopIntegrator s r ∧ loopIntegrator s r ≤ 256000 := by
  unfold loopIntegrator
  dsimp only
  split
  · exact ⟨law.low, law.high⟩
  · split
    · exact ⟨law.low, law.high⟩
    · exact clampInt_mem (by decide) _

theorem eases_forceLoop (s : State) (c : Chan) : Eases s (forceLoop s c) := by
  unfold forceLoop
  dsimp only
  split
  · refine (eases_writeValve ..).trans (eases_putChan_same ?_ (.inr ?_) fun law => ?_)
    · rw [writeValve_chan]
    · rw [writeValve_chan]
    · rw [writeValve_chan] at law
      have bounds := loopIntegrator_mem law s
      exact ⟨law.height, law.force, bounds.1, bounds.2⟩
  · exact eases_writeValve ..
  all_goals exact .refl s

end Sys2Proof.Machine
end

section
/-!
PROOFS. The effects on the outputs, on ICE, on the position and on the profile store: they ease, but for a take, which
engages its channel, and for what changes a class.
-/

namespace Sys2Proof.Machine

/-! ### Outputs (R55 to R61) -/

theorem eases_putZone (s : State) (z : Fin 16) (o : Out) : Eases s (putZone s z o) := .of_view rfl rfl rfl

theorem eases_putOut {s : State} {x : Output} {o : Out} (h : OutEases (outOf s x) o) : Eases s (putOut s x o) := by
  cases x with
  | valve c => exact eases_putValve h
  | zone z => exact eases_putZone ..

theorem eases_mapValves {s : State} {f : Out → Out} (h : ∀ o, OutEases o (f o)) : Eases s (mapValves s f) :=
  eases_withRos fun c => by rw [quadMap_get]; exact h _

theorem eases_mapZones (s : State) (f : Out → Out) : Eases s (mapZones s f) := .of_view rfl rfl rfl

theorem outEases_returnOut (o : Out) : OutEases o (returnOut o) := by
  unfold returnOut
  split
  · exact .of_same rfl rfl
  · exact ⟨nofun, fun _ => (tooled_iff o).mpr (.inl ‹_›)⟩
  · exact .of_same rfl rfl

theorem eases_returnAll (s : State) : Eases s (returnAll s) :=
    (eases_mapValves outEases_returnOut).trans (eases_mapZones ..)

theorem eases_serviceLapse (s : State) : Eases s (serviceLapse s) :=
  .ite (fun _ => ((eases_withCau ..).trans (eases_offer ..)).trans (eases_returnAll _)) fun _ => .refl s

/-- A channel whose valve was being taken goes into SERVICE with it. -/
theorem eases_toService {s : State} {c : Chan} {o : Out} (taken : (valve s c).handover = .toService) :
    Eases s (putChan (putValve s c o) c (inState (chan s c) .service)) := by
  have was : ∀ r : Channel, served r (valve s c) = true := fun r => by simp [served, taken]
  refine .of ⟨fun d => ?_, fun _ d low => ?_⟩ (.of_view rfl)
  · by_cases e : d = c
    · subst e
      rw [chan_putChan_self, putChan_valve, valve_putValve_self]
      exact ⟨nofun, .inr rfl, channelLaw_of_kept rfl, nofun, fun _ => by simp [was], fun _ => by simp [was],
        fun _ _ => rfl⟩
    · rw [chan_putChan_other _ _ e, putValve_chan, putChan_valve, valve_putValve_other _ _ e]
      exact .refl _ _
  · by_cases e : d = c
    · subst e
      exact absurd taken ((resting_iff _ _).mp low).2.2
    · rwa [chan_putChan_other _ _ e, putValve_chan, putChan_valve, valve_putValve_other _ _ e]

theorem eases_takeEnds (o : Output) (s : State) (taken : (outOf s o).handover = .toService) : Eases s (takeEnds o s) := by
  have back : Eases s (putOut s o { outOf s o with handover := .none, cancelled := false }) :=
    eases_putOut ⟨nofun, by simp [tooled_iff]; exact .inl⟩
  refine .ite (fun _ => back) fun _ => ?_
  cases o with
  | valve c => exact .ite (fun _ => eases_toService taken) fun _ => back
  | zone z => exact eases_putZone ..

/-- A channel takes its state from its readings: what the write to its record is. -/
theorem stateFromReadings_cases (s : State) (c : Chan) (dump : Bool) : ∃ r,
    stateFromReadings s c dump = writeValve (putChan s c r) c 0 ∧ raised r = false ∧ r.state ≠ .service ∧
      r.role = (chan s c).role ∧ chanKept r = chanKept (chan s c) := by
  refine ⟨_, rfl, ?_⟩
  dsimp only
  split <;> split <;> exact ⟨rfl, nofun, rfl, rfl⟩

/-- A channel leaves SERVICE when its valve is the loop's again (R36, R60). -/
theorem eases_leaveService {s : State} {c : Chan} (own : tooled (valve s c) = false) : Eases s (leaveService s c) := by
  refine .ite (fun out => ?_) fun _ => .refl s
  obtain ⟨r, e, low, left, role, kept⟩ := stateFromReadings_cases s c (chan s c).dumpOn
  rw [e]
  refine (eases_putChan ⟨fun up => ?_, .inr role, channelLaw_of_kept kept, fun up => ?_, fun _ => ?_, fun _ => ?_,
    fun _ tool => ?_⟩ fun _ rest => ?_).trans (eases_writeValve ..)
  · simp [raised, up] at low
  · simp [up] at low
  · simp [served, out]
  · simp [served, out]
  · simp [tool] at own
  · simp [out] at rest

theorem eases_returnEnds (o : Output) (s : State) : Eases s (returnEnds o s) := by
  have given : Eases s (putOut s o { outOf s o with owner := .loop, handover := .none }) :=
    eases_putOut ⟨nofun, nofun⟩
  cases o with
  | valve c =>
    refine given.trans (eases_leaveService ?_)
    change tooled (valve (putValve s c _) c) = false
    rw [valve_putValve_self]
    rfl
  | zone z => exact given

theorem eases_safePeriodEnd (o : Output) (s : State) : Eases s (safePeriodEnd o s) := by
  refine .ite (fun _ => ?_) fun _ => .refl s
  split
  · exact .refl s
  · exact eases_takeEnds o s ‹_›
  · exact eases_returnEnds o s

/-! ### ICE (R133 to R147) -/

theorem eases_ambientReading (t : Int) (s : State) : Eases s (ambientReading t s) := by
  have stored : ∀ (x : Int) (v a : Bool),
      Eases s (s.withIce { s.ice with ambient := x, ambientValid := v, ambientArmed := a }) :=
    fun _ _ _ => .of_view rfl rfl rfl
  exact .ite (fun _ => stored _ _ _) fun _ => .ite (fun _ => (stored _ _ _).trans (eases_offerPlain ..)) fun _ => .refl s

theorem eases_auxokLost (s : State) : Eases s (auxokLost s) := by
  have lost : Eases s (mapZones (s.withRos { s.ros with auxok := false }) cut) := .of_view rfl rfl rfl
  have slot : ∀ u : State, Eases u (u.withIce { u.ice with slot := .held }) := fun _ => .of_view rfl rfl rfl
  exact .ite (fun _ => .ite (fun _ => lost) fun _ => (lost.trans (slot _)).trans (eases_offerPlain ..)) fun _ => .refl s

theorem eases_auxokReturn (s : State) : Eases s (auxokReturn s) :=
  .ite (fun _ => .of_view rfl rfl rfl) fun _ => .of_view rfl rfl rfl

/-- The state but for what the heaters' part of an event writes: the zones, the rotation and the slot. -/
def heaterBlind (s : State) : State :=
  (s.withRos { s.ros with zones := .const (.const .reset) }).withIce { s.ice with
    counters := .const 0, pointer := none, slot := .idle }

theorem writeZone_blind (s : State) (z : Fin 16) (d : Nat) : heaterBlind (writeZone s z d) = heaterBlind s := by
  rcases writeZone_cases s z d with e | e <;> rw [e]; rfl

theorem writeSlot_blind (s : State) (zs : List (Fin 16)) (d : Nat) : heaterBlind (writeSlot s zs d) = heaterBlind s := by
  unfold writeSlot
  dsimp only
  rw [foldl_frame heaterBlind _ fun s z => writeZone_blind s z d, foldl_frame heaterBlind _ fun s z => ?_]
  split
  · rfl
  · exact writeZone_blind s z 0

theorem slotStart_blind (s : State) : heaterBlind (slotStart s) = heaterBlind s := by
  unfold slotStart
  split
  · rfl
  · split
    · exact writeSlot_blind ..
    · exact writeSlot_blind ..

theorem budgetCut_blind (s : State) : heaterBlind (budgetCut s) = heaterBlind s :=
  foldl_frame heaterBlind (fun s z => putZone s z (cut (zoneOut s z))) (fun _ _ => rfl) _ s

theorem resetRotation_blind (b s : State) : heaterBlind (resetRotation b s) = heaterBlind s := by
  unfold resetRotation
  split <;> rfl

theorem heaterTest_blind (b s : State) : heaterBlind (heaterTest b s) = heaterBlind s := by
  have tested : heaterBlind (budgetCut (resetRotation b s)) = heaterBlind s := by
    rw [budgetCut_blind, resetRotation_blind]
  unfold heaterTest
  dsimp only
  split
  · rw [slotStart_blind, tested]
  · exact tested

/-- The laws read nothing of what the heaters' part writes. -/
theorem eases_of_blind {s t : State} (h : heaterBlind t = heaterBlind s) : Eases s t := by
  have view : otherView (heaterBlind t) = otherView (heaterBlind s) := congrArg otherView h
  exact .of_view (congrArg (·.pcu.chans) h) (congrArg (·.ros.valves) h) view

theorem eases_slotExpiry (s : State) : Eases s (slotExpiry s) :=
  .ite (fun _ => eases_of_blind (slotStart_blind s)) fun _ => .refl s

/-! ### The position (R95 to R97) -/

/-- A write of the position record, within its bounds. -/
theorem eases_position {s : State} {p : Position}
    (h : PositionHolds s → PositionHolds (s.withSmp { s.smp with pos := p })) :
    Eases s (s.withSmp { s.smp with pos := p }) :=
  .of (.of_same rfl rfl) ⟨fun _ _ => rfl, id, rfl, Iff.rfl, id, id, fun h => ⟨h.index, h.arcs⟩, h⟩

theorem eases_takePosition {p track : Nat} (minus : Bool) (v : Nat) (s : State) (hp : p ≤ 16777215) (ht : track ≤ 14) :
    Eases s (takePosition p track minus v s) := by
  have offered : Eases s (if jumps s p then offer s ⟨.positionJump, some (.position p), false⟩ else s) :=
    .ite (fun _ => eases_offer ..) fun _ => .refl s
  unfold takePosition
  refine (offered.trans (eases_position fun _ => ?_)).trans (eases_newOutlook _)
  exact ⟨hp, Nat.zero_le _, Nat.min_le_left .., ht⟩

/-- A pulse keeps the record within its bounds (R96). -/
theorem movePosition_bounds {p : Position} (metres : p.positionM ≤ 16777215) (remainder : p.remainderMm ≤ 999)
    (mm : Nat) :
    (movePosition p mm).positionM ≤ 16777215 ∧ (movePosition p mm).remainderMm ≤ 999 := by
  have top : movedMm p mm ≤ 16777215 * 1000 + 999 := by
    unfold movedMm positionTopMm
    dsimp only
    split <;> omega
  have position : (movePosition p mm).positionM = movedMm p mm / 1000 := rfl
  have rest : (movePosition p mm).remainderMm = movedMm p mm % 1000 := rfl
  omega

theorem eases_odometerPulse (s : State) : Eases s (odometerPulse s) := by
  have moved : ∀ mm travel, Eases s (s.withSmp { s.smp with pos :=
      { movePosition s.smp.pos mm with travelMm := travel } }) := fun mm travel => eases_position fun h => by
    obtain ⟨metres, remainder⟩ := movePosition_bounds h.metres h.remainder mm
    exact ⟨metres, remainder, h.speed, h.track⟩
  exact .ite (fun _ => .ite (fun _ => (moved _ _).trans (eases_newOutlook _)) fun _ => moved _ _) fun _ => .refl s

theorem eases_positionLapse (s : State) : Eases s (positionLapse s) :=
  .ite (fun _ => ((eases_position (p := { s.smp.pos with stale := true })
    fun h => ⟨h.metres, h.remainder, h.speed, h.track⟩).trans (eases_offer ..)).trans (eases_newOutlook _)) fun _ =>
      .refl s

/-! ### The winter layers (R185, R186) -/

theorem layerGet_none_of {l : Layer} {n : Nat} (h : ∀ x ∈ l, x.1 ≠ n) : layerGet l n = none := by
  induction l with
  | nil => rfl
  | cons x xs ih =>
    obtain ⟨hx, hxs⟩ := List.forall_mem_cons.mp h
    unfold layerGet
    rw [if_neg hx, ih hxs]

/-- The winter layer carries no class (R186). -/
theorem winterValue_class {p : Pst} (h : WinterCarried p) (c : Chan) :
    winterValue p (Par.chanClass + chanIndex c) = none := by
  have notCarried : winterCarries (Par.chanClass + chanIndex c) = false := by cases c <;> rfl
  unfold winterValue
  split
  · refine layerGet_none_of fun x hx e => ?_
    have := h x (List.mem_append_left _ hx)
    rw [e, notCarried] at this
    cases this
  · rfl

/-- While the winter layers are as R186 says, the classes are those of the layers below. -/
theorem chanClass_of_winter {s t : State} (hs : WinterCarried s.pst) (ht : WinterCarried t.pst)
    (live : t.pst.live = s.pst.live) (link : t.pst.link = s.pst.link) (profile : t.pst.profile = s.pst.profile)
    (c : Chan) : chanClass t c = chanClass s c := by
  have same : eff t (Par.chanClass + chanIndex c) = eff s (Par.chanClass + chanIndex c) := by
    unfold eff pstEff
    rw [winterValue_class hs, winterValue_class ht, live, link, profile]
  unfold chanClass
  rw [same]

/-- A change of the winter overlay. -/
theorem eases_winter {s : State} {p : Pst} (live : p.live = s.pst.live) (link : p.link = s.pst.link)
    (profile : p.profile = s.pst.profile) (winter : WinterCarried s.pst → WinterCarried p) : Eases s (s.withPst p) :=
  .of (.of_same rfl rfl) ⟨fun h => chanClass_of_winter h (winter h) live link profile, winter, rfl, Iff.rfl, id, id,
    fun h => ⟨h.index, h.arcs⟩, fun h => ⟨h.metres, h.remainder, h.speed, h.track⟩⟩

theorem eases_setSeg (s : State) (g : Segment) (x : SegLoad) : Eases s (s.withPst (setSeg s.pst g x)) :=
  eases_winter rfl rfl rfl id

theorem eases_winterApply (s : State) : Eases s (winterApply s) := by
  unfold winterApply
  split
  · refine .ite (fun _ => ?_) fun _ => .refl s
    split
    · exact (eases_setSeg ..).trans (eases_offerPlain ..)
    · exact eases_winter rfl rfl rfl id
  · exact eases_winter rfl rfl rfl id
  · exact eases_winter rfl rfl rfl id
  all_goals exact .refl s

theorem eases_winterRemove (s : State) : Eases s (winterRemove s) := by
  unfold winterRemove
  split
  · exact eases_winter rfl rfl rfl id
  · exact eases_winter rfl rfl rfl fun h x hx => h x (List.mem_append_left _ (by simpa using hx))
  · exact eases_winter rfl rfl rfl id
  all_goals exact .refl s

theorem nextIndex_le (s : State) : nextIndex s ≤ 1000 := by
  unfold nextIndex
  dsimp only
  generalize ((s.ice.index : Int) + _ + _ + _ - _) = x
  have := clampInt_mem (lo := 0) (hi := 1000) (by decide) x
  omega

theorem eases_iceUpdate (s : State) : Eases s (iceUpdate s) := by
  have updated : ∀ l, Eases s (s.withIce { s.ice with index := nextIndex s, arcCount := 0, level := l }) := fun _ =>
    .of (.of_same rfl rfl) ⟨fun _ _ => rfl, id, rfl, Iff.rfl, id, id, fun _ => ⟨nextIndex_le s, Nat.zero_le _⟩,
      fun h => ⟨h.metres, h.remainder, h.speed, h.track⟩⟩
  have asked : ∀ (u : State) (b : Bool), Eases u (u.withIce { u.ice with winterRequest := b }) := fun _ _ =>
    .of_view rfl rfl rfl
  refine .ite (fun _ => .refl s) fun _ => (updated _).trans (.ite (fun _ => .refl _) fun _ => ?_)
  split
  · exact (asked ..).trans (eases_winterApply _)
  · exact (asked ..).trans (eases_winterRemove _)
  · exact .refl _

end Sys2Proof.Machine
end

section
/-!
PROOFS. The profile store, the requests and the link: what they do is tame, and so is every command's effect before its
event settles.
-/

namespace Sys2Proof.Machine

/-! ### Records taken (R176, R186) -/

theorem mem_layerSet {l : Layer} {n : Nat} {v : Int} {x : Nat × Int} (h : x ∈ layerSet l n v) : x = (n, v) ∨ x ∈ l := by
  induction l with
  | nil => simpa [layerSet] using h
  | cons y ys ih =>
    unfold layerSet at h
    split at h
    · simpa using h
    · split at h
      · rcases List.mem_cons.mp h with e | e
        · exact .inl e
        · exact .inr (List.mem_cons_of_mem _ e)
      · rcases List.mem_cons.mp h with e | e
        · exact .inr (e ▸ List.mem_cons_self)
        · exact (ih e).imp_right (List.mem_cons_of_mem _)

/-- The records taken are of parameters that the layer may carry. -/
theorem takeRecords_carries {carries : Nat → Bool} (rs : List (List Byte)) (s : State) {l : Layer}
    (h : ∀ x ∈ l, carries x.1 = true) : ∀ x ∈ (takeRecords carries s l rs).2, carries x.1 = true := by
  induction rs generalizing s l with
  | nil => exact h
  | cons r rs ih =>
    unfold takeRecords
    split
    · rename_i l1 e
      refine ih s fun x hx => ?_
      unfold takeRecord at e
      dsimp only at e
      split at e
      · rename_i ok
        cases e
        rcases mem_layerSet hx with rfl | hx
        · exact (Bool.and_eq_true _ _ ▸ ok).2
        · exact h x hx
      · cases e
    · rename_i l1 n e
      refine ih _ ?_
      unfold takeRecord at e
      dsimp only at e
      split at e
      · cases e
      · cases e; exact h

theorem eases_takeRecords (carries : Nat → Bool) (rs : List (List Byte)) (s : State) (l : Layer) :
    Eases s (takeRecords carries s l rs).1 := by
  induction rs generalizing s l with
  | nil => exact .refl s
  | cons r rs ih =>
    unfold takeRecords
    split
    · exact ih ..
    · exact (eases_offerParam ..).trans (ih ..)

/-! ### The winter overlay's reads (R185) -/

theorem eases_winterTake (bs : List Byte) (s : State) : Eases s (winterTake bs s).1 :=
  Eases.trans (.ite (fun _ => (eases_setSeg ..).trans (eases_offerPlain ..)) fun _ => eases_setSeg ..)
    (eases_takeRecords ..)

theorem eases_winterReadEnd (bs : List Byte) (s : State) : Eases s (winterReadEnd bs s) := by
  refine .ite (fun _ => ?_) fun _ => .refl s
  split
  · refine (eases_winterTake bs s).trans (eases_winter rfl rfl rfl fun h x hx => ?_)
    rcases List.mem_append.mp hx with hx | hx
    · exact h x (List.mem_append_left _ hx)
    · exact takeRecords_carries _ _ (by simp) x hx
  · exact (eases_winterTake bs s).trans (eases_winter rfl rfl rfl id)
  all_goals exact .refl s

theorem eases_winterRead (r : ReadResult) (s : State) : Eases s (winterRead r s) := by
  unfold winterRead
  split
  · exact .refl s
  · exact eases_winterReadEnd ..
  · unfold winterReadFail
    split
    · exact Eases.trans (t := s.withPst { s.pst with winterState := .off }) (eases_winter rfl rfl rfl id)
        (eases_offerPlain ..)
    · exact eases_winter rfl rfl rfl id
    all_goals exact .refl s

/-! ### Classes that change (R47) -/

/-- A channel written low and out of SERVICE, from any state. -/
theorem lulls_putChan {s : State} {c : Chan} {r : Channel} (low : raised r = false) (left : r.state ≠ .service)
    (role : r.role = (chan s c).role) (kept : chanKept r = chanKept (chan s c)) : Lulls s (putChan s c r) where
  rise d up := by
    rw [chan_putChan] at up
    split at up
    · simp [raised, up] at low
    · exact up
  role d := by
    rw [chan_putChan]
    split
    · subst_vars; exact .inr role
    · exact .inr rfl
  request := id
  outcomes := id
  ice h := ⟨h.index, h.arcs⟩
  position h := ⟨h.metres, h.remainder, h.speed, h.track⟩
  channels h d := by
    rw [chan_putChan]
    split
    · subst_vars; exact channelLaw_of_kept kept (h _)
    · exact h d
  still h d := by
    obtain ⟨idle, own⟩ := h d
    rw [engaged_eq, putChan_valve, chan_putChan]
    refine ⟨?_, own⟩
    split
    · subst_vars
      have free : (valve s d).handover ≠ .toService := fun e => by simp [engaged_eq, served, e] at idle
      simp [low, served, left, free]
    · exact idle
  held := rfl
  starting := Iff.rfl

theorem lulls_withPst (s : State) (p : Pst) : Lulls s (s.withPst p) where
  rise _ := id
  role _ := .inr rfl
  request := id
  outcomes := id
  ice h := ⟨h.index, h.arcs⟩
  position h := ⟨h.metres, h.remainder, h.speed, h.track⟩
  channels := id
  still := id
  held := rfl
  starting := Iff.rfl

theorem lulls_initialState (s : State) (c : Chan) : Lulls s (initialState s c) := by
  have hold : ∀ u : State, Eases u (startHold u c) := fun u => .ite
    (fun _ => eases_putChan_same rfl (.inr rfl) (channelLaw_of_kept rfl)) fun _ => .refl u
  unfold initialState
  split
  · obtain ⟨r, e, low, left, role, kept⟩ := stateFromReadings_cases s c false
    rw [e]
    exact ((lulls_putChan low left role kept).trans (eases_writeValve ..).toLulls).trans (hold _).toLulls
  · exact .refl s

theorem lulls_classChanged (b s : State) (c : Chan) : Lulls s (classChanged b s c) := by
  unfold classChanged
  split
  · exact .refl s
  · refine Lulls.trans ?_ (eases_retarget ..).toLulls
    split
    · exact lulls_putChan rfl nofun rfl rfl
    · split
      · dsimp only
        split
        · exact lulls_initialState s c
        · exact (lulls_initialState s c).trans (eases_offerChan ..).toLulls
      · exact .refl s

/-- What a change of layers does once the classes have been seen to. -/
def applyRest (b s : State) : State :=
  let s2 := if forceParams.any (effChanged b s) then retargetAll s else s
  if effChanged b s2 Par.stripMax then testAllStrips s2 else s2

theorem applyChange_eq (b s : State) : applyChange b s = applyRest b (allChans.foldl (classChanged b) s) := rfl

theorem eases_applyRest (b s : State) : Eases s (applyRest b s) := by
  have forced : Eases s (if forceParams.any (effChanged b s) then retargetAll s else s) :=
    .ite (fun _ => eases_retargetAll s) fun _ => .refl s
  exact .ite (fun _ => forced.trans (eases_testAllStrips _)) fun _ => forced

theorem lulls_applyChange (b s : State) : Lulls s (applyChange b s) := by
  rw [applyChange_eq]
  exact (Lulls.foldl (lulls_classChanged b) _ s).trans (eases_applyRest ..).toLulls

/-- Where the laws say that no class changes, the effects ease. -/
theorem eases_applyChange {b s : State} (h : ClassesApart s → ∀ c, chanClass b c = chanClass s c) :
    Eases s (applyChange b s) := by
  refine ⟨lulls_applyChange b s, fun apart => ?_⟩
  have same : ∀ c, classChanged b s c = s := fun c => if_pos (h apart c)
  have none : allChans.foldl (classChanged b) s = s := by simp [allChans, same]
  rw [applyChange_eq, none]
  exact (eases_applyRest b s).apart apart

/-- Where nothing was engaged, the classes may become any. -/
theorem ClassesApart.of_lulls {s t : State} (apart : ClassesApart s) (still : Still s) (run : s.roofState ≠ .starting)
    (lulls : Lulls s t) (winter : WinterCarried t.pst) : ClassesApart t :=
  .of_still (lulls.still still) (fun held => absurd (apart.held (lulls.held ▸ held)) run)
    (fun start => absurd (lulls.starting.mp start) run) winter

/-! ### A force control period (R48, R50, R186) -/

theorem eases_winterCheck (s : State) (g : Group) : Eases s (winterCheck s g) := by
  unfold winterCheck
  split
  · exact .refl s
  · refine Eases.trans (t := s.withPst { s.pst with winterHeld := dropGroup s.pst.winterHeld g })
      (eases_winter rfl rfl rfl fun h x hx => ?_) (eases_offerParam ..)
    rcases List.mem_append.mp hx with hx | hx
    · exact h x (List.mem_append_left _ hx)
    · exact h x (List.mem_append_right _ (List.mem_of_mem_filter hx))

/-- The checks of the overlay leave the layers below it. -/
theorem winterCheck_below (s : State) (g : Group) : ((winterCheck s g).pst.live, (winterCheck s g).pst.link,
    (winterCheck s g).pst.profile) = (s.pst.live, s.pst.link, s.pst.profile) := by
  unfold winterCheck offerParam
  split
  · rfl
  · rw [offer_pst]
    rfl

/-- A change of the overlay changes no class. -/
theorem eases_overlay {s u : State} {p : Pst} (before : Eases s u)
    (below : (p.live, p.link, p.profile) = (s.pst.live, s.pst.link, s.pst.profile))
    (same : (u.pst.live, u.pst.link, u.pst.profile) = (s.pst.live, s.pst.link, s.pst.profile))
    (winter : WinterCarried u.pst → WinterCarried p) : Eases s (applyChange s (u.withPst p)) := by
  simp only [Prod.mk.injEq] at below same
  obtain ⟨live, link, profile⟩ := below
  obtain ⟨live', link', profile'⟩ := same
  have written : Eases s (u.withPst p) :=
    before.trans (eases_winter (live.trans live'.symm) (link.trans link'.symm) (profile.trans profile'.symm) winter)
  have lulls := written.toLulls.trans (lulls_applyChange s (u.withPst p))
  refine ⟨lulls, fun apart => ?_⟩
  have apart' := written.apart apart
  exact (eases_applyChange fun _ c =>
    (chanClass_of_winter apart.winter apart'.winter live link profile c).symm).apart apart'

theorem eases_winterPeriod (s : State) : Eases s (winterPeriod s) := by
  unfold winterPeriod
  split
  · have checked : Eases s ([Group.panto, .ice].foldl winterCheck s) := .foldl eases_winterCheck _ s
    have below := foldl_frame (fun s : State => (s.pst.live, s.pst.link, s.pst.profile)) winterCheck winterCheck_below
      [Group.panto, .ice] s
    exact eases_overlay checked below below fun h x hx => h x (List.mem_append_right _ (by simpa using hx))
  · exact eases_overlay (.refl s) rfl rfl fun h x hx => h x (List.mem_append_right _ (by simpa using hx))
  all_goals exact .refl s

theorem eases_forcePeriod (s : State) : Eases s (forcePeriod s) :=
  .ite (fun _ => .refl s) fun _ =>
    ((eases_retargetAll s).trans (.foldl eases_forceLoop _ _)).trans (eases_winterPeriod _)

/-! ### PARAMETER SET (R183) -/

theorem eases_generalEffects (n : Nat) (s : State) : Eases s (generalEffects n s) :=
  .ite (fun _ => eases_demandExpiry s) fun _ => .ite (fun _ => eases_cabLapse s) fun _ =>
    .ite (fun _ => eases_converterRetest s) fun _ => .ite (fun _ => eases_positionLapse s) fun _ =>
      .ite (fun _ => eases_newOutlook s) fun _ => .refl s

theorem lulls_takeSet (n : Nat) (v : Int) (s : State) : Lulls s (takeSet n v s) := by
  have written : Lulls s (setWritten n v s) := by
    unfold setWritten
    split
    · exact (lulls_withPst ..).trans (eases_restartIdent _).toLulls
    · exact lulls_withPst ..
  rw [takeSet_eq]
  split
  · exact (written.trans (lulls_applyChange ..)).trans (eases_generalEffects ..).toLulls
  · exact written

/-- A quiet roof runs, and where the classes are apart nothing is engaged in it (R24). -/
theorem quiet_still {s : State} (h : roofQuiet s = true) (apart : ClassesApart s) :
    Still s ∧ s.roofState ≠ .starting := by
  simp only [roofQuiet, Bool.and_eq_true, List.all_eq_true, mem_allChans, true_implies, Bool.or_eq_true,
    Bool.not_eq_true', bne_iff_ne, noValveTaken, beq_iff_eq] at h
  obtain ⟨⟨⟨⟨⟨rest, out⟩, free⟩, -⟩, -⟩, ready⟩ := h
  refine ⟨fun c => ?_, by simp [ready]⟩
  have low : raised (chan s c) = false := by
    by_contra up
    rw [Bool.not_eq_false] at up
    rcases rest c with e | e
    · simp [apart.fitted c up] at e
    · simp [awayFromRest_eq, away_of_raised up] at e
  refine ⟨by simp [engaged_eq, low, served, out c, free c], ?_⟩
  by_contra tool
  exact out c (apart.service c (by simpa using tool))

theorem tame_parameterSet (p : List Byte) (s : State) : Tame s (parameterSet p s).1 := by
  have taken : ∀ n v, roofQuiet s = true → Tame s (takeSet n v s) := fun n v quiet =>
    ⟨(lulls_takeSet n v s).toSinks, fun apart => by
      obtain ⟨still, run⟩ := quiet_still quiet apart
      exact apart.of_lulls still run (lulls_takeSet n v s) (by rw [takeSet_pst]; exact apart.winter)⟩
  unfold parameterSet
  dsimp only
  split
  · exact .refl s
  · rename_i loud
    split
    · exact .refl s
    · split
      · exact .refl s
      · split
        · exact .refl s
        · exact taken _ _ (by simpa using loud)

/-! ### The load (R174 to R179) -/

/-- A load goes on. -/
structure Loading (s : State) : Prop where
  held : s.held = false
  starting : s.roofState = .starting

theorem Loading.of_lulls {s t : State} (h : Loading s) (lulls : Lulls s t) : Loading t :=
  ⟨lulls.held.trans h.held, lulls.starting.mpr h.starting⟩

/-- During STARTING the layers may change: every channel is at rest. -/
theorem eases_withPst_starting {s : State} (start : s.roofState = .starting) (p : Pst)
    (winter : WinterCarried s.pst → WinterCarried p) : Eases s (s.withPst p) :=
  ⟨lulls_withPst s p, fun apart => .of_still (still_of_resting (apart.starting start)) apart.held apart.starting
    (winter apart.winter)⟩

theorem eases_startBrk (s : State) (b : Brk) : Eases s (startBrk s b) :=
  .ite (fun _ => (eases_putBrk ..).trans (eases_offerBrk ..)) fun _ => eases_putBrk ..

theorem lulls_startBlocks (s : State) : Lulls s (startBlocks s) := by
  have offers : Eases (s.withPst { s.pst with live := true, load := .idle }) (offerDrops (startBrk (startBrk
      (s.withPst { s.pst with live := true, load := .idle }) .bka) .bkd)) :=
    ((eases_startBrk ..).trans (eases_startBrk ..)).trans (.foldl (fun s c => eases_offerChan s _ c) _ _)
  have channels : ∀ u, Lulls u (startChannels u) := fun u =>
    ((Lulls.foldl lulls_initialState _ u).trans (eases_retargetAll _).toLulls).trans (eases_testAllStrips _).toLulls
  exact ((lulls_withPst ..).trans offers.toLulls).trans (channels _)

theorem startEnds_running (s : State) : (startEnds s).roofState ≠ .starting := by
  have roof : (startEnds s).roofState = if anyCorrupt s.flt then .safeHeld else .ready := rfl
  rw [roof]
  split <;> simp

theorem sinks_startEnds (s : State) : Sinks s (startEnds s) :=
  ⟨fun _ => id, fun _ => .inr rfl, id, id, fun h => ⟨h.index, h.arcs⟩,
    fun h => ⟨h.metres, h.remainder, h.speed, h.track⟩, id⟩

/-- Where nothing is engaged the roof may leave STARTING. -/
theorem ClassesApart.startEnds {s : State} (still : Still s) (live : s.held = false) (winter : WinterCarried s.pst) :
    ClassesApart (startEnds s) :=
  .of_still still (fun held => Bool.noConfusion (live.symm.trans held)) (fun start =>
    absurd start (startEnds_running s)) winter

/-- The end of STARTING finds every channel at rest, and raises none. -/
theorem tame_endStarting {s : State} (load : Loading s) : Tame s (endStarting s) := by
  have blocks := lulls_startBlocks s
  have live := blocks.held.trans load.held
  have loaded : (startBlocks s).pst = _ := (startBlocks_frame s).1
  rw [endStarting_eq]
  generalize startBlocks s = u at blocks live loaded
  exact ⟨blocks.toSinks.trans (sinks_startEnds u), fun apart =>
    .startEnds (blocks.still (still_of_resting (apart.starting load.starting))) live (by rw [loaded]; exact apart.winter)⟩

theorem tame_fallBack {s : State} (load : Loading s) (x : DefaultsReason) : Tame s (fallBack s x) := by
  have noted : Eases s (s.withPst { s.pst with fromEeprom := false, reason := some x }) :=
    eases_withPst_starting load.starting _ id
  exact noted.tame.trans (tame_endStarting (load.of_lulls noted.toLulls))

theorem eases_revertGroup {s : State} (start : s.roofState = .starting) (g : Group) : Eases s (revertGroup s g) := by
  unfold revertGroup
  split
  · exact .refl s
  · exact (eases_withPst_starting start { s.pst with
      profile := dropGroup s.pst.profile g, reverted := s.pst.reverted ++ [g] } id).trans (eases_offerParam ..)

theorem tame_finishLoad {s : State} (load : Loading s) : Tame s (finishLoad s) := by
  have reverted : ∀ (gs : List Group) (u : State), Loading u → Eases u (gs.foldl revertGroup u) := fun gs => by
    induction gs with
    | nil => exact fun u _ => .refl u
    | cons g gs ih =>
      intro u loading
      have first := eases_revertGroup loading.starting g
      exact first.trans (ih _ (loading.of_lulls first.toLulls))
  have all := reverted checkedGroups s load
  exact all.tame.trans (tame_endStarting (load.of_lulls all.toLulls))

theorem tame_advanceLoad (gs : List Segment) {s : State} (load : Loading s) : Tame s (advanceLoad s gs) := by
  induction gs generalizing s with
  | nil => exact tame_finishLoad load
  | cons g rest ih =>
    unfold advanceLoad
    split
    · rename_i x k _
      have passed := (eases_setSeg s g x).trans (eases_offerPlain _ k)
      exact passed.tame.trans (ih (load.of_lulls passed.toLulls))
    · exact (eases_withPst_starting load.starting { s.pst with load := .segment g rest } id).tame

theorem tame_headerRead (r : ReadResult) {s : State} (live : s.held = false) : Tame s (headerRead r s) := by
  refine .ite (fun loading => ?_) fun _ => .refl s
  have load : Loading s := ⟨live, loading.1⟩
  have offered : ∀ k, Loading (offerPlain s k) := fun k => load.of_lulls (eases_offerPlain s k).toLulls
  split
  · exact .refl s
  · exact (eases_offerPlain ..).tame.trans (tame_fallBack (offered _) _)
  · rename_i bs
    refine .ite (fun _ => ?_) fun _ => (eases_offerPlain ..).tame.trans (tame_fallBack (offered _) _)
    have described := eases_withPst_starting load.starting { s.pst with
      fromEeprom := true, descriptors := readDescriptors bs } id
    exact described.tame.trans (tame_advanceLoad _ (load.of_lulls described.toLulls))

theorem eases_takeFixed (s : State) (bs : List Byte) : Eases s (takeFixed s bs) := by
  unfold takeFixed
  dsimp only
  split
  · exact eases_offer ..
  · exact .ite (fun _ => eases_offer ..) fun _ => .ite (fun _ => eases_offer ..) fun _ => .of_view rfl rfl rfl

theorem eases_takeSegment (g : Segment) (bs : List Byte) {s : State} (load : Loading s) :
    Eases s (takeSegment g bs s) := by
  have marked : ∀ x, Eases s (if x = SegLoad.part then offerPlain (s.withPst (setSeg s.pst g x)) .segmentInvalid
      else s.withPst (setSeg s.pst g x)) :=
    fun _ => .ite (fun _ => (eases_setSeg ..).trans (eases_offerPlain ..)) fun _ => eases_setSeg ..
  refine .ite (fun _ => (marked _).trans (.foldl eases_takeFixed _ _)) fun _ => ?_
  have recorded := fun x l => (marked x).trans (eases_takeRecords (fun _ => true) (wholeRecords 4 bs) _ l)
  exact (recorded _ _).trans (eases_withPst_starting (load.of_lulls (recorded _ _).toLulls).starting _ id)

theorem loading_starting {s : State} {x : Segment × List Segment} (h : loading s = some x) : s.roofState = .starting := by
  by_contra other
  rw [loading, if_neg other] at h
  cases h

theorem tame_loadNoAnswer {s : State} (load : Loading s) : Tame s (loadNoAnswer s) := by
  have offered := eases_offerPlain s .eepromNoAnswer
  have emptied := fun p => offered.trans (eases_withPst_starting (load.of_lulls offered.toLulls).starting
    { (offerPlain s .eepromNoAnswer).pst with profile := [], segs := p, reverted := [] } id)
  have table : ∀ (u : State) (t : List Entry), Eases u (u.withSmp { u.smp with table := t }) := fun _ _ =>
      .of_view rfl rfl rfl
  have cleared := fun t => (emptied (List.replicate 9 .notRead)).trans (table _ t)
  exact (cleared _).tame.trans (tame_fallBack (load.of_lulls (cleared _).toLulls) _)

theorem tame_segmentRead (r : ReadResult) {s : State} (live : s.held = false) : Tame s (segmentRead r s) := by
  unfold segmentRead
  split
  · refine .ite (fun _ => ?_) fun _ => .refl s
    rename_i g rest bs at_ _
    have load : Loading s := ⟨live, loading_starting at_⟩
    have taken := eases_takeSegment g bs load
    exact taken.tame.trans (tame_advanceLoad _ (load.of_lulls taken.toLulls))
  · exact tame_loadNoAnswer ⟨live, loading_starting ‹_›⟩
  · exact .refl s
  · exact .refl s

end Sys2Proof.Machine
end

section
/-!
PROOFS. The resets, the requests and the link: what they do is tame, or a reset.
-/

namespace Sys2Proof.Machine

/-! ### Resets (R171, R187) -/

theorem outcomesHold_holdReset (f : Flt) (s : State) : OutcomesHold (holdReset f s) := Nat.zero_le 4
theorem iceHolds_holdReset (f : Flt) (s : State) : IceHolds (holdReset f s) := ⟨Nat.zero_le _, Nat.zero_le _⟩
theorem positionHolds_holdReset (f : Flt) (s : State) : PositionHolds (holdReset f s) :=
  ⟨Nat.zero_le _, Nat.zero_le _, Nat.zero_le _, Nat.zero_le _⟩

theorem channelLaw_reset (b : Bool) : ChannelLaw (Channel.reset b) := by
  refine ⟨?_, ?_, ?_, ?_⟩ <;> simp [Channel.reset]

/-- A held reset leaves every channel at rest and every record at its reset value. -/
theorem tame_holdReset (f : Flt) (s : State) : Tame s (holdReset f s) where
  rise c up := by simp [holdReset_chan, Channel.reset] at up
  role c := by simp [holdReset_chan, Channel.reset]
  request := nofun
  outcomes _ := outcomesHold_holdReset f s
  ice _ := iceHolds_holdReset f s
  position _ := positionHolds_holdReset f s
  channels _ c := by rw [holdReset_chan]; exact channelLaw_reset _
  apart _ := by
    have rest : ∀ c, resting (chan (holdReset f s) c) (valve (holdReset f s) c) := fun c => by
      rw [holdReset_chan, holdReset_valve]
      exact ⟨rfl, rfl, rfl⟩
    exact .of_still (still_of_resting rest) (fun _ => rfl) (fun _ => rest) nofun

/-- The release up to the load. -/
def releaseStart (straps : BitVec 5) (s : State) : State :=
  (((s.withHeld false).withNow 0).withRoof .starting).withPst (Pst.reset straps)

theorem releaseReset_eq (straps : BitVec 5) (s : State) : releaseReset straps s =
    if strapEeprom (releaseStart straps s).pst
      then (releaseStart straps s).withPst { (releaseStart straps s).pst with load := .header }
      else fallBack (releaseStart straps s) .strap := rfl

theorem tame_releaseStart (straps : BitVec 5) {s : State} (held : s.held = true) : Tame s (releaseStart straps s) where
  rise _ := id
  role _ := .inr rfl
  request := id
  outcomes := id
  ice h := ⟨h.index, h.arcs⟩
  position h := ⟨h.metres, h.remainder, h.speed, h.track⟩
  channels := id
  apart h :=
    have rest := h.starting (h.held held)
    .of_still (still_of_resting (s := releaseStart straps s) rest) nofun (fun _ => rest) nofun

theorem tame_releaseReset (straps : BitVec 5) {s : State} (held : s.held = true) : Tame s (releaseReset straps s) := by
  have load : Loading (releaseStart straps s) := ⟨rfl, rfl⟩
  have first := tame_releaseStart straps held
  rw [releaseReset_eq]
  generalize releaseStart straps s = u at load first
  exact first.trans (.ite
    (fun _ => (eases_withPst_starting load.starting { u.pst with load := .header } id).tame) fun _ =>
      tame_fallBack load _)

theorem tame_softResetAct (straps : BitVec 5) (s : State) : Tame s (softResetAct straps s) :=
  .ite (fun _ => (tame_holdReset ..).trans (tame_releaseReset straps rfl)) fun _ => .refl s

/-! ### The requests that only lower, or move a record -/

theorem eases_settleEnd (s : State) : Eases s (settleEnd s) :=
  .ite (fun _ => eases_winter (p := { s.pst with settle := false }) rfl rfl rfl id) fun _ => .refl s

theorem eases_withPcu_preferred (s : State) (p : Option Chan) : Eases s (setPreferred s p) := .of_view rfl rfl rfl

theorem eases_cabTake (st : Station) (s : State) : Eases s (cabTake st s).1 := by
  unfold cabTake
  split
  · exact eases_setActive ..
  · split <;> exact .refl s

theorem eases_cabRelease (st : Station) (s : State) : Eases s (cabRelease st s).1 :=
  (eases_setActive s none).trans (eases_roofDownRequest ..)

theorem eases_cabPass (s : State) : Eases s (cabPass s).1 := by
  unfold cabPass
  split
  · exact (eases_setActive ..).trans (eases_withCau ..)
  · exact .refl s

theorem eases_refreshDemand (s : State) : Eases s (refreshDemand s) := by
  unfold refreshDemand
  split
  · exact eases_withCau ..
  · exact eases_withCau ..
  · exact .refl s

theorem eases_roofUpChoice (s : State) (t : Sys) (p : Option Chan) : Eases s (roofUpChoice s t p).1 := by
  have wished : ∀ q, Eases s (setPreferred (refreshDemand s) q) := fun q =>
    (eases_refreshDemand s).trans (eases_withPcu_preferred ..)
  unfold roofUpChoice
  split
  · exact eases_refreshDemand s
  · split
    · split
      · exact .refl s
      · split
        · exact .refl s
        · split
          · exact .refl s
          · exact wished _
    · split
      · exact .refl s
      · exact wished _

theorem eases_roofUp (p : List Byte) (s : State) : Eases s (roofUp p s).1 := by
  unfold roofUp
  dsimp only
  split
  · exact .refl s
  · split
    · exact .refl s
    · split
      · exact .refl s
      · split
        · exact .refl s
        · split
          · exact .refl s
          · exact eases_roofUpChoice ..

theorem eases_retargetSeq (s : State) (q : Sequence) (t : Sys) : Eases s (retargetSeq s q t) := by
  have put := eases_putSeq s (if q.stage = .waitSection ∧ otherClassUp s t = true
    then { q with target := some t, lowerAll := true, exit := some .lowering } else { q with target := some t })
  exact .ite (fun _ => put.trans (eases_withChg id)) fun _ => put

theorem eases_selectSystem (st : Station) (t : Sys) (s : State) : Eases s (selectSystem st t s).1 := by
  unfold selectSystem
  split
  · split
    · exact .refl s
    · split
      · exact eases_retargetSeq ..
      · exact .refl s
  · split
    · exact .refl s
    · split
      · exact eases_withChg id
      · exact eases_startSeq ..

theorem eases_systemSelect (st : Station) (p : List Byte) (s : State) : Eases s (systemSelect st p s).1 := by
  unfold systemSelect
  split
  · exact .refl s
  · split
    · exact .refl s
    · exact eases_selectSystem ..

theorem eases_breakerClose (st : Station) (s : State) : Eases s (breakerClose st s).1 := by
  unfold breakerClose
  split
  · exact .refl s
  · split
    · exact .refl s
    · split
      · exact .refl s
      · split
        · exact .refl s
        · split
          · exact .refl s
          · split
            · exact .refl s
            · exact eases_startSeq ..

theorem eases_breakerOpen (st : Station) (s : State) : Eases s (breakerOpen st s).1 := by
  unfold breakerOpen
  split
  · exact .refl s
  · exact (eases_abortSeq ..).trans (eases_startSeq ..)

theorem eases_positionReq (p : List Byte) (s : State) : Eases s (positionReq p s).1 := by
  unfold positionReq
  dsimp only
  split
  · exact .refl s
  · rename_i ok
    exact eases_takePosition _ _ _ (by omega) (by omega)

theorem eases_table (s : State) (t : List Entry) : Eases s (newOutlook (s.withSmp { s.smp with table := t })) :=
  Eases.trans (t := s.withSmp { s.smp with table := t }) (.of_view rfl rfl rfl) (eases_newOutlook _)

theorem eases_sectionLoad (p : List Byte) (s : State) : Eases s (sectionLoad p s).1 := by
  unfold sectionLoad
  dsimp only
  split
  · exact .refl s
  · split
    · exact .refl s
    · split
      · exact .refl s
      · split
        · exact .refl s
        · exact eases_table ..

theorem eases_sectionClear (p : List Byte) (s : State) : Eases s (sectionClear p s).1 := by
  unfold sectionClear
  split
  · exact eases_table ..
  · split
    · exact eases_table ..
    · exact .refl s
  · exact .refl s

theorem eases_sectionRead (p : List Byte) (s : State) : Eases s (sectionRead p s).1 := by
  unfold sectionRead; dsimp only; split <;> exact .refl s

theorem eases_converterReport (p : List Byte) (s : State) : Eases s (converterReport p s).1 := by
  unfold converterReport
  split
  · exact eases_takeReport ..
  · exact .refl s

theorem eases_iceModeReq (p : List Byte) (s : State) : Eases s (iceModeReq p s).1 := by
  unfold iceModeReq
  split
  · exact .refl s
  · exact .of_view rfl rfl rfl

/-! ### The requests about parameters and banks -/

theorem eases_parameterRead (p : List Byte) (s : State) : Eases s (parameterRead p s).1 := by
  unfold parameterRead; split <;> exact .refl s
theorem eases_faultRead (p : List Byte) (s : State) : Eases s (faultRead p s).1 := by
  unfold faultRead; dsimp only; split <;> exact .refl s
theorem eases_statusRead (p : List Byte) (s : State) : Eases s (statusRead p s).1 := by
  unfold statusRead; dsimp only; split <;> exact .refl s

theorem eases_withFlt (s : State) (f : Flt) : Eases s (s.withFlt f) := .of_view rfl rfl rfl

theorem eases_leaveSafeHeld (s : State) : Eases s (leaveSafeHeld s) :=
  .ite (fun h => eases_withRoof (by simp [h.1]) nofun) fun _ => .refl s

theorem eases_faultClear (p : List Byte) (s : State) : Eases s (faultClear p s).1 := by
  unfold faultClear
  split
  · exact .refl s
  · split
    · exact .refl s
    · exact (eases_withFlt ..).trans (eases_leaveSafeHeld _)

theorem eases_thresholdSet (p : List Byte) (s : State) : Eases s (thresholdSet p s).1 := by
  unfold thresholdSet
  dsimp only
  split
  · exact .refl s
  · split
    · exact .refl s
    · exact eases_withFlt ..

/-! ### The requests of the Service Tool -/

/-- In a roof that is quiet for a take, a fitted channel of a class whose other members are not in service is at rest, or
shares the class (R57). -/
theorem at_rest_of_takeable {s : State} {c d : Chan} (apart : ClassesApart s) (quiet : roofQuietService s = true)
    (free : otherClassService s c = false) (fits : fitted s d = true) (differ : chanClass s d ≠ chanClass s c) :
    (away (chan s d) || served (chan s d) (valve s d)) = false := by
  simp only [roofQuietService, Bool.and_eq_true, List.all_eq_true, mem_allChans, true_implies, Bool.or_eq_true,
    Bool.not_eq_true', bne_iff_ne, beq_iff_eq] at quiet
  simp only [otherClassService, List.any_eq_false, mem_allChans, true_implies, Bool.and_eq_true, bne_iff_ne] at free
  have idle : served (chan s d) (valve s d) = false := by
    by_contra busy
    exact free d ⟨⟨by simpa [inService_eq] using busy, fits⟩, differ⟩
  have state : (chan s d).state ≠ .service ∧ (valve s d).handover ≠ .toService := by simpa [served] using idle
  have own := mt (apart.service d) state.1
  rw [tooled_iff, not_or] at own
  rcases quiet.1.1.1 d with ((e | e) | e) | e
  · simp [fits] at e
  · rw [awayFromRest_eq] at e
    simp [e, idle]
  · exact absurd e state.1
  · cases h : (valve s d).handover <;> simp_all

/-- A take of a valve engages its channel, in a class that has the roof to itself (R57). -/
theorem tame_takeValve {s : State} {c : Chan} {o : Out} (quiet : roofQuietService s = true) (owner : o.owner = .loop)
    (taken : o.handover = .toService) (fits : fitted s c = true) (free : otherClassService s c = false) :
    Tame s (putValve s c o) where
  rise _ := id
  role _ := .inr rfl
  request := id
  outcomes := id
  ice h := ⟨h.index, h.arcs⟩
  position h := ⟨h.metres, h.remainder, h.speed, h.track⟩
  channels := id
  apart h := by
    have ready : s.roofState = .ready := by
      simp only [roofQuietService, Bool.and_eq_true, beq_iff_eq] at quiet
      exact quiet.2
    have rest : ∀ d, fitted s d = true → chanClass s d ≠ chanClass s c →
        (away (chan s d) || served (chan s d) (valve s d)) = false := fun d => at_rest_of_takeable h quiet free
    refine ⟨h.held, fun start => ?_, h.fitted, fun d own => ?_, h.winter, fun d e hd he differ on => ?_⟩
    · have : s.roofState = .starting := start
      simp [ready] at this
    · by_cases e : d = c
      · subst e
        simp [tooled_iff, valve_putValve_self, owner, taken] at own
      · rw [valve_putValve_other _ _ e] at own
        exact h.service d own
    · change fitted s d = true at hd
      change fitted s e = true at he
      change chanClass s d ≠ chanClass s e at differ
      rw [engaged_eq, putValve_chan] at on
      rw [putValve_chan]
      by_cases hc : e = c
      · subst hc
        rw [valve_putValve_other _ _ fun e => differ (congrArg (chanClass s) e)] at on
        have := rest d hd differ
        rw [Bool.or_eq_false_iff] at this
        rw [this.2, Bool.or_false] at on
        simp [away_of_raised on] at this
      · rw [valve_putValve_other _ _ hc]
        by_cases hd' : d = c
        · subst hd'
          exact rest e he (Ne.symm differ)
        · rw [valve_putValve_other _ _ hd'] at on
          exact h.classes d e hd he differ on

theorem tame_takeOutput (o : Output) {s : State} (quiet : roofQuietService s = true) : Tame s (takeOutput o s).1 := by
  unfold takeOutput
  dsimp only
  split
  · exact .refl s
  · rename_i mine
    split
    · exact .refl s
    · rename_i free
      split
      · exact .refl s
      · rename_i fits
        split
        · exact .refl s
        · rename_i granted
          cases o with
          | zone z => exact (eases_putZone ..).tame
          | valve c =>
            rw [not_not] at free
            have owner : (valve s c).owner = .loop := by
              cases e : (valve s c).owner
              · rfl
              · exact absurd ⟨e, free⟩ mine
            refine tame_takeValve quiet owner rfl (Bool.not_eq_false _ ▸ fits) ?_
            unfold takeValveRefusal at granted
            dsimp only at granted
            split at granted
            · cases granted
            · split at granted
              · cases granted
              · split at granted
                · cases granted
                · exact Bool.not_eq_true _ ▸ ‹¬ otherClassService s c = true›

theorem tame_outputTake (p : List Byte) (s : State) : Tame s (outputTake p s).1 := by
  unfold outputTake
  split
  · exact .refl s
  · split
    · exact .refl s
    · rename_i quiet
      split
      · exact .refl s
      · exact tame_takeOutput _ (by simpa using quiet)

theorem eases_outputDrive (p : List Byte) (s : State) : Eases s (outputDrive p s).1 := by
  unfold outputDrive
  dsimp only
  split
  · exact .refl s
  · split
    · exact .refl s
    · unfold driveOutput
      dsimp only
      split
      · exact .refl s
      · split
        · exact .refl s
        · split
          · exact .refl s
          · exact eases_putOut (.of_same rfl rfl)

theorem eases_outputReturn (p : List Byte) (s : State) : Eases s (outputReturn p s).1 := by
  unfold outputReturn
  dsimp only
  split
  · exact eases_returnAll s
  · split
    · exact .refl s
    · exact eases_putOut (outEases_returnOut _)

theorem eases_enterCheck (x : Fin 4) {s : State} (quiet : roofQuiet s = true) : Eases s (enterCheck x s) := by
  have ready : s.roofState = .ready := by
    simp only [roofQuiet, Bool.and_eq_true, beq_iff_eq] at quiet
    exact quiet.2
  have tested := (eases_withRoof (r := .check) (by simp [ready]) nofun).trans (eases_endDemand (s.withRoof .check))
  unfold enterCheck
  exact tested.trans (.of_view rfl rfl rfl)

theorem eases_senseCheckStart (p : List Byte) (s : State) : Eases s (senseCheckStart p s).1 := by
  unfold senseCheckStart
  dsimp only
  split
  · exact .refl s
  · split
    · exact .refl s
    · split
      · exact .refl s
      · rename_i quiet
        split
        · exact eases_enterCheck _ (by simpa using quiet)
        · exact .refl s

theorem eases_senseCheckEnd (s : State) : Eases s (senseCheckEnd s).1 := by
  unfold senseCheckEnd
  split
  · rename_i check
    exact (eases_withRoof (r := .ready) (by simp [check]) nofun).trans (.of_view rfl rfl rfl)
  · exact .refl s

/-! ### A request taken -/

theorem eases_withLnk (s : State) (l : Lnk) : Eases s (s.withLnk l) := .of_view rfl rfl rfl

/-- What a request itself does is tame. -/
theorem tame_requestRule (k : ReqKind) (src : Station) (p : List Byte) (s : State) : Tame s (requestRule k src p s).1 := by
  cases k with
  | statusRead => exact (eases_statusRead p s).tame
  | cabTake => exact (eases_cabTake src s).tame
  | cabRelease => exact (eases_cabRelease src s).tame
  | cabPass => exact (eases_cabPass s).tame
  | roofUp => exact (eases_roofUp p s).tame
  | roofDown => exact (eases_roofDownRequest ..).tame
  | systemSelect => exact (eases_systemSelect src p s).tame
  | breakerClose => exact (eases_breakerClose src s).tame
  | breakerOpen => exact (eases_breakerOpen src s).tame
  | position => exact (eases_positionReq p s).tame
  | sectionLoad => exact (eases_sectionLoad p s).tame
  | sectionClear => exact (eases_sectionClear p s).tame
  | sectionRead => exact (eases_sectionRead p s).tame
  | converterReport => exact (eases_converterReport p s).tame
  | iceMode => exact (eases_iceModeReq p s).tame
  | parameterSet => exact tame_parameterSet p s
  | parameterRead => exact (eases_parameterRead p s).tame
  | faultRead => exact (eases_faultRead p s).tame
  | faultClear => exact (eases_faultClear p s).tame
  | thresholdSet => exact (eases_thresholdSet p s).tame
  | lockoutClear => exact (eases_lockoutClear p s).tame
  | outputTake => exact tame_outputTake p s
  | outputDrive => exact (eases_outputDrive p s).tame
  | outputReturn => exact (eases_outputReturn p s).tame
  | senseCheckStart => exact (eases_senseCheckStart p s).tame
  | senseCheckEnd => exact (eases_senseCheckEnd s).tame
  | softReset => exact (eases_withLnk s { s.lnk with soft := .answering }).tame

theorem eases_hearFrame (s : State) : Eases s (hearFrame s) := eases_withLnk ..

theorem eases_refreshActivity (src : Station) (s : State) : Eases s (refreshActivity src s) := by
  cases src <;> exact .of_view rfl rfl rfl

theorem eases_heard (src : Station) (s : State) : Eases s (heard src s) :=
  (eases_hearFrame s).trans (eases_refreshActivity ..)

theorem tame_takeRequest (k : ReqKind) (src : Station) (p : List Byte) (s : State) :
    Tame s (takeRequest k src p (requestRule k src p) s) := by
  rcases takeRequest_cases k src p (requestRule k src p) s with e | e | ⟨code, r, e, how⟩ <;> rw [e]
  · exact .refl s
  · exact (eases_hearFrame s).tame
  · refine Tame.trans (t := r.1) ?_ (eases_withLnk ..).tame
    rcases how with rfl | how
    · exact (eases_heard src s).tame.trans (tame_requestRule k src p _)
    · exact how ▸ (eases_heard src s).tame

theorem tame_takeKind (k : ReqKind) (src : Station) (p : List Byte) (s : State) : Tame s (takeKind k src p s) :=
  takeKind_eq k src p s ▸ tame_takeRequest k src p s

theorem eases_takeUnknownKind (src : Station) (x : Byte) (s : State) : Eases s (takeUnknownKind src x s) := by
  refine .ite (fun _ => ?_) fun _ => .refl s
  exact .ite (fun _ => eases_hearFrame s) fun _ => (eases_heard src s).trans (eases_withLnk ..)

/-! ### The link (R190 to R194) -/

theorem eases_discardFate {f : List Byte} {s t : State} (h : discardFate f s = some t) : Eases s t := by
  unfold discardFate at h
  split at h
  · cases h; exact eases_offerPlain ..
  · split at h
    · cases h; exact .refl s
    · split at h
      · cases h; exact eases_offer ..
      · split at h
        · cases h; exact (eases_refreshActivity ..).trans (eases_offerPlain ..)
        · cases h

theorem tame_dispatchFrame (f : List Byte) (s : State) : Tame s (dispatchFrame f s) := by
  unfold dispatchFrame
  split
  · exact .refl s
  · split
    · exact tame_takeKind ..
    · exact (eases_takeUnknownKind ..).tame

theorem tame_frameFate (f : List Byte) (s : State) : Tame s (frameFate f s) := by
  unfold frameFate
  cases h : discardFate f s with
  | none => exact tame_dispatchFrame f s
  | some t => exact (eases_discardFate h).tame

theorem eases_breakFrame (x : Receiver) (s : State) : Eases s (breakFrame x s) :=
  (eases_withLnk ..).trans (eases_offerPlain ..)

theorem tame_receive (c : Byte) (stop : Bool) (s : State) : Tame s (receive c stop s) := by
  unfold receive
  split
  · exact .refl s
  · exact .ite (fun _ => (eases_withLnk ..).tame) fun _ => .refl s
  · exact .ite (fun _ => (eases_breakFrame ..).tame) fun _ =>
      .ite (fun _ => (eases_withLnk ..).tame.trans (tame_frameFate ..)) fun _ => (eases_withLnk ..).tame

theorem tame_charArrives (c : Byte) (stop : Bool) (s : State) : Tame s (charArrives c stop s) := by
  refine .ite (fun _ => .refl s) fun _ => ?_
  have withdrawn := eases_withLnk s { s.lnk with waiting := none, soft := softWithdrawn s.lnk, quietMs := 0 }
  exact .ite (fun _ => withdrawn.tame) fun _ => withdrawn.tame.trans (tame_receive ..)

theorem eases_frameDiscarded (f : List Byte) (s : State) : Eases s (frameDiscarded f s) := by
  refine .ite (fun _ => .ite (fun _ => eases_hearFrame s) fun _ => ?_) fun _ => .refl s
  cases h : discardFate f (hearFrame s) with
  | none => exact .refl s
  | some t => exact (eases_hearFrame s).trans (eases_discardFate h)

theorem tame_frameFormatAbort (c : Byte) (stop : Bool) (s : State) : Tame s (frameFormatAbort c stop s) :=
  .ite (fun _ => tame_charArrives ..) fun _ => .refl s

theorem eases_frameGap (s : State) : Eases s (frameGap s) := .ite (fun _ => eases_breakFrame ..) fun _ => .refl s
theorem eases_silenceEnd (s : State) : Eases s (silenceEnd s) := .ite (fun _ => eases_withLnk ..) fun _ => .refl s

theorem eases_answerSend (s : State) : Eases s (answerSend s) := by
  unfold answerSend
  split
  · exact eases_withLnk ..
  · exact .refl s

theorem tame_answerWithdrawn (c : Byte) (s : State) : Tame s (answerWithdrawn c s) :=
  .ite (fun _ => tame_charArrives ..) fun _ => .refl s

theorem eases_answerEnd (s : State) : Eases s (answerEnd s) := .ite (fun _ => eases_withLnk ..) fun _ => .refl s

end Sys2Proof.Machine
end

section
/-!
PROOFS. What a step can do: the state stands, a millisecond passes, a reset is held, or a tame effect is made and its event
settles.
-/

namespace Sys2Proof.Machine

/-! ### The passing of a millisecond -/

theorem tickChannel_law {r : Channel} (h : ChannelLaw r) : ChannelLaw (tickChannel r) :=
    ⟨h.height, h.force, h.low, h.high⟩

theorem eases_tickBlocks (s : State) : Eases s (tickBlocks s) := by
  have chans : ChansEase s (tickBlocks s) :=
    ⟨fun c => by rw [tickBlocks_chan]; exact .of_state rfl (.inr rfl) tickChannel_law rfl rfl,
      fun _ c low => by rw [tickBlocks_chan]; exact low⟩
  exact .of chans (.of_view rfl)

theorem eases_tickTime (s : State) : Eases s (tickTime s) := by
  have passed : ∀ n l, Eases s ((s.withNow n).withLnk l) := fun _ _ => .of_view rfl rfl rfl
  exact .ite (fun _ => passed _ _) fun _ => (passed _ _).trans (eases_tickBlocks _)

theorem eases_withPending (s : State) (q : List Instr) : Eases s (s.withPending q) := .of_view rfl rfl rfl

theorem outEases_atBoundary (o : Out) : OutEases o (atBoundary o) := .of_same rfl rfl

/-! ### What a step can do -/

/-- What follows a state by one step, by how it comes about. -/
inductive Follows (s : State) : State → Prop
  | stands (q : List Instr) : Follows s (s.withPending q)
  | ticks (q : List Instr) : Follows s ((tickTime s).withPending q)
  | resets (f : Flt) (q : List Instr) : Follows s (holdReset f (s.withPending q))
  | settles (before u : State) (tame : Tame s u) : Follows s (settle before u)

variable {s t : State}

theorem Follows.of_event {f : State → State} (h : s.held = false → Tame s (f s)) (e : event f s = .next t) :
    Follows s t := by
  obtain ⟨u, e', ⟨-, rfl⟩ | ⟨live, rfl⟩⟩ := event_next f s <;> rw [e'] at e <;> cases e
  · exact .stands _
  · exact .settles _ _ (h live)

theorem Follows.of_inputEvent {f : State → State} (h : Tame s (f s)) (e : inputEvent f s = .next t) : Follows s t := by
  cases e
  exact .settles _ _ h

theorem follows_resetRelease {straps : BitVec 5} (e : exec (.resetRelease straps) s = .next t) : Follows s t := by
  change (if s.held then .next (settle s (releaseReset straps s)) else .next s) = Host.Outcome.next t at e
  split at e
  · cases e
    exact .settles _ _ (tame_releaseReset straps ‹_›)
  · cases e
    exact .stands _

/-- What a command does. -/
theorem follows_exec {c : Instr} (e : exec c s = .next t) : Follows s t := by
  have request : ∀ k src p, exec (requestCmd k src p) s = .next t → Follows s t := fun k src p e => by
    rw [exec_requestCmd] at e
    exact .of_event (fun _ => tame_takeRequest k src p s) e
  cases c with
  | statusRead src p => exact request .statusRead src p e
  | cabTake src p => exact request .cabTake src p e
  | cabRelease src p => exact request .cabRelease src p e
  | cabPass src p => exact request .cabPass src p e
  | roofUp src p => exact request .roofUp src p e
  | roofDown src p => exact request .roofDown src p e
  | systemSelect src p => exact request .systemSelect src p e
  | breakerClose src p => exact request .breakerClose src p e
  | breakerOpen src p => exact request .breakerOpen src p e
  | position src p => exact request .position src p e
  | sectionLoad src p => exact request .sectionLoad src p e
  | sectionClear src p => exact request .sectionClear src p e
  | sectionRead src p => exact request .sectionRead src p e
  | converterReport src p => exact request .converterReport src p e
  | iceMode src p => exact request .iceMode src p e
  | parameterSet src p => exact request .parameterSet src p e
  | parameterRead src p => exact request .parameterRead src p e
  | faultRead src p => exact request .faultRead src p e
  | faultClear src p => exact request .faultClear src p e
  | thresholdSet src p => exact request .thresholdSet src p e
  | lockoutClear src p => exact request .lockoutClear src p e
  | outputTake src p => exact request .outputTake src p e
  | outputDrive src p => exact request .outputDrive src p e
  | outputReturn src p => exact request .outputReturn src p e
  | senseCheckStart src p => exact request .senseCheckStart src p e
  | senseCheckEnd src p => exact request .senseCheckEnd src p e
  | softReset src p => exact request .softReset src p e
  | unknownKind src x => exact .of_event (fun _ => (eases_takeUnknownKind src x s).tame) e
  | frameDiscarded f => exact .of_event (fun _ => (eases_frameDiscarded f s).tame) e
  | frameFormatAbort x stop => exact .of_event (fun _ => tame_frameFormatAbort x stop s) e
  | frameGapTimeout => exact .of_event (fun _ => (eases_frameGap s).tame) e
  | silenceEnd => exact .of_event (fun _ => (eases_silenceEnd s).tame) e
  | answerSend => exact .of_event (fun _ => (eases_answerSend s).tame) e
  | answerWithdrawn x => exact .of_event (fun _ => tame_answerWithdrawn x s) e
  | softResetAction straps => exact .of_event (fun _ => tame_softResetAct straps s) e
  | powerOnReset => cases e; exact .resets _ _
  | pinReset => cases e; exact .resets _ _
  | resetRelease straps => exact follows_resetRelease e
  | profileHeaderRead r => exact .of_event (fun live => tame_headerRead _ live) e
  | segmentRead a => exact .of_event (fun live => tame_segmentRead _ live) e
  | loadEepromNoAnswer => exact .of_event (fun live => tame_segmentRead _ live) e
  | winterReadEnd a => exact .of_event (fun _ => (eases_winterRead _ s).tame) e
  | winterReadFail => exact .of_event (fun _ => (eases_winterRead _ s).tame) e
  | windowPublication => exact .of_event (fun _ => (eases_publishWindow s).tame) e
  | channelReading c h f x => exact .of_event (fun _ => (eases_takeReading c h f x s).tame) e
  | ambientReading x => exact .of_event (fun _ => (eases_ambientReading x s).tame) e
  | heightSensor c => exact .of_event (fun _ => (eases_heightSensor c s).tame) e
  | headokLost c => exact .of_inputEvent (eases_headokLost c s).tame e
  | headokRestored c => exact .of_inputEvent (eases_headokLevel s c true).tame e
  | raiseTimeout c => exact .of_event (fun _ => (eases_raiseTimeout c s).tame) e
  | contactLoss c => exact .of_event (fun _ => (eases_contactLoss c s).tame) e
  | lowerTimeout c => exact .of_event (fun _ => (eases_lowerTimeout c s).tame) e
  | forceControlPeriod => exact .of_event (fun _ => (eases_forcePeriod s).tame) e
  | valvePeriodBoundary => exact .of_event (f := (mapValves · atBoundary)) (fun _ =>
    (eases_mapValves outEases_atBoundary).tame) e
  | heaterPeriodBoundary => exact .of_event (f := (mapZones · atBoundary)) (fun _ => (eases_mapZones s atBoundary).tame) e
  | safePeriodEnd o => exact .of_event (fun _ => (eases_safePeriodEnd o s).tame) e
  | serviceLapse => exact .of_event (fun _ => (eases_serviceLapse s).tame) e
  | auxokLost => exact .of_inputEvent (eases_auxokLost s).tame e
  | auxokReturn => exact .of_inputEvent (eases_auxokReturn s).tame e
  | cabLapse => exact .of_event (fun _ => (eases_cabLapse s).tame) e
  | demandExpiry => exact .of_event (fun _ => (eases_demandExpiry s).tame) e
  | converterStale => exact .of_event (fun _ => (eases_converterStale s).tame) e
  | odometerPulse => exact .of_event (fun _ => (eases_odometerPulse s).tame) e
  | positionLapse => exact .of_event (fun _ => (eases_positionLapse s).tame) e
  | breakerFeedbackChange b x => exact .of_inputEvent (eases_feedbackChange b x s).tame e
  | closeTimeExpiry b x => exact .of_event (fun _ => (eases_closeExpiry b x s).tame) e
  | openTimeExpiry b x => exact .of_event (fun _ => (eases_openExpiry b x s).tame) e
  | shedTimeout => exact .of_event (fun _ => (eases_shedExpiry s).tame) e
  | deadRun => exact .of_event (fun _ => (eases_deadRunExpiry s).tame) e
  | identifyTimeout => exact .of_event (fun _ => (eases_identifyExpiry s).tame) e
  | converterTimeout => exact .of_event (fun _ => (eases_converterExpiry s).tame) e
  | settleIntervalEnd => exact .of_event (fun _ => (eases_settleEnd s).tame) e
  | iceIndexUpdate => exact .of_event (fun _ => (eases_iceUpdate s).tame) e
  | slotExpiry => exact .of_event (fun _ => (eases_slotExpiry s).tame) e
  | roofVoltageSample x => exact .of_event (fun _ => (eases_takeSample _ s).tame) e
  | characterReceived x => exact .of_event (fun _ => tame_charArrives x true s) e
  | answerEnd => exact .of_event (fun _ => (eases_answerEnd s).tame) e

theorem Follows.of_withPending {q : List Instr} (h : Follows (s.withPending q) t) : Follows s t := by
  cases h with
  | stands p => exact .stands p
  | ticks p =>
    have same : (tickTime (s.withPending q)).withPending p = (tickTime s).withPending p := by
      by_cases start : s.roofState = .starting
      · rw [tickTime_of_starting start, tickTime_of_starting (s := s.withPending q) start]; rfl
      · rw [tickTime_of_running start, tickTime_of_running (s := s.withPending q) start]; rfl
    rw [same]
    exact .ticks p
  | resets f p => exact .resets f p
  | settles before u tame => exact .settles before u ((eases_withPending s q).tame.trans tame)

/-- What a step does. -/
theorem follows_step (e : step s = .next t) : Follows s t := by
  unfold step at e
  split at e
  · cases e
    unfold idle
    split
    · exact .stands s.pending
    · exact .ticks _
  · exact (follows_exec e).of_withPending

end Sys2Proof.Machine
end

section
/-!
PROOFS. The end of an event (R38 to R41, R150): the channels that it lowers and the one that it raises, exactly.
-/

namespace Sys2Proof.Machine

/-! ### Lowers, exactly -/

/-- An output after a write of the PCU's (R55). -/
def written (p : Pst) (duty : Nat) (o : Out) : Out :=
  if loopOwns o then
    { o with buffered := duty, applied := if pstEff p Par.dutyImmediate = 1 then duty else o.applied }
  else o

theorem written_owner (p : Pst) (duty : Nat) (o : Out) :
    (written p duty o).owner = o.owner ∧ (written p duty o).handover = o.handover := by
  unfold written; split <;> exact ⟨rfl, rfl⟩

theorem written_buffered (p : Pst) (duty : Nat) {o : Out} (h : loopOwns o = true) :
    (written p duty o).buffered = duty := by simp [written, h]

theorem loopOwns_written (p : Pst) (duty : Nat) (o : Out) : loopOwns (written p duty o) = loopOwns o := by
  obtain ⟨owner, handover⟩ := written_owner p duty o
  rw [loopOwns, owner, handover, loopOwns]

theorem writeValve_valve (s : State) (c d : Chan) (duty : Nat) :
    valve (writeValve s c duty) d = if d = c then written s.pst duty (valve s d) else valve s d := by
  unfold writeValve written
  dsimp only
  by_cases e : d = c
  · subst e
    rw [if_pos rfl]
    split
    · rw [valve_putValve_self]; rfl
    · rfl
  · rw [if_neg e]
    split
    · exact valve_putValve_other _ _ e
    · rfl

theorem writeValve_pst (s : State) (c : Chan) (duty : Nat) : (writeValve s c duty).pst = s.pst := by
  unfold writeValve
  dsimp only
  split <;> rfl

/-- A channel, its valve and the parameters. -/
def place (s : State) (c : Chan) : Channel × Out × Pst := (chan s c, valve s c, s.pst)

/-- What an ordinary lower makes of them. -/
def lowerPlace : Channel × Out × Pst → Channel × Out × Pst
  | (r, o, p) => if raised r then (lowered r, written p 0 o, p) else (r, o, p)

theorem ordinaryLower_place (s : State) (c d : Chan) :
    place (ordinaryLower s c) d = if d = c then lowerPlace (place s c) else place s d := by
  unfold ordinaryLower
  by_cases up : raised (chan s c) = true
  · rw [if_pos up]
    simp only [place, lowerPlace, if_pos up, writeValve_chan, writeValve_valve, writeValve_pst, chan_putChan,
        putChan_valve,
      lowered_of_raised up]
    by_cases e : d = c
    · subst e; simp
    · simp [e]
  · rw [if_neg up]
    split
    · subst_vars; simp [place, lowerPlace, up]
    · rfl

/-- Lowers of some channels of a list touch no other. -/
theorem foldl_place {f : State → Chan → State} {g : Channel × Out × Pst → Channel × Out × Pst}
    (h : ∀ s c d, place (f s c) d = if d = c then g (place s c) else place s d) (l : List Chan) (hl : l.Nodup) (s : State)
    (d : Chan) : place (l.foldl f s) d = if d ∈ l then g (place s d) else place s d := by
  induction l generalizing s with
  | nil => simp
  | cons c cs ih =>
    obtain ⟨fresh, rest⟩ := List.nodup_cons.mp hl
    rw [List.foldl_cons, ih rest, h]
    by_cases e : d = c
    · subst e; simp [fresh]
    · simp [e]

/-- A raised SCRAPER is lowered. -/
def dropPlace : Channel × Out × Pst → Channel × Out × Pst
  | (r, o, p) => if r.role = .scraper then lowerPlace (r, o, p) else (r, o, p)

theorem lowerScraper_place (s : State) (d : Chan) : place (lowerScraper s) d = dropPlace (place s d) := by
  have one : ∀ s c d, place (if isScraper s c then ordinaryLower s c else s) d =
      if d = c then dropPlace (place s c) else place s d := fun s c d => by
    by_cases e : (chan s c).role = .scraper
    · rw [if_pos (by simp [isScraper, e]), ordinaryLower_place]
      simp [dropPlace, place, e]
    · rw [if_neg (by simp [isScraper, e])]
      by_cases h : d = c
      · subst h; simp [dropPlace, place, e]
      · rw [if_neg h]
  rw [lowerScraper, foldl_place one allChans (by decide) s d, if_pos (mem_allChans d)]

theorem lowerScraper_up {s : State} {d : Chan} (role : (chan s d).role = .scraper) (up : raised (chan s d) = true) :
    chan (lowerScraper s) d = lowered (chan s d) ∧ valve (lowerScraper s) d = written s.pst 0 (valve s d) := by
  have e := lowerScraper_place s d
  simp [place, dropPlace, lowerPlace, role, up] at e
  exact ⟨e.1, e.2.1⟩

theorem lowerScraper_other {s : State} {d : Chan} (h : (chan s d).role = .scraper → raised (chan s d) = false) :
    chan (lowerScraper s) d = chan s d ∧ valve (lowerScraper s) d = valve s d := by
  have e := lowerScraper_place s d
  have same : dropPlace (place s d) = place s d := by
    by_cases r : (chan s d).role = .scraper
    · simp [place, dropPlace, lowerPlace, r, h r]
    · simp [place, dropPlace, r]
  rw [same] at e
  simp [place] at e
  exact ⟨e.1, e.2.1⟩

/-- After it no SCRAPER is raised. -/
theorem lowerScraper_none (s : State) (d : Chan) (role : (chan (lowerScraper s) d).role = .scraper) :
    raised (chan (lowerScraper s) d) = false := by
  by_cases h : (chan s d).role = .scraper ∧ raised (chan s d) = true
  · rw [(lowerScraper_up h.1 h.2).1]
    exact raised_lowered _
  · have same := (lowerScraper_other (s := s) (d := d) fun r => by simpa using fun up => h ⟨r, up⟩).1
    rw [same] at role ⊢
    simpa using fun up => h ⟨role, up⟩

/-! ### Raises, exactly -/

/-- A channel as it starts to rise (R40, R41). -/
def risen (s : State) (c : Chan) (x : Role) : Channel :=
  { chan s c with
    state := .raising, stateTime := 0, lowForce := false, dumpOn := false, role := x, forceTarget := forceTargetOf s c x }

theorem startRaise_eq (s : State) (c : Chan) (x : Role) :
    startRaise s c x = writeValve (putChan s c (risen s c x)) c (effNat s Par.raiseDuty) := by
  cases c <;> rfl

theorem startRaise_chan (s : State) (c d : Chan) (x : Role) :
    chan (startRaise s c x) d = if d = c then risen s c x else chan s d := by
  rw [startRaise_eq, writeValve_chan, chan_putChan]

theorem startRaise_valve (s : State) (c d : Chan) (x : Role) :
    valve (startRaise s c x) d = if d = c then written s.pst (effNat s Par.raiseDuty) (valve s d) else valve s d := by
  rw [startRaise_eq, writeValve_valve, putChan_valve]; rfl

/-- What a raise leaves alone. -/
theorem startRaise_frame (s : State) (c : Chan) (x : Role) : startRaise s c x =
    (s.withPcu { s.pcu with chans := (startRaise s c x).pcu.chans }).withRos
      { s.ros with valves := (startRaise s c x).ros.valves } := by
  rw [startRaise_eq]
  unfold writeValve
  dsimp only
  split <;> rfl

end Sys2Proof.Machine
end

section
/-!
PROOFS. The raises of an event's end, and the two laws they are made for: the records keep their bounds, and the roles and
classes stay apart (O59, O55).
-/

namespace Sys2Proof.Machine

/-! ### The collector raise and the scraper raise -/

theorem anyService_false {s : State} : anyService s = false ↔ ∀ c, served (chan s c) (valve s c) = false := by
  simp [anyService, inService_eq]

theorem collector_none {s : State} : collector s = none ↔ ∀ c, (chan s c).role ≠ .collector := by
  simp [collector, isCollector]

theorem collector_some {s : State} {p : Chan} (h : collector s = some p) : (chan s p).role = .collector := by
  simpa [isCollector] using List.find?_some h

theorem collectorInContact_none {s : State} :
    collectorInContact s = none ↔ ∀ c, ¬ ((chan s c).role = .collector ∧ (chan s c).state = .inContact) := by
  simp [collectorInContact, isCollector]

theorem collectorInContact_some {s : State} {p : Chan} (h : collectorInContact s = some p) :
    (chan s p).role = .collector ∧ (chan s p).state = .inContact := by
  simpa [isCollector] using List.find?_some h

theorem hasScraper_false {s : State} : hasScraper s = false ↔ ∀ c, (chan s c).role ≠ .scraper := by
  simp [hasScraper, isScraper]

/-- A channel available for selection (R39, R58). -/
structure Available (s : State) (c : Chan) : Prop where
  fitted : Machine.fitted s c = true
  state : (chan s c).state = .lowered
  free : served (chan s c) (valve s c) = false

theorem available_iff (s : State) (c : Chan) : available s c = true ↔ Available s c := by
  simp only [available, inService_eq, Bool.and_eq_true, beq_iff_eq, Bool.not_eq_true']
  exact ⟨fun ⟨⟨f, l⟩, n⟩ => ⟨f, l, n⟩, fun h => ⟨⟨h.fitted, h.state⟩, h.free⟩⟩

theorem mem_of_bestOf {better : Chan → Chan → Bool} {l : List Chan} {c : Chan} (h : bestOf better l = some c) : c ∈ l := by
  induction l generalizing c with
  | nil => cases h
  | cons x xs ih =>
    unfold bestOf at h
    split at h
    · rename_i d e
      split at h
      · cases h; exact List.mem_cons_of_mem _ (ih e)
      · cases h; exact List.mem_cons_self
    · cases h; exact List.mem_cons_self

theorem collectorChoice_mem {s : State} {k : Cls} {c : Chan} (h : collectorChoice s k = some c) :
    Available s c ∧ chanClass s c = some k := by
  have ok : ∀ d, (available s d && chanClass s d == some k) = true → Available s d ∧ chanClass s d = some k :=
      fun d h => by
    simpa [available_iff] using h
  have best : bestOf (fun a b => nearer s b a) (allChans.filter fun c => available s c && chanClass s c == some k) =
      some c →
      Available s c ∧ chanClass s c = some k := fun h => ok c (List.mem_filter.mp (mem_of_bestOf h)).2
  unfold collectorChoice at h
  dsimp only at h
  split at h
  · split at h
    · cases h; exact ok _ ‹_›
    · exact best h
  · exact best h

/-- The ten raise conditions hold, and the choice is a channel (Table 2-10). -/
structure CollectorRises (s : State) (t : Sys) (c : Chan) : Prop where
  target : s.chg.target = some t
  demand : s.cau.demand.isSome = true
  ready : s.roofState = .ready
  service : anyService s = false
  settle : s.pst.settle = false
  others : ∀ d, fitted s d = true → chanClass s d ≠ some (classOf t) → awayFromRest s d = false
  window : raiseWindow s = true
  none : collector s = none
  hold : s.pcu.collectorHold = false
  choice : collectorChoice s (classOf t) = some c

theorem collectorRises_of {s : State} {c : Chan} (h : raiseCandidate s = some c) : ∃ t, CollectorRises s t c := by
  unfold raiseCandidate at h
  split at h
  · cases h
  · rename_i t target
    split at h
    · rename_i ok
      simp only [Bool.and_eq_true, Bool.not_eq_true', beq_iff_eq, List.all_eq_true, mem_allChans, true_implies,
        Bool.or_eq_true, Option.isNone_iff_eq_none] at ok
      obtain ⟨⟨⟨⟨⟨⟨⟨demand, ready⟩, service⟩, settle⟩, others⟩, window⟩, none⟩, hold⟩ := ok
      refine ⟨t, target, demand, ready, service, settle, fun d fits differ => ?_, window, none, hold, h⟩
      rcases others d with (e | e) | e
      · simp [fits] at e
      · exact absurd e differ
      · exact e
    · cases h

theorem CollectorRises.available {s : State} {t : Sys} {c : Chan} (h : CollectorRises s t c) : Available s c :=
  (collectorChoice_mem h.choice).1

theorem CollectorRises.chanClass {s : State} {t : Sys} {c : Chan} (h : CollectorRises s t c) :
    chanClass s c = some (classOf t) := (collectorChoice_mem h.choice).2

/-- The conditions of R40 hold, and the choice is a channel. -/
structure ScraperRises (s : State) (p c : Chan) : Prop where
  request : s.ice.scraperRequest = true
  ready : s.roofState = .ready
  contact : (collectorInContact s).isSome = true
  none : hasScraper s = false
  hold : s.pcu.scraperHold = false
  collector : Machine.collector s = some p
  other : c ≠ p
  available : Available s c
  sameClass : chanClass s c = chanClass s p
  nearer : Machine.nearer s c p = true

theorem scraperRises_of {s : State} {c : Chan} (h : scraperCandidate s = some c) : ∃ p, ScraperRises s p c := by
  unfold scraperCandidate at h
  split at h
  · rename_i ok
    simp only [Bool.and_eq_true, beq_iff_eq, Bool.not_eq_true'] at ok
    obtain ⟨⟨⟨⟨request, ready⟩, contact⟩, none⟩, hold⟩ := ok
    unfold scraperChoice at h
    split at h
    · cases h
    · rename_i p collector
      have mem := (List.mem_filter.mp (mem_of_bestOf h)).2
      simp only [Bool.and_eq_true, bne_iff_ne, beq_iff_eq, available_iff] at mem
      obtain ⟨⟨⟨other, available⟩, sameClass⟩, near⟩ := mem
      exact ⟨p, request, ready, contact, none, hold, collector, other, available, sameClass, near⟩
  · cases h

/-- The collector raise, written out. -/
theorem collectorRaise_some {s : State} {c : Chan} (h : raiseCandidate s = some c) : collectorRaise s =
    (startRaise s c .collector).withPcu { (startRaise s c .collector).pcu with preferred := none } := by
  rw [collectorRaise, h]

theorem collectorRaise_none {s : State} (h : raiseCandidate s = none) : collectorRaise s = s := by rw [collectorRaise, h]

theorem scraperRaise_some {s : State} {c : Chan} (h : scraperCandidate s = some c) :
    scraperRaise s = startRaise s c .scraper := by rw [scraperRaise, h]

theorem scraperRaise_none {s : State} (h : scraperCandidate s = none) : scraperRaise s = s := by rw [scraperRaise, h]

/-- What a raise changes, and what it leaves. -/
structure Raises (s : State) (c : Chan) (x : Role) (t : State) : Prop where
  chan : ∀ d, Machine.chan t d = if d = c then risen s c x else Machine.chan s d
  valve : ∀ d, Machine.valve t d = if d = c then written s.pst (effNat s Par.raiseDuty) (Machine.valve s d)
    else Machine.valve s d
  pst : t.pst = s.pst
  held : t.held = s.held
  roof : t.roofState = s.roofState
  cau : t.cau = s.cau
  smp : t.smp = s.smp
  chg : t.chg = s.chg
  ice : t.ice = s.ice
  collectorHold : t.pcu.collectorHold = s.pcu.collectorHold
  scraperHold : t.pcu.scraperHold = s.pcu.scraperHold

theorem raises_startRaise (s : State) (c : Chan) (x : Role) : Raises s c x (startRaise s c x) := by
  have frame := startRaise_frame s c x
  have field {α : Type} (f : State → α) : f (startRaise s c x) = _ := congrArg f frame
  exact ⟨fun d => startRaise_chan s c d x, fun d => startRaise_valve s c d x, field (·.pst), field (·.held),
    field (·.roofState), field (·.cau), field (·.smp), field (·.chg), field (·.ice), field (·.pcu.collectorHold),
    field (·.pcu.scraperHold)⟩

theorem raises_collectorRaise {s : State} {c : Chan} (h : raiseCandidate s = some c) :
    Raises s c .collector (collectorRaise s) := by
  have raised := raises_startRaise s c .collector
  rw [collectorRaise_some h]
  generalize startRaise s c .collector = u at raised
  exact ⟨raised.chan, raised.valve, raised.pst, raised.held, raised.roof, raised.cau, raised.smp, raised.chg, raised.ice,
    raised.collectorHold, raised.scraperHold⟩

theorem raises_scraperRaise {s : State} {c : Chan} (h : scraperCandidate s = some c) :
    Raises s c .scraper (scraperRaise s) := by
  rw [scraperRaise_some h]
  exact raises_startRaise s c .scraper

section Raises
variable {s t : State} {c : Chan} {x : Role}

theorem Raises.self (h : Raises s c x t) : Machine.chan t c = risen s c x := by rw [h.chan, if_pos rfl]
theorem Raises.other (h : Raises s c x t) {d : Chan} (e : d ≠ c) : Machine.chan t d = Machine.chan s d := by
  rw [h.chan, if_neg e]
theorem Raises.valve_other (h : Raises s c x t) {d : Chan} (e : d ≠ c) : Machine.valve t d = Machine.valve s d := by
  rw [h.valve, if_neg e]
theorem Raises.eff (h : Raises s c x t) (n : Nat) : eff t n = eff s n := by rw [Machine.eff, h.pst, Machine.eff]
theorem Raises.chanClass (h : Raises s c x t) (d : Chan) : chanClass t d = chanClass s d := by
  rw [Machine.chanClass, h.eff, Machine.chanClass]
theorem Raises.fitted (h : Raises s c x t) (d : Chan) : fitted t d = fitted s d := by
  rw [Machine.fitted, h.chanClass, Machine.fitted]

theorem Raises.valve_flags (h : Raises s c x t) (d : Chan) : (Machine.valve t d).owner = (Machine.valve s d).owner ∧
    (Machine.valve t d).handover = (Machine.valve s d).handover := by
  rw [h.valve]
  split
  · exact written_owner ..
  · exact ⟨rfl, rfl⟩

theorem Raises.tooled (h : Raises s c x t) (d : Chan) : tooled (Machine.valve t d) = tooled (Machine.valve s d) := by
  obtain ⟨owner, handover⟩ := h.valve_flags d
  rw [Machine.tooled, owner, handover, Machine.tooled]

/-- A raise of an available channel keeps the classes apart, where no other class is away from rest and none in service. -/
theorem ClassesApart.raises (apart : ClassesApart s) (h : Raises s c x t) (free : Available s c)
    (ready : s.roofState = .ready)
    (others : ∀ d, Machine.fitted s d = true → Machine.chanClass s d ≠ Machine.chanClass s c →
      (away (Machine.chan s d) || served (Machine.chan s d) (Machine.valve s d)) = false)
    (mine : ∀ d, Machine.fitted s d = true → Machine.chanClass s d ≠ Machine.chanClass s c →
      engaged s d = false) : ClassesApart t := by
  have engaged_other : ∀ d, d ≠ c → engaged t d = engaged s d := fun d e => by
    rw [engaged_eq, h.other e, h.valve_other e, engaged_eq]
  refine ⟨fun held => ?_, fun start => ?_, fun d up => ?_, fun d own => ?_, by rw [h.pst]; exact apart.winter,
    fun d e hd he differ on => ?_⟩
  · exact h.roof.trans (apart.held (h.held ▸ held))
  · rw [h.roof, ready] at start
    cases start
  · rw [h.fitted]
    by_cases e : d = c
    · exact e ▸ free.fitted
    · rw [h.other e] at up
      exact apart.fitted d up
  · rw [h.tooled] at own
    by_cases e : d = c
    · subst e
      exact absurd ((apart.service d own).symm.trans free.state) nofun
    · rw [h.other e]
      exact apart.service d own
  · rw [h.fitted] at hd he
    rw [h.chanClass, h.chanClass] at differ
    by_cases ec : e = c
    · subst ec
      have different : d ≠ e := fun same => differ (congrArg _ same)
      rw [engaged_other d different, mine d hd differ] at on
      cases on
    · rw [h.other ec, h.valve_other ec]
      by_cases dc : d = c
      · subst dc
        exact others e he (Ne.symm differ)
      · rw [engaged_other d dc] at on
        exact apart.classes d e hd he differ on

/-- A raise gives a role that no channel had. -/
theorem RolesHold.raises (roles : RolesHold s) (h : Raises s c x t) (fresh : ∀ d, (Machine.chan s d).role ≠ x) :
    RolesHold t := by
  intro d e role same
  have mine : (Machine.chan t c).role = x := by rw [h.self]; rfl
  by_cases hd : d = c <;> by_cases he : e = c
  · exact hd.trans he.symm
  · rw [hd, mine, h.other he] at same
    exact absurd same.symm (fresh e)
  · rw [he, mine, h.other hd] at same
    exact absurd same (fresh d)
  · rw [h.other hd] at role
    rw [h.other hd, h.other he] at same
    exact roles d e role same

end Raises

/-! ### The end of an event, part by part -/

/-- The end of an event up to the raises. -/
def beforeRaises (s : State) : State := dropScraper (progress s)

theorem eases_beforeRaises (s : State) : Eases s (beforeRaises s) := (eases_progress s).trans (eases_dropScraper _)

theorem settle_of_running (b : State) {s : State} (h : Running s) : settle b s =
    heaterTest b (scraperRaise (scraperTest (collectorRaise (beforeRaises s)))) := by
  simp [settle, h.held, h.roof, beforeRaises]

theorem settle_of_not_running (b : State) {s : State} (h : ¬ Running s) : settle b s = s := by
  by_cases held : s.held = true
  · exact settle_held b s held
  · by_cases start : s.roofState = .starting
    · exact settle_starting b s start
    · exact absurd ⟨by simpa using held, start⟩ h

/-- What a test of the scraper conditions can do (R148, R150). -/
theorem scraperTest_cases (s : State) : scraperTest s = s ∨
    (s.ice.scraperRequest = true ∧ scraperKeep s = false ∧ scraperTest s = withdrawScraper s) ∨
    (s.ice.scraperRequest = false ∧ scraperSet s = true ∧
      scraperTest s = s.withIce { s.ice with scraperRequest := true }) := by
  unfold scraperTest
  split
  · split
    · exact .inl rfl
    · exact .inr (.inl ⟨‹_›, by simpa using ‹¬ scraperKeep s = true›, rfl⟩)
  · split
    · exact .inr (.inr ⟨by simpa using ‹¬ s.ice.scraperRequest = true›, ‹_›, rfl⟩)
    · exact .inl rfl

/-- A property of channels and outputs that withdrawing the request keeps is kept by the test. -/
theorem scraperTest_keeps {P : State → Prop} {s : State} (h : P s) (withdrawn : P (withdrawScraper s))
    (set : ∀ x, P (s.withIce { s.ice with scraperRequest := x })) : P (scraperTest s) := by
  rcases scraperTest_cases s with e | ⟨-, -, e⟩ | ⟨-, -, e⟩ <;> rw [e]
  · exact h
  · exact withdrawn
  · exact set true

/-! ### The records keep their bounds -/

theorem scraperTest_chg (s : State) : (scraperTest s).chg = s.chg := by
  rcases scraperTest_cases s with e | ⟨-, -, e⟩ | ⟨-, -, e⟩ <;> rw [e]
  · exact withdrawScraper_chg s
  · rfl

theorem collectorRaise_chg (s : State) : (collectorRaise s).chg = s.chg := by
  cases h : raiseCandidate s with
  | none => rw [collectorRaise_none h]
  | some c => exact (raises_collectorRaise h).chg

theorem scraperRaise_chg (s : State) : (scraperRaise s).chg = s.chg := by
  cases h : scraperCandidate s with
  | none => rw [scraperRaise_none h]
  | some c => exact (raises_scraperRaise h).chg

theorem heaterTest_chg (b s : State) : (heaterTest b s).chg = s.chg := congrArg (·.chg) (heaterTest_blind b s)

theorem outcomesHold_settle (b : State) {s : State} (h : OutcomesHold s) : OutcomesHold (settle b s) := by
  by_cases run : Running s
  · rw [settle_of_running b run, OutcomesHold, heaterTest_chg, scraperRaise_chg, scraperTest_chg, collectorRaise_chg]
    exact (eases_beforeRaises s).outcomes h
  · rwa [settle_of_not_running b run]

theorem iceHolds_settle (b : State) {s : State} (h : IceHolds s) : IceHolds (settle b s) := by
  have same := calm_kept (calm_settle b s)
  exact ⟨kept_ice_index same ▸ h.index, kept_arcCount same ▸ h.arcs⟩

theorem positionHolds_settle (b : State) {s : State} (h : PositionHolds s) : PositionHolds (settle b s) := by
  have same := kept_pos (calm_kept (calm_settle b s))
  exact ⟨same ▸ h.metres, same ▸ h.remainder, same ▸ h.speed, same ▸ h.track⟩

theorem channelsHold_settle (b : State) {s : State} (h : ChannelsHold s) : ChannelsHold (settle b s) := fun c =>
  channelLaw_of_kept (kept_chan (calm_kept (calm_settle b s)) c) (h c)

/-- The four bounds stay, each by itself. -/
structure Bounded (s t : State) : Prop where
  outcomes : OutcomesHold s → OutcomesHold t
  ice : IceHolds s → IceHolds t
  position : PositionHolds s → PositionHolds t
  channels : ChannelsHold s → ChannelsHold t

theorem Sinks.bounded {s t : State} (h : Sinks s t) : Bounded s t := ⟨h.outcomes, h.ice, h.position, h.channels⟩

theorem Follows.bounded {s t : State} (h : Follows s t) : Bounded s t := by
  cases h with
  | stands q => exact (eases_withPending s q).tame.toSinks.bounded
  | ticks q => exact ((eases_tickTime s).trans (eases_withPending _ q)).tame.toSinks.bounded
  | resets f q => exact ((eases_withPending s q).tame.trans (tame_holdReset f _)).toSinks.bounded
  | settles b u tame =>
    exact ⟨outcomesHold_settle b ∘ tame.outcomes, iceHolds_settle b ∘ tame.ice, positionHolds_settle b ∘ tame.position,
      channelsHold_settle b ∘ tame.channels⟩

/-- Settles O59: what a command does keeps the bounds (`Tame`), and the end of its event writes none of the four but the
outcome list, through the stages. -/
theorem recordsStayInBounds : Obligations.RecordsStayInBounds := by
  intro s t e
  have h := (follows_step e).bounded
  exact ⟨h.outcomes, h.ice, h.position, h.channels⟩

/-! ### The roles -/

theorem RolesHold.of_sinks {s t : State} (h : RolesHold s) (sinks : Sinks s t) : RolesHold t := by
  intro c d role same
  rcases sinks.role c with e | e
  · exact absurd e role
  · rcases sinks.role d with f | f
    · exact absurd (same.trans f) role
    · exact h c d (e ▸ role) (e.symm.trans (same.trans f))

theorem rolesHold_collectorRaise {s : State} (h : RolesHold s) : RolesHold (collectorRaise s) := by
  cases e : raiseCandidate s with
  | none => rwa [collectorRaise_none e]
  | some c =>
    obtain ⟨_, rises⟩ := collectorRises_of e
    exact h.raises (raises_collectorRaise e) (collector_none.mp rises.none)

theorem rolesHold_scraperRaise {s : State} (h : RolesHold s) : RolesHold (scraperRaise s) := by
  cases e : scraperCandidate s with
  | none => rwa [scraperRaise_none e]
  | some c =>
    obtain ⟨_, rises⟩ := scraperRises_of e
    exact h.raises (raises_scraperRaise e) (hasScraper_false.mp rises.none)

theorem rolesHold_scraperTest {s : State} (h : RolesHold s) : RolesHold (scraperTest s) :=
  scraperTest_keeps h (h.of_sinks (eases_withdrawScraper s).tame.toSinks) fun _ => h

theorem heaterTest_pcu (b s : State) : (heaterTest b s).pcu = s.pcu := congrArg (·.pcu) (heaterTest_blind b s)

theorem eases_heaterTest (b s : State) : Eases s (heaterTest b s) := eases_of_blind (heaterTest_blind b s)

theorem rolesHold_settle (b : State) {s : State} (h : RolesHold s) : RolesHold (settle b s) := by
  by_cases run : Running s
  · rw [settle_of_running b run]
    have up := rolesHold_collectorRaise (h.of_sinks (eases_beforeRaises s).tame.toSinks)
    exact (rolesHold_scraperRaise (rolesHold_scraperTest up)).of_sinks (eases_heaterTest b _).tame.toSinks
  · rwa [settle_of_not_running b run]

theorem Follows.rolesHold {s t : State} (h : Follows s t) (roles : RolesHold s) : RolesHold t := by
  cases h with
  | stands q => exact roles
  | ticks q => exact roles.of_sinks ((eases_tickTime s).trans (eases_withPending _ q)).tame.toSinks
  | resets f q => exact roles.of_sinks ((eases_withPending s q).tame.trans (tame_holdReset f _)).toSinks
  | settles b u tame => exact rolesHold_settle b (roles.of_sinks tame.toSinks)

/-! ### The classes -/

/-- A SCRAPER that is raised has a COLLECTOR of its class IN_CONTACT (R38). -/
def ScraperFollows (s : State) : Prop :=
  ∀ c, (chan s c).role = .scraper → raised (chan s c) = true →
    ∃ p, (chan s p).role = .collector ∧ (chan s p).state = .inContact ∧ chanClass s p = chanClass s c

/-- `ClassesHold`, in its three parts. -/
theorem classesHold_iff (s : State) : ClassesHold s ↔ RolesHold s ∧ ClassesApart s ∧ ScraperFollows s := by
  constructor
  · intro h
    refine ⟨h.roles, ⟨h.held, h.starting, h.fitted, fun c own => h.service c ((tooled_iff _).mp own), h.winter,
      fun c d hc hd differ on => ?_⟩, h.scraper⟩
    obtain ⟨rest, free⟩ := h.classes c d hc hd differ on
    rw [← awayFromRest_eq, ← inService_eq, rest, free]
    rfl
  · rintro ⟨roles, apart, scraper⟩
    refine ⟨roles, apart.held, apart.starting, apart.fitted, fun c own =>
        apart.service c ((tooled_iff _).mpr own), apart.winter,
      scraper, fun c d hc hd differ on => ?_⟩
    have free := apart.classes c d hc hd differ on
    rwa [← awayFromRest_eq, ← inService_eq, Bool.or_eq_false_iff] at free

theorem ScraperFollows.of_none {s : State} (h : ∀ c, (chan s c).role = .scraper → raised (chan s c) = false) :
    ScraperFollows s := fun c role up => by simp [h c role] at up

/-- Raised channels share a class. -/
theorem ClassesApart.class_of_raised {s : State} (h : ClassesApart s) {c d : Chan} (hc : raised (chan s c) = true)
    (hd : raised (chan s d) = true) : chanClass s c = chanClass s d := by
  by_contra differ
  have rest := h.classes c d (h.fitted c hc) (h.fitted d hd) differ (by rw [engaged_eq, hc]; rfl)
  simp [away_of_raised hd] at rest

/-- R38 at the end of an event: with no COLLECTOR IN_CONTACT no SCRAPER stays raised. -/
theorem dropScraper_none {s : State} (h : collectorInContact (dropScraper s) = none) (c : Chan)
    (role : (chan (dropScraper s) c).role = .scraper) : raised (chan (dropScraper s) c) = false := by
  unfold dropScraper at h role ⊢
  split at h
  · rw [if_pos ‹_›] at role ⊢
    exact lowerScraper_none s c role
  · simp [h] at *

theorem scraperFollows_dropScraper {s : State} (h : ClassesApart (dropScraper s)) : ScraperFollows (dropScraper s) := by
  cases e : collectorInContact (dropScraper s) with
  | none => exact .of_none (dropScraper_none e)
  | some p =>
    obtain ⟨role, state⟩ := collectorInContact_some e
    exact fun c _ up => ⟨p, role, state, h.class_of_raised ((raised_iff _).mpr (.inr state)) up⟩

theorem classesHold_collectorRaise {s : State} (h : ClassesHold s) : ClassesHold (collectorRaise s) := by
  cases e : raiseCandidate s with
  | none => rwa [collectorRaise_none e]
  | some c =>
    obtain ⟨roles, apart, scraper⟩ := (classesHold_iff s).mp h
    obtain ⟨t, rises⟩ := collectorRises_of e
    have raise := raises_collectorRaise e
    have served := anyService_false.mp rises.service
    have rest : ∀ d, fitted s d = true → chanClass s d ≠ chanClass s c → away (chan s d) = false := fun d fits differ =>
      rises.others d fits (rises.chanClass ▸ differ)
    refine (classesHold_iff _).mpr ⟨rolesHold_collectorRaise roles, apart.raises raise rises.available rises.ready
      (fun d fits differ => by rw [rest d fits differ, served d]; rfl) (fun d fits differ => ?_), .of_none fun d role =>
        ?_⟩
    · rw [engaged_eq, served d, Bool.or_false]
      refine Bool.eq_false_iff.mpr fun up => ?_
      have low := rest d fits differ
      rw [away_of_raised up] at low
      cases low
    · by_cases hd : d = c
      · rw [hd, raise.self] at role
        cases role
      · rw [raise.other hd] at role ⊢
        refine Bool.eq_false_iff.mpr fun up => ?_
        obtain ⟨p, collects, -⟩ := scraper d role up
        exact collector_none.mp rises.none p collects

theorem classesHold_scraperRaise {s : State} (h : ClassesHold s) : ClassesHold (scraperRaise s) := by
  cases e : scraperCandidate s with
  | none => rwa [scraperRaise_none e]
  | some c =>
    obtain ⟨roles, apart, -⟩ := (classesHold_iff s).mp h
    obtain ⟨p, rises⟩ := scraperRises_of e
    have raise := raises_scraperRaise e
    obtain ⟨q, contact⟩ := Option.isSome_iff_exists.mp rises.contact
    obtain ⟨collects, touches⟩ := collectorInContact_some contact
    have same : q = p := roles q p (by simp [collects]) (collects.trans (collector_some rises.collector).symm)
    subst same
    have up : raised (chan s q) = true := (raised_iff _).mpr (.inr touches)
    have engaged_q : engaged s q = true := by rw [engaged_eq, up]; rfl
    refine (classesHold_iff _).mpr ⟨rolesHold_scraperRaise roles, apart.raises raise rises.available rises.ready
      (fun d fits differ => ?_) (fun d fits differ => ?_), fun d role lifted => ⟨q, ?_, ?_, ?_⟩⟩
    · exact apart.classes q d (apart.fitted q up) fits (rises.sameClass ▸ differ.symm) engaged_q
    · refine Bool.eq_false_iff.mpr fun on => ?_
      have rest := apart.classes d q fits (apart.fitted q up) (rises.sameClass ▸ differ) on
      simp [away_of_raised up] at rest
    · rwa [raise.other rises.other.symm]
    · rwa [raise.other rises.other.symm]
    · rw [raise.chanClass, raise.chanClass]
      by_cases hd : d = c
      · exact hd ▸ rises.sameClass.symm
      · rw [raise.other hd] at role
        exact absurd role (hasScraper_false.mp rises.none d)

/-- Withdrawing the request lowers the SCRAPER, with the hold off (R149). -/
theorem withdrawScraper_eq (s : State) : ∃ u, u = lowerScraper (s.withIce { s.ice with scraperRequest := false }) ∧
    withdrawScraper s = u.withPcu { u.pcu with scraperHold := false } := ⟨_, rfl, rfl⟩

theorem withdrawScraper_none (s : State) (c : Chan) (role : (chan (withdrawScraper s) c).role = .scraper) :
    raised (chan (withdrawScraper s) c) = false := by
  obtain ⟨u, lowers, e⟩ := withdrawScraper_eq s
  have same : chan (withdrawScraper s) c = chan u c := by rw [e]; rfl
  rw [same, lowers] at role ⊢
  exact lowerScraper_none _ c role

theorem classesHold_scraperTest {s : State} (h : ClassesHold s) : ClassesHold (scraperTest s) := by
  obtain ⟨roles, apart, scraper⟩ := (classesHold_iff s).mp h
  have withdrawn := eases_withdrawScraper s
  have set : ∀ x, ClassesApart (s.withIce { s.ice with scraperRequest := x }) := fun x =>
    ⟨apart.held, apart.starting, apart.fitted, apart.service, apart.winter, apart.classes⟩
  exact scraperTest_keeps h
    ((classesHold_iff _).mpr ⟨roles.of_sinks withdrawn.tame.toSinks, withdrawn.apart apart,
      .of_none (withdrawScraper_none s)⟩)
    fun x => (classesHold_iff _).mpr ⟨roles, set x, scraper⟩

theorem ScraperFollows.of_same {s t : State} (h : ScraperFollows s) (chans : t.pcu = s.pcu) (params : t.pst = s.pst) :
    ScraperFollows t := by
  have classes : ∀ c, chanClass t c = chanClass s c := fun c => by rw [chanClass, eff, params, chanClass, eff]
  intro c role up
  rw [chan_congr chans] at role up
  obtain ⟨p, collects, touches, same⟩ := h c role up
  exact ⟨p, by rwa [chan_congr chans], by rwa [chan_congr chans], by rw [classes, classes, same]⟩

theorem classesHold_heaterTest (b : State) {s : State} (h : ClassesHold s) : ClassesHold (heaterTest b s) := by
  obtain ⟨roles, apart, scraper⟩ := (classesHold_iff s).mp h
  have eases := eases_heaterTest b s
  exact (classesHold_iff _).mpr ⟨roles.of_sinks eases.tame.toSinks, eases.apart apart,
    scraper.of_same (heaterTest_pcu b s) (congrArg (·.pst) (heaterTest_blind b s))⟩

/-- The end of an event gives the SCRAPER's clause back, and keeps the others. -/
theorem classesHold_settle (b : State) {s : State} (roles : RolesHold s) (apart : ClassesApart s) :
    ClassesHold (settle b s) := by
  by_cases run : Running s
  · rw [settle_of_running b run]
    have before := eases_beforeRaises s
    have apart' : ClassesApart (beforeRaises s) := before.apart apart
    have first : ClassesHold (beforeRaises s) := (classesHold_iff _).mpr
      ⟨roles.of_sinks before.tame.toSinks, apart', scraperFollows_dropScraper apart'⟩
    exact classesHold_heaterTest b (classesHold_scraperRaise (classesHold_scraperTest (classesHold_collectorRaise first)))
  · rw [settle_of_not_running b run]
    have start : s.roofState = .starting := by
      by_contra other
      exact run ⟨Bool.eq_false_iff.mpr fun held => other (apart.held held), other⟩
    refine (classesHold_iff _).mpr ⟨roles, apart, .of_none fun c _ => ?_⟩
    simp [raised, (apart.starting start c).1]

theorem ScraperFollows.ticks {s : State} (h : ScraperFollows s) (q : List Instr) :
    ScraperFollows ((tickTime s).withPending q) := by
  by_cases start : s.roofState = .starting
  · rw [tickTime_of_starting start]
    exact h
  · have chans : ∀ c, chan ((tickTime s).withPending q) c = tickChannel (chan s c) := (tickTime_blocks start).2.2.1
    rw [tickTime_of_running start] at *
    intro c role up
    rw [chans] at role up
    obtain ⟨p, collects, touches, same⟩ := h c role up
    exact ⟨p, by rw [chans]; exact collects, by rw [chans]; exact touches, same⟩

theorem Follows.classesHold {s t : State} (h : Follows s t) (classes : ClassesHold s) : ClassesHold t := by
  obtain ⟨roles, apart, scraper⟩ := (classesHold_iff s).mp classes
  cases h with
  | stands q => exact (classesHold_iff _).mpr ⟨roles, (eases_withPending s q).apart apart, scraper⟩
  | ticks q =>
    have eases := (eases_tickTime s).trans (eases_withPending _ q)
    exact (classesHold_iff _).mpr ⟨roles.of_sinks eases.tame.toSinks, eases.apart apart, scraper.ticks q⟩
  | resets f q =>
    have tame := (eases_withPending s q).tame.trans (tame_holdReset f _)
    refine (classesHold_iff _).mpr ⟨roles.of_sinks tame.toSinks, tame.apart apart, .of_none fun c _ => ?_⟩
    rw [holdReset_chan]
    rfl
  | settles b u tame => exact classesHold_settle b (roles.of_sinks tame.toSinks) (tame.apart apart)

/-- Settles O55: what a command does gives no role and keeps the classes apart (`Tame`); the end of its event lowers a
SCRAPER without its COLLECTOR, and raises a channel only beside those of its class. -/
theorem rolesAndClassesStayApart : Obligations.RolesAndClassesStayApart := fun _ _ e =>
  have h := follows_step e
  ⟨h.rolesHold, h.classesHold⟩

end Sys2Proof.Machine
end

section
/-!
PROOFS. A channel rises only under its conditions, and the scraper request follows its own (O49).
-/

namespace Sys2Proof.Machine

/-! ### The best of a list (R39) -/

theorem eq_nil_of_bestOf {better : Chan → Chan → Bool} {l : List Chan} (h : bestOf better l = none) : l = [] := by
  cases l with
  | nil => rfl
  | cons x xs =>
    unfold bestOf at h
    cases e : bestOf better xs with
    | none => simp [e] at h
    | some d =>
      rw [e] at h
      dsimp only at h
      split at h <;> cases h

/-- The best of a list is one that none of it betters, where `better` is a strict weak order. -/
theorem bestOf_unbettered {better : Chan → Chan → Bool} (irrefl : ∀ a, better a a = false)
    (trans : ∀ a b c, better a b = false → better b c = false → better a c = false)
    (asymm : ∀ a b, better a b = true → better b a = false) {l : List Chan} {m : Chan} (h : bestOf better l = some m) :
    ∀ d ∈ l, better d m = false := by
  induction l generalizing m with
  | nil => cases h
  | cons c rest ih =>
    unfold bestOf at h
    cases e : bestOf better rest with
    | none =>
      rw [e] at h
      cases h
      simp [eq_nil_of_bestOf e, irrefl]
    | some d =>
      have best := ih e
      rw [e] at h
      dsimp only at h
      split at h
      · cases h
        exact List.forall_mem_cons.mpr ⟨asymm _ _ ‹_›, best⟩
      · cases h
        exact List.forall_mem_cons.mpr ⟨irrefl _, fun x mem => trans _ _ _ (best x mem) (Bool.eq_false_iff.mpr ‹_›)⟩

theorem nearer_irrefl (s : State) (a : Chan) : nearer s a a = false := by unfold nearer; split <;> simp

theorem nearer_asymm (s : State) (a b : Chan) (h : nearer s a b = true) : nearer s b a = false := by
  unfold nearer at h ⊢
  split at h <;> simp_all <;> omega

theorem nearer_trans (s : State) (a b c : Chan) (h : nearer s a b = false) (g : nearer s b c = false) :
    nearer s a c = false := by
  unfold nearer at h g ⊢
  split at h <;> simp_all <;> omega

theorem collectorChoice_best {s : State} {k : Cls} {c : Chan} (h : collectorChoice s k = some c) :
    (∀ p, s.pcu.preferred = some p → available s p = true → chanClass s p = some k → c = p) ∧
    ((∀ p, s.pcu.preferred = some p → available s p = false ∨ chanClass s p ≠ some k) →
      ∀ d, available s d = true → chanClass s d = some k → nearer s c d = false) := by
  have best : bestOf (fun a b => nearer s b a) (allChans.filter fun c => available s c && chanClass s c == some k) =
      some c →
      ∀ d, available s d = true → chanClass s d = some k → nearer s c d = false := fun h d free same =>
    bestOf_unbettered (better := fun a b => nearer s b a) (nearer_irrefl s) (fun a b c h g => nearer_trans s c b a g h)
      (fun a b h => nearer_asymm s b a h) h d
      (List.mem_filter.mpr ⟨mem_allChans d, by simp [free, same]⟩)
  unfold collectorChoice at h
  dsimp only at h
  split at h
  · rename_i p wish
    split at h
    · rename_i ok
      cases h
      simp only [Bool.and_eq_true, beq_iff_eq] at ok
      refine ⟨fun q hq _ _ => Option.some.inj (wish.symm.trans hq), fun other => ?_⟩
      rcases other c wish with e | e
      · exact absurd (ok.1.symm.trans e) nofun
      · exact absurd ok.2 e
    · rename_i bad
      refine ⟨fun q hq free same => ?_, fun _ => best h⟩
      cases Option.some.inj (wish.symm.trans hq)
      exact absurd (by simp [free, same]) bad
  · rename_i wish
    exact ⟨fun q hq => by simp [wish] at hq, fun _ => best h⟩

/-! ### A channel that rose -/

theorem raiseWindow_iff (s : State) : raiseWindow s = true ↔ s.chg.seq = none ∨ s.chg.seq.map (·.stage) =
    some .raising := by
  unfold raiseWindow
  cases s.chg.seq <;> simp

/-- Whatever its role, a channel that rose (R40, R41). -/
structure Rose (t : State) (c : Chan) : Prop where
  time : (chan t c).stateTime = 0
  dump : (chan t c).dumpOn = false
  ready : t.roofState = .ready
  target : (chan t c).forceTarget = forceTargetOf t c (chan t c).role
  duty : loopOwns (valve t c) = true → (valve t c).buffered = effNat t Par.raiseDuty

/-- The ten raise conditions after the raise of the COLLECTOR (Table 2-10). -/
structure RoseAsCollector (t : State) (c : Chan) : Prop where
  role : (chan t c).role = .collector
  demand : t.cau.demand.isSome = true
  service : anyService t = false
  settle : t.pst.settle = false
  window : t.chg.seq = none ∨ t.chg.seq.map (·.stage) = some .raising
  alone : ∀ d, (chan t d).role = .collector → d = c
  hold : t.pcu.collectorHold = false
  preferred : t.pcu.preferred = none
  target : ∃ g, t.chg.target = some g ∧ chanClass t c = some (classOf g) ∧
    ∀ d, fitted t d = true → chanClass t d ≠ some (classOf g) → awayFromRest t d = false

/-- The conditions of R40 after the raise of the SCRAPER. -/
structure RoseAsScraper (t : State) (c : Chan) : Prop where
  role : (chan t c).role = .scraper
  request : t.ice.scraperRequest = true
  hold : t.pcu.scraperHold = false
  contact : (collectorInContact t).isSome = true
  alone : ∀ d, (chan t d).role = .scraper → d = c
  beside : ∃ p, collector t = some p ∧ chanClass t c = chanClass t p ∧ nearer t c p = true

section
variable {s t : State} {c : Chan} {x : Role}

theorem Raises.forceTargetOf (h : Raises s c x t) (d : Chan) (y : Role) :
    forceTargetOf t d y = forceTargetOf s d y := by
  unfold Machine.forceTargetOf
  simp only [h.chanClass, h.eff, h.smp]

theorem Raises.rose (h : Raises s c x t) (ready : s.roofState = .ready) : Rose t c where
  time := by rw [h.self]; rfl
  dump := by rw [h.self]; rfl
  ready := h.roof.trans ready
  target := by rw [h.self, h.forceTargetOf]; rfl
  duty own := by
    rw [h.valve, if_pos rfl] at own ⊢
    rw [written_buffered _ _ (loopOwns_written .. ▸ own), effNat, effNat, h.eff]

theorem Raises.served (h : Raises s c x t) (free : ∀ d, served (Machine.chan s d) (Machine.valve s d) = false)
    (d : Chan) :
    served (Machine.chan t d) (Machine.valve t d) = false := by
  have same : Machine.served (Machine.chan t d) (Machine.valve t d) = true →
      Machine.served (Machine.chan s d) (Machine.valve s d) = true := by
    rw [Machine.served, (h.valve_flags d).2, Machine.served]
    by_cases e : d = c
    · subst e; rw [h.self]; simp [risen]; exact .inr
    · rw [h.other e]; exact id
  exact Bool.eq_false_iff.mpr fun on => Bool.eq_false_iff.mp (free d) (same on)

theorem rose_collectorRaise (e : raiseCandidate s = some c) :
    Rose (collectorRaise s) c ∧ RoseAsCollector (collectorRaise s) c := by
  obtain ⟨g, rises⟩ := collectorRises_of e
  have raise := raises_collectorRaise e
  have unwished : (collectorRaise s).pcu.preferred = none := by rw [collectorRaise_some e]; rfl
  refine ⟨raise.rose rises.ready, by rw [raise.self]; rfl, by rw [raise.cau]; exact rises.demand,
    anyService_false.mpr (raise.served (anyService_false.mp rises.service)), by rw [raise.pst]; exact rises.settle,
    by rw [raise.chg]; exact (raiseWindow_iff s).mp rises.window,
      fun d role => ?_, raise.collectorHold.trans rises.hold, unwished,
    g, by rw [raise.chg]; exact rises.target, by rw [raise.chanClass]; exact rises.chanClass, fun d fits differ => ?_⟩
  · by_contra other
    rw [raise.other other] at role
    exact collector_none.mp rises.none d role
  · rw [raise.fitted] at fits
    rw [raise.chanClass] at differ
    have other : d ≠ c := fun same => differ (same ▸ rises.chanClass)
    rw [awayFromRest_eq, raise.other other]
    exact rises.others d fits differ

/-- The first that satisfies a condition satisfies it first still when others cease to. -/
theorem find?_of_imp {α : Type} {p q : α → Bool} {l : List α} {a : α} (h : l.find? p = some a) (ha : q a = true)
    (imp : ∀ x, q x = true → p x = true) : l.find? q = some a := by
  induction l with
  | nil => cases h
  | cons x xs ih =>
    by_cases hp : p x = true
    · rw [List.find?_cons_of_pos hp] at h
      cases h
      exact List.find?_cons_of_pos ha
    · rw [List.find?_cons_of_neg hp] at h
      rw [List.find?_cons_of_neg (mt (imp x) hp)]
      exact ih h

theorem rose_scraperRaise (e : scraperCandidate s = some c) :
    Rose (scraperRaise s) c ∧ RoseAsScraper (scraperRaise s) c := by
  obtain ⟨p, rises⟩ := scraperRises_of e
  have raise := raises_scraperRaise e
  have still : collector (scraperRaise s) = some p := find?_of_imp rises.collector
    (by simp [isCollector, raise.other rises.other.symm, collector_some rises.collector]) fun d => by
      by_cases same : d = c
      · subst same; simp [isCollector, raise.self, risen]
      · simp [isCollector, raise.other same]
  obtain ⟨q, contact⟩ := Option.isSome_iff_exists.mp rises.contact
  obtain ⟨collects, touches⟩ := collectorInContact_some contact
  have apart : q ≠ c := fun same => by
    rw [same, rises.available.state] at touches
    cases touches
  refine ⟨raise.rose rises.ready, by rw [raise.self]; rfl, by rw [raise.ice]; exact rises.request,
    raise.scraperHold.trans rises.hold, ?_,
      fun d role => ?_, p, still, by simp only [raise.chanClass]; exact rises.sameClass, ?_⟩
  · rw [Option.isSome_iff_ne_none]
    intro none
    exact collectorInContact_none.mp none q (by rw [raise.other apart]; exact ⟨collects, touches⟩)
  · by_contra other
    rw [raise.other other] at role
    exact hasScraper_false.mp rises.none d role
  · have same : nearer (scraperRaise s) c p = nearer s c p := by
      rw [nearer, leadingEnd2, mountOffset, mountOffset, raise.cau, raise.eff, raise.eff]
      rfl
    exact same.trans rises.nearer

end

/-! ### What follows the raise -/

theorem lowerScraper_self {s : State} (h : ∀ c, (chan s c).role = .scraper → raised (chan s c) = false) :
    lowerScraper s = s := by
  have one : ∀ c, (if isScraper s c then ordinaryLower s c else s) = s := fun c => by
    split
    · rename_i role
      exact if_neg (by rw [h c (by simpa [isScraper] using role)]; nofun)
    · rfl
  simp [lowerScraper, allChans, one]

/-- A state in which only the scraper request and its hold have been taken back. -/
def unasked (s : State) : State :=
  (s.withIce { s.ice with scraperRequest := false }).withPcu { s.pcu with scraperHold := false }

theorem withdrawScraper_self {s : State} (h : ∀ c, (chan s c).role = .scraper → raised (chan s c) = false) :
    withdrawScraper s = unasked s := by
  have same : lowerScraper (s.withIce { s.ice with scraperRequest := false }) =
      s.withIce { s.ice with scraperRequest := false } :=
    lowerScraper_self h
  obtain ⟨u, lowers, e⟩ := withdrawScraper_eq s
  rw [e, lowers, same]
  rfl

theorem scraperSet_contact {s : State} (h : scraperSet s = true) : (collectorInContact s).isSome = true := by
  simp only [scraperSet, scraperCommon, Bool.and_eq_true] at h
  exact h.1.1.1.1.1.1.2

theorem scraperCandidate_of_no_contact {s : State} (h : collectorInContact s = none) : scraperCandidate s = none := by
  simp [scraperCandidate, h]

/-- A raise of the COLLECTOR ends the event, but for a scraper request withdrawn. -/
theorem after_collectorRaise {s : State} {c : Chan} (e : raiseCandidate s = some c)
    (low : ∀ d, (chan s d).role = .scraper → raised (chan s d) = false) :
    scraperRaise (scraperTest (collectorRaise s)) = collectorRaise s ∨
      scraperRaise (scraperTest (collectorRaise s)) = unasked (collectorRaise s) := by
  have raise := raises_collectorRaise e
  have alone := (rose_collectorRaise e).2.alone
  have contact : collectorInContact (collectorRaise s) = none := collectorInContact_none.mpr fun d ⟨role, state⟩ => by
    rw [alone d role, raise.self] at state
    cases state
  have low' : ∀ d, (chan (collectorRaise s) d).role = .scraper → raised (chan (collectorRaise s) d) = false :=
      fun d role => by
    by_cases same : d = c
    · rw [same, raise.self] at role
      cases role
    · rw [raise.other same] at role ⊢
      exact low d role
  rcases scraperTest_cases (collectorRaise s) with e | ⟨-, -, e⟩ | ⟨-, set, -⟩
  · rw [e, scraperRaise_none (scraperCandidate_of_no_contact contact)]
    exact .inl rfl
  · rw [e, withdrawScraper_self low', scraperRaise_none (scraperCandidate_of_no_contact (s := unasked _) contact)]
    exact .inr rfl
  · have touches := scraperSet_contact set
    simp [contact] at touches

theorem beforeRaises_low {s : State} (h : collector (beforeRaises s) = none) (c : Chan)
    (role : (chan (beforeRaises s) c).role = .scraper) : raised (chan (beforeRaises s) c) = false :=
  dropScraper_none (collectorInContact_none.mpr fun d both => collector_none.mp h d both.1) c role

/-- A channel that rose did so as the COLLECTOR or as the SCRAPER. -/
def RoseRightly (t : State) (c : Chan) : Prop := Rose t c ∧ (RoseAsCollector t c ∨ RoseAsScraper t c)

theorem roseRightly_heaterBlind (s : State) (c : Chan) : RoseRightly (heaterBlind s) c ↔ RoseRightly s c := by
  have rose : Rose (heaterBlind s) c ↔ Rose s c := by
    constructor <;> exact fun h => ⟨h.time, h.dump, h.ready, h.target, h.duty⟩
  have collects : RoseAsCollector (heaterBlind s) c ↔ RoseAsCollector s c := by
    constructor <;> exact fun h =>
      ⟨h.role, h.demand, h.service, h.settle, h.window, h.alone, h.hold, h.preferred, h.target⟩
  have scrapes : RoseAsScraper (heaterBlind s) c ↔ RoseAsScraper s c := by
    constructor <;> exact fun h => ⟨h.role, h.request, h.hold, h.contact, h.alone, h.beside⟩
  rw [RoseRightly, rose, collects, scrapes, RoseRightly]

/-- The heaters' part of an event's end does not touch what a raise depends on. -/
theorem RoseRightly.of_blind {s t : State} {c : Chan} (rose : RoseRightly s c) (h : heaterBlind t = heaterBlind s) :
    RoseRightly t c := by
  rw [← roseRightly_heaterBlind, h, roseRightly_heaterBlind]
  exact rose

/-- A channel that the end of an event raises is its COLLECTOR or its SCRAPER. -/
theorem rose_settle (b : State) {s : State} {c : Chan} (run : Running s) (low : (chan s c).state ≠ .raising)
    (up : (chan (settle b s) c).state = .raising) : RoseRightly (settle b s) c := by
  have low' : (chan (beforeRaises s) c).state ≠ .raising := mt ((eases_beforeRaises s).rise c) low
  rw [settle_of_running b run] at up ⊢
  refine RoseRightly.of_blind ?_ (heaterTest_blind b _)
  rw [chan_congr (heaterTest_pcu b _)] at up
  generalize hu : beforeRaises s = u at up low' ⊢
  cases e : raiseCandidate u with
  | some d =>
    obtain ⟨_, rises⟩ := collectorRises_of e
    have raise := raises_collectorRaise e
    have still := after_collectorRaise e (hu ▸ beforeRaises_low (hu ▸ rises.none))
    have chans : chan (scraperRaise (scraperTest (collectorRaise u))) c = chan (collectorRaise u) c := by
      rcases still with f | f <;> rw [f]
      rfl
    have same : c = d := by
      by_contra other
      rw [chans, raise.other other] at up
      exact low' up
    subst same
    obtain ⟨rose, collects⟩ := rose_collectorRaise e
    rcases still with f | f <;> rw [f]
    · exact ⟨rose, .inl collects⟩
    · exact ⟨⟨rose.time, rose.dump, rose.ready, rose.target, rose.duty⟩,
        .inl ⟨collects.role, collects.demand, collects.service,
        collects.settle, collects.window, collects.alone, collects.hold, collects.preferred, collects.target⟩⟩
  | none =>
    rw [collectorRaise_none e] at up ⊢
    have low'' : (chan (scraperTest u) c).state ≠ .raising :=
      scraperTest_keeps (P := fun t => (chan t c).state ≠ .raising) low' (mt ((eases_withdrawScraper u).rise c) low') fun _ => low'
    cases f : scraperCandidate (scraperTest u) with
    | none => rw [scraperRaise_none f] at up; exact absurd up low''
    | some d =>
      have same : c = d := by
        by_contra other
        rw [(raises_scraperRaise f).other other] at up
        exact low'' up
      subst same
      obtain ⟨rose, scrapes⟩ := rose_scraperRaise f
      exact ⟨rose, .inr scrapes⟩

theorem Follows.rose {s t : State} (h : Follows s t) {c : Chan} (low : (chan s c).state ≠ .raising)
    (up : (chan t c).state = .raising) : RoseRightly t c := by
  cases h with
  | stands q => exact absurd up low
  | ticks q => exact absurd (((eases_tickTime s).trans (eases_withPending _ q)).rise c up) low
  | resets f q => exact absurd ((tame_holdReset f _).rise c up) low
  | settles b u tame =>
    have low' : (chan u c).state ≠ .raising := mt (tame.rise c) low
    by_cases run : Running u
    · exact rose_settle b run low' up
    · rw [settle_of_not_running b run] at up
      exact absurd up low'

/-! ### The withdrawal of the request (R149) -/

/-- The state but for the channels and the valves. -/
def lowerBlind (s : State) : State :=
  (s.withPcu { s.pcu with chans := .const (.reset false) }).withRos { s.ros with valves := .const .reset }

theorem ordinaryLower_blind (s : State) (c : Chan) : lowerBlind (ordinaryLower s c) = lowerBlind s := by
  unfold ordinaryLower writeValve
  dsimp only
  split
  · split <;> rfl
  · rfl

theorem lowerScraper_blind (s : State) : lowerBlind (lowerScraper s) = lowerBlind s :=
  foldl_frame lowerBlind _ (fun s c => by split; exacts [ordinaryLower_blind s c, rfl]) allChans s

/-- Withdrawing a request, in full. -/
theorem withdrawScraper_effect (s : State) : (withdrawScraper s).ice = { s.ice with scraperRequest := false } ∧
    (withdrawScraper s).pcu = { s.pcu with chans := (withdrawScraper s).pcu.chans, scraperHold := false } ∧
    ∀ c, ((chan s c).role = .scraper → raised (chan s c) = true →
        chan (withdrawScraper s) c = { chan s c with state := .lowering, stateTime := 0, lowForce := false, dumpOn := false } ∧
        (loopOwns (valve s c) = true → (valve (withdrawScraper s) c).buffered = 0)) ∧
      (((chan s c).role ≠ .scraper ∨ raised (chan s c) = false) →
        chan (withdrawScraper s) c = chan s c ∧ valve (withdrawScraper s) c = valve s c) := by
  obtain ⟨u, lowers, e⟩ := withdrawScraper_eq s
  have blind : lowerBlind u = lowerBlind (s.withIce { s.ice with scraperRequest := false }) :=
      lowers ▸ lowerScraper_blind _
  have ice : u.ice = { s.ice with scraperRequest := false } := congrArg (·.ice) blind
  have pcu : ∀ q, ({ u.pcu with chans := q } : Pcu) = { s.pcu with chans := q } := fun q => by
    have := congrArg (fun t : State => ({ t.pcu with chans := q } : Pcu)) blind
    exact this
  rw [e]
  refine ⟨ice, congrArg (fun x : Pcu => ({ x with scraperHold := false } : Pcu)) (pcu u.pcu.chans), fun c =>
      ⟨fun role up => ?_, fun other => ?_⟩⟩
  · obtain ⟨low, duty⟩ := lowerScraper_up (s := s.withIce { s.ice with scraperRequest := false }) role up
    rw [← lowers] at low duty
    exact ⟨low.trans (lowered_of_raised up), fun own => (congrArg (·.buffered) duty).trans (written_buffered _ _ own)⟩
  · have same := lowerScraper_other (s := s.withIce { s.ice with scraperRequest := false }) (d := c) fun role =>
      other.resolve_left (not_not.mpr role)
    rw [← lowers] at same
    exact same

/-! ### The scraper conditions (Table 7-10) -/

theorem scraperCommon_iff (s : State) : scraperCommon s = true ↔ ScraperWanted s := by
  have level : (match s.ice.mode with | .off => false | .auto => s.ice.level == .icing | .forced => s.ice.level != .clear) = true ↔
      (s.ice.mode = .auto ∧ s.ice.level = .icing) ∨ (s.ice.mode = .forced ∧ s.ice.level ≠ .clear) := by
    cases s.ice.mode <;> simp
  have contact : (collectorInContact s).isSome = true ↔ ∃ c, (chan s c).role = .collector ∧ (chan s c).state =
      .inContact := by
    rw [Option.isSome_iff_ne_none, ne_eq, collectorInContact_none, not_forall]
    simp
  have kind : (kindSystem s.smp.outlook.kind).isSome = true ↔ ∃ t, s.smp.outlook.kind = .sys t := by
    unfold kindSystem
    cases s.smp.outlook.kind <;> simp
  unfold scraperCommon
  simp only [Bool.and_eq_true, beq_iff_eq, Option.isNone_iff_eq_none]
  constructor
  · rintro ⟨⟨⟨⟨⟨⟨l, e⟩, c⟩, q⟩, v⟩, k⟩, n⟩
    exact ⟨level.mp l, e, contact.mp c, q, v, kind.mp k, n⟩
  · rintro ⟨l, e, c, q, v, k, n⟩
    exact ⟨⟨⟨⟨⟨⟨level.mpr l, e⟩, contact.mpr c⟩, q⟩, v⟩, kind.mpr k⟩, n⟩

theorem scraperKeep_iff (s : State) : scraperKeep s = true ↔ ScraperKept s := by
  simp only [scraperKeep, Bool.and_eq_true, scraperCommon_iff, decide_eq_true_eq]
  exact ⟨fun h => ⟨h.1, h.2⟩, fun h => ⟨h.wanted, h.speed⟩⟩

theorem scraperSet_iff (s : State) : scraperSet s = true ↔ ScraperSettable s ∧ (scraperChoice s).isSome = true := by
  simp only [scraperSet, Bool.and_eq_true, scraperCommon_iff, decide_eq_true_eq]
  exact ⟨fun h => ⟨⟨h.1.1, h.1.2⟩, h.2⟩, fun h => ⟨⟨h.1.wanted, h.1.speed⟩, h.2⟩⟩

theorem ScraperSettable.kept {s : State} (h : ScraperSettable s) : ScraperKept s :=
  ⟨h.wanted, by have := h.speed; omega⟩

/-- What the scraper conditions depend on is the same. -/
structure ScraperSame (s t : State) : Prop where
  mode : t.ice.mode = s.ice.mode
  level : t.ice.level = s.ice.level
  pst : t.pst = s.pst
  outlook : t.smp.outlook = s.smp.outlook
  speed : t.smp.pos.speed = s.smp.pos.speed
  seq : s.chg.seq = none → t.chg.seq = none
  contact : ∀ c, (chan s c).role = .collector → (chan s c).state = .inContact →
    (chan t c).role = .collector ∧ (chan t c).state = .inContact

theorem ScraperSame.wanted {s t : State} (h : ScraperSame s t) (w : ScraperWanted s) : ScraperWanted t := by
  obtain ⟨c, role, state⟩ := w.contact
  exact ⟨by rw [h.mode, h.level]; exact w.level, by rw [eff, h.pst]; exact w.enable, ⟨c, h.contact c role state⟩,
      h.seq w.sequence,
    by rw [h.outlook]; exact w.outlook⟩

theorem ScraperSame.kept {s t : State} (h : ScraperSame s t) (k : ScraperKept s) : ScraperKept t :=
  ⟨h.wanted k.wanted, by rw [h.speed, eff, h.pst]; exact k.speed⟩

theorem ScraperSame.settable {s t : State} (h : ScraperSame s t) (k : ScraperSettable s) : ScraperSettable t :=
  ⟨h.wanted k.wanted, by rw [h.speed, eff, h.pst]; exact k.speed⟩

theorem ScraperSame.trans {s t u : State} (h : ScraperSame s t) (g : ScraperSame t u) : ScraperSame s u :=
  ⟨g.mode.trans h.mode, g.level.trans h.level, g.pst.trans h.pst, g.outlook.trans h.outlook, g.speed.trans h.speed,
    g.seq ∘ h.seq,
    fun c role state => (h.contact c role state).elim (g.contact c)⟩

theorem ScraperSame.of_frame {s t : State} (ice : t.ice = s.ice) (pst : t.pst = s.pst) (smp : t.smp = s.smp)
    (chg : t.chg = s.chg)
    (contact : ∀ c, (chan s c).role = .collector → (chan s c).state = .inContact →
      (chan t c).role = .collector ∧ (chan t c).state = .inContact) : ScraperSame s t :=
  ⟨by rw [ice], by rw [ice], pst, by rw [smp], by rw [smp], by rw [chg]; exact id, contact⟩

theorem scraperSame_scraperRaise (s : State) : ScraperSame s (scraperRaise s) := by
  cases e : scraperCandidate s with
  | none => rw [scraperRaise_none e]; exact .of_frame rfl rfl rfl rfl fun _ role state => ⟨role, state⟩
  | some c =>
    obtain ⟨_, rises⟩ := scraperRises_of e
    have raise := raises_scraperRaise e
    refine .of_frame raise.ice raise.pst raise.smp raise.chg fun d role state => ?_
    have other : d ≠ c := fun same => by
      rw [same, rises.available.state] at state
      cases state
    rw [raise.other other]
    exact ⟨role, state⟩

theorem scraperSame_of_blind {s t : State} (h : heaterBlind t = heaterBlind s) : ScraperSame s t where
  mode := congrArg (·.ice.mode) h
  level := congrArg (·.ice.level) h
  pst := congrArg (·.pst) h
  outlook := congrArg (·.smp.outlook) h
  speed := congrArg (·.smp.pos.speed) h
  seq none := (congrArg (·.chg.seq) h).trans none
  contact c role state := by
    rw [chan_congr (show t.pcu = s.pcu from congrArg (·.pcu) h)]
    exact ⟨role, state⟩

theorem heaterTest_request (b s : State) : (heaterTest b s).ice.scraperRequest = s.ice.scraperRequest :=
  congrArg (·.ice.scraperRequest) (heaterTest_blind b s)

theorem scraperRaise_ice (s : State) : (scraperRaise s).ice = s.ice := by
  cases e : scraperCandidate s with
  | none => rw [scraperRaise_none e]
  | some c => exact (raises_scraperRaise e).ice

theorem collectorRaise_ice (s : State) : (collectorRaise s).ice = s.ice := by
  cases e : raiseCandidate s with
  | none => rw [collectorRaise_none e]
  | some c => exact (raises_collectorRaise e).ice

/-- After the test a request that is set has its keep conditions; and where it was not, its set conditions. -/
theorem scraperTest_kept {s : State} (h : (scraperTest s).ice.scraperRequest = true) :
    ScraperKept (scraperTest s) ∧ (s.ice.scraperRequest = false → ScraperSettable (scraperTest s)) := by
  unfold scraperTest at h ⊢
  by_cases asked : s.ice.scraperRequest = true
  · rw [if_pos asked] at h ⊢
    by_cases keep : scraperKeep s = true
    · rw [if_pos keep]
      exact ⟨(scraperKeep_iff s).mp keep, fun e => absurd (asked.symm.trans e) nofun⟩
    · rw [if_neg keep] at h
      rw [(withdrawScraper_effect s).1] at h
      cases h
  · rw [if_neg asked] at h ⊢
    split at h
    · rename_i set
      rw [if_pos set]
      have same : ScraperSame s (s.withIce { s.ice with scraperRequest := true }) :=
        ⟨rfl, rfl, rfl, rfl, rfl, id, fun _ role state => ⟨role, state⟩⟩
      have settable := same.settable ((scraperSet_iff s).mp set).1
      exact ⟨settable.kept, fun _ => settable⟩
    · exact absurd h asked

theorem settle_request (b : State) {s : State} (run : Running s) (h : (settle b s).ice.scraperRequest = true) :
    ScraperKept (settle b s) ∧ (s.ice.scraperRequest = false → ScraperSettable (settle b s)) := by
  rw [settle_of_running b run] at h ⊢
  rw [heaterTest_request, scraperRaise_ice] at h
  obtain ⟨kept, set⟩ := scraperTest_kept h
  have same := (scraperSame_scraperRaise (scraperTest (collectorRaise (beforeRaises s)))).trans
    (scraperSame_of_blind (heaterTest_blind b _))
  refine ⟨same.kept kept, fun off => same.settable (set ?_)⟩
  rw [collectorRaise_ice]
  exact Bool.eq_false_iff.mpr fun on => Bool.eq_false_iff.mp off ((eases_beforeRaises s).request on)

theorem scraperSame_tickTime {s : State} (run : s.roofState ≠ .starting) (q : List Instr) :
    ScraperSame s ((tickTime s).withPending q) := by
  obtain ⟨-, -, chans, chg, -, ice⟩ := tickTime_blocks run
  obtain ⟨-, -, -, -, -, -, smp, -, pst, -⟩ := tickTime_frame s
  refine ⟨congrArg (·.mode) ice, congrArg (·.level) ice, pst, congrArg (·.outlook) smp, congrArg (·.pos.speed) smp,
      fun none => ?_,
    fun c role state => ?_⟩
  · have seq : ((tickTime s).withPending q).chg.seq = s.chg.seq.map tickSeq := congrArg (·.seq) chg
    rw [seq, none]
    rfl
  · have same : chan ((tickTime s).withPending q) c = tickChannel (chan s c) := chans c
    rw [same]
    exact ⟨role, state⟩

theorem Follows.request {s t : State} (h : Follows s t) :
    (s.ice.scraperRequest = false → t.ice.scraperRequest = true → ScraperSettable t) ∧
      (ScraperHolds s → ScraperHolds t) := by
  cases h with
  | stands q =>
    refine ⟨fun off on => absurd (off.symm.trans on) nofun, fun holds run on => ?_⟩
    have same : ScraperSame s (s.withPending q) := ⟨rfl, rfl, rfl, rfl, rfl, id, fun _ role state => ⟨role, state⟩⟩
    exact same.kept (holds ⟨run.held, run.roof⟩ on)
  | ticks q =>
    have sinks := ((eases_tickTime s).trans (eases_withPending _ q)).tame.toSinks
    refine ⟨fun off on => absurd (off.symm.trans (sinks.request on)) nofun, fun holds run on => ?_⟩
    obtain ⟨-, held, roof, -⟩ := tickTime_frame s
    have run' : Running s := ⟨held.symm.trans run.held, fun start => run.roof (roof.trans start)⟩
    exact (scraperSame_tickTime run'.roof q).kept (holds run' (sinks.request on))
  | resets f q => exact ⟨fun _ on => absurd on nofun, fun _ _ on => absurd on nofun⟩
  | settles b u tame =>
    by_cases run : Running u
    · exact ⟨fun off on => (settle_request b run on).2 (Bool.eq_false_iff.mpr fun on' =>
        Bool.eq_false_iff.mp off (tame.request on')),
        fun _ _ on => (settle_request b run on).1⟩
    · rw [settle_of_not_running b run]
      exact ⟨fun off on => absurd (off.symm.trans (tame.request on)) nofun, fun _ run' => absurd run' run⟩

/-- Settles O49: a channel rises only by the raises at the end of an event, and the request is set only by the test there. -/
theorem channelsRiseUnderTheirConditions : Obligations.ChannelsRiseUnderTheirConditions := by
  refine ⟨fun s t c e low up => ?_, fun s => collectorRaise_none, fun s c e => ?_, fun s t e => (follows_step e).request,
    fun s => ⟨fun on keep => ?_, fun off settable choice => ?_, fun off other => ?_, fun on drop => ?_⟩⟩
  · obtain ⟨rose, how⟩ := (follows_step e).rose low up
    refine ⟨rose.time, rose.dump, rose.ready, rose.target, rose.duty, how.imp (fun h => ?_) fun h => ?_⟩
    · exact ⟨h.role, h.demand, h.service, h.settle, h.window, h.alone, h.hold, h.preferred, h.target⟩
    · exact ⟨h.role, h.request, h.hold, h.contact, h.alone, h.beside⟩
  · obtain ⟨t, rises⟩ := collectorRises_of e
    have raise := raises_collectorRaise e
    obtain ⟨preferred, best⟩ := collectorChoice_best rises.choice
    refine ⟨⟨t, rises.target, rises.chanClass, rises.others, preferred, best⟩, rises.demand, rises.ready, rises.service,
        rises.settle,
      (raiseWindow_iff s).mp rises.window, rises.none, rises.hold, rises.available.state, raise.self, fun d other =>
        raise.other other,
      by rw [collectorRaise_some e]; rfl, fun own => ?_⟩
    rw [raise.valve, if_pos rfl, written_buffered _ _ own]
  · simp [scraperTest, on, (scraperKeep_iff s).mpr keep]
  · simp [scraperTest, off, (scraperSet_iff s).mpr ⟨settable, choice⟩]
  · have unset : ¬ scraperSet s = true := fun set => by
      obtain ⟨settable, choice⟩ := (scraperSet_iff s).mp set
      exact other.elim (fun h => h settable) fun h => by simp [h] at choice
    simp [scraperTest, off, unset]
  · have test : scraperTest s = withdrawScraper s := by
      simp [scraperTest, on, mt (scraperKeep_iff s).mp drop]
    rw [test]
    exact withdrawScraper_effect s

end Sys2Proof.Machine
end

section
/-!
PROOFS. The state after a power-on reset meets the laws (O50).
-/

namespace Sys2Proof.Machine

theorem reset_chan (c : Chan) : chan State.reset c = Channel.reset true := by cases c <;> rfl
theorem reset_valve (c : Chan) : valve State.reset c = Out.reset := by cases c <;> rfl
theorem reset_zoneOut (z : Fin 16) : zoneOut State.reset z = Out.reset := by
  fin_cases z <;> rfl
theorem reset_brk (b : Brk) : brk State.reset b = Breaker.reset false := by cases b <;> rfl
theorem reset_bank (b : BankId) : bank State.reset.flt b = Bank.reset := by cases b <;> rfl

theorem reset_heldLaw : HeldLaw State.reset := fun _ => rfl
theorem reset_not_running : ¬ Running State.reset := fun run => run.roof rfl

theorem reset_countersHold : CountersHold State.reset := fun b => by
  rw [reset_bank]
  exact ⟨Nat.zero_le _, nofun, nofun⟩

theorem reset_safeHeldLaw : SafeHeldLaw State.reset where
  records := ⟨fun b r e => by (rw [reset_bank] at e; cases e), fun b r e => by (rw [reset_bank] at e; cases e)⟩
  law other := absurd rfl other

theorem reset_breakersHold : BreakersHold State.reset where
  held := reset_heldLaw
  interlock b made := by rw [reset_brk] at made; cases made
  ready b made := by rw [reset_brk] at made; cases made
  shed := nofun

theorem reset_demandHolds : DemandHolds State.reset := ⟨reset_heldLaw, nofun⟩

theorem reset_rolesHold : RolesHold State.reset := fun c _ role => by
  rw [reset_chan] at role
  exact absurd rfl role

theorem reset_tableHolds : TableHolds State.reset.smp.table := ⟨.nil, .nil, Nat.zero_le _, Nat.zero_le _⟩

theorem reset_windowsHold : WindowsHold State.reset := ⟨⟨by decide, rfl, rfl, rfl⟩, nofun, by decide⟩

theorem reset_dutiesHold : DutiesHold State.reset where
  layers := ⟨nofun, nofun, nofun, nofun⟩
  valves c := by rw [reset_valve]; exact ⟨Nat.zero_le _, Nat.zero_le _⟩
  zones z := by rw [reset_zoneOut]; exact ⟨Nat.zero_le _, Nat.zero_le _⟩

theorem reset_linkHolds : LinkHolds State.reset := ⟨fun _ => rfl, nofun, fun h => absurd h (by decide)⟩

theorem reset_classesHold : ClassesHold State.reset := by
  have rest : ∀ c, resting (chan State.reset c) (valve State.reset c) := fun c => by
    rw [reset_chan, reset_valve]
    exact ⟨rfl, rfl, rfl⟩
  refine (classesHold_iff _).mpr ⟨reset_rolesHold, .of_still (still_of_resting rest) reset_heldLaw (fun _ => rest) nofun,
    .of_none fun c _ => ?_⟩
  rw [reset_chan]
  rfl

/-- Settles O50, law by law. -/
theorem resetMeetsTheLaws : Obligations.ResetMeetsTheLaws := by
  refine ⟨reset_countersHold, reset_safeHeldLaw, reset_breakersHold, reset_demandHolds, reset_rolesHold, reset_tableHolds,
    Nat.zero_le _, reset_windowsHold, reset_dutiesHold, ⟨Nat.zero_le _, Nat.zero_le _⟩,
    ⟨Nat.zero_le _, Nat.zero_le _, Nat.zero_le _, Nat.zero_le _⟩, fun c => ?_, reset_linkHolds, nofun, fun run =>
      absurd run reset_not_running,
    fun run => absurd run reset_not_running, reset_classesHold⟩
  rw [reset_chan]
  exact channelLaw_reset true

end Sys2Proof.Machine
end

section
/-!
PROOFS. ROOF UP, row by row (O12).
-/

namespace Sys2Proof.Machine

/-- A request of the cab comes from the active VCU (R68). -/
theorem active_of_roofUp {v : Vcu} {s : State} (h : Accepted .roofUp (vcuStation v) s) : s.cau.active = some v := by
  cases v <;> exact h.cab rfl

/-- A ROOF UP that is answered DONE makes the demand live, with its origin kept (R75). -/
theorem refreshDemand_of_active {s : State} {v : Vcu} (h : s.cau.active = some v) :
    refreshDemand s = s.withCau { s.cau with demand := some ⟨(s.cau.demand.map (·.origin)).getD v, s.now⟩ } := by
  unfold refreshDemand
  cases e : s.cau.demand with
  | none => simp [h]
  | some d => rfl

/-- Past rows 1 to 5 of Table 2-11 the choice decides. -/
theorem roofUp_choice {n : Byte} {s : State} {t : Sys} (ready : s.roofState = .ready) (settled : s.pst.settle = false)
    (free : anyService s = false) (target : s.chg.target = some t) (small : n.toNat ≤ 4) :
    roofUp [n] s = roofUpChoice s t (chanOfNumber n.toNat) := by
  have named : ¬ 4 < byteAt [n] 0 := by simpa [byteAt] using small
  simp [roofUp, ready, settled, free, target, named]
  rfl

section Choice
variable {s : State} {t : Sys}

theorem roofUpChoice_collector (p : Option Chan) (h : (collector s).isSome = true) :
    roofUpChoice s t p = (refreshDemand s, ⟨.done, []⟩) := by simp [roofUpChoice, h, done, plain]

theorem roofUpChoice_other_class {c : Chan} (h : collector s = none) (class_ : chanClass s c ≠ some (classOf t)) :
    roofUpChoice s t (some c) = (s, ⟨.noChannel, []⟩) := by simp [roofUpChoice, h, class_, refuse, plain]

theorem roofUpChoice_locked {c : Chan} (h : collector s = none) (class_ : chanClass s c = some (classOf t))
    (state : (chan s c).state = .lockedOut) : roofUpChoice s t (some c) = (s, ⟨.locked, []⟩) := by
  simp [roofUpChoice, h, class_, state, refuse, plain]

theorem roofUpChoice_away {c : Chan} (h : collector s = none) (class_ : chanClass s c = some (classOf t))
    (open_ : (chan s c).state ≠ .lockedOut) (high : (chan s c).state ≠ .lowered) :
    roofUpChoice s t (some c) = (s, ⟨.noChannel, []⟩) := by
  simp [roofUpChoice, h, class_, open_, high, refuse, plain]

theorem roofUpChoice_lowered {c : Chan} (h : collector s = none) (class_ : chanClass s c = some (classOf t))
    (low : (chan s c).state = .lowered) :
    roofUpChoice s t (some c) = (setPreferred (refreshDemand s) (some c), ⟨.done, []⟩) := by
  simp [roofUpChoice, h, class_, low, done, plain]

theorem roofUpChoice_none (h : collector s = none) : roofUpChoice s t none =
    if classUnusable s (classOf t) then (s, ⟨.noChannel, []⟩) else (setPreferred (refreshDemand s) none, ⟨.done, []⟩) := by
  simp [roofUpChoice, h, refuse, done, plain]

end Choice

theorem chanOfNumber_chanNumber (c : Chan) : chanOfNumber (chanNumber c) = some c := by cases c <;> rfl

/-- Settles O12, by the rows of Table 2-11 in their order. -/
theorem roofUpRows : Obligations.RoofUpRows := by
  intro v n s accepted
  have answers := exec_accepted_of_rule (p := [n]) accepted rfl
  have asked : refreshDemand (heard (vcuStation v) s) =
      (heard (vcuStation v) s).withCau { (heard (vcuStation v) s).cau with
      demand := some ⟨(s.cau.demand.map (·.origin)).getD v, s.now⟩ } := by
    rw [refreshDemand_of_active (v := v) (by rw [heard_active]; exact active_of_roofUp accepted), heard_demand, heard_now]
  have services : anyService (heard (vcuStation v) s) = anyService s := by cases v <;> rfl
  have collects : collector (heard (vcuStation v) s) = collector s := by cases v <;> rfl
  have unusable : ∀ k, classUnusable (heard (vcuStation v) s) k = classUnusable s k := fun k => by cases v <;> rfl
  have classes := heard_chanClass (vcuStation v) s
  have chans := heard_chan (vcuStation v) s
  have roof := heard_roofState (vcuStation v) s
  have params := heard_pst (vcuStation v) s
  have target := heard_chg (vcuStation v) s
  have pcu := heard_pcu (vcuStation v) s
  dsimp only
  generalize heard (vcuStation v) s = h at *
  have rule : requestRule .roofUp (vcuStation v) [n] h = roofUp [n] h := rfl
  rw [rule] at answers
  refine ⟨fun held => answers _ .safeHeld [] ?_, fun ready settling => answers _ .settling [] ?_,
    fun ready settled busy => answers _ .busy [] ?_, fun ready settled free =>
      ⟨fun none => answers _ .noSystem [] ?_, fun t some => ?_⟩⟩
  · simp [roofUp, refuse, plain, roof, held]
  · simp [roofUp, refuse, plain, roof, ready, params, settling]
  · simp [roofUp, refuse, plain, roof, ready, params, settled, services, busy]
  · simp [roofUp, refuse, plain, roof, ready, params, settled, services, free, target, none]
  · have choice : n.toNat ≤ 4 → roofUp [n] h = roofUpChoice h t (chanOfNumber n.toNat) :=
      roofUp_choice (roof.trans ready) (params ▸ settled) (services.trans free) (target ▸ some)
    refine ⟨fun big => answers _ .range [] ?_, fun small has => ?_, fun small none => ⟨fun c named => ⟨fun other => ?_,
      fun same => ⟨fun locked => ?_, fun open_ high => ?_, fun low => ?_⟩⟩, fun zero =>
        ⟨fun dead => ?_, fun usable => ?_⟩⟩⟩
    · have named : 4 < byteAt [n] 0 := by simpa [byteAt] using big
      simp [roofUp, refuse, plain, roof, ready, params, settled, services, free, target, some, named]
    · rw [← asked]
      exact answers _ .done [] ((choice small).trans (roofUpChoice_collector _ (collects ▸ has)))
    all_goals rw [← collects] at none
    · rw [choice small, named, chanOfNumber_chanNumber] at answers
      exact answers _ .noChannel [] (roofUpChoice_other_class none (classes c ▸ other))
    · rw [choice small, named, chanOfNumber_chanNumber] at answers
      exact answers _ .locked [] (roofUpChoice_locked none (classes c ▸ same) (chans c ▸ locked))
    · rw [choice small, named, chanOfNumber_chanNumber] at answers
      exact answers _ .noChannel [] (roofUpChoice_away none (classes c ▸ same) (chans c ▸ open_) (chans c ▸ high))
    · rw [choice small, named, chanOfNumber_chanNumber] at answers
      have done := answers _ .done [] (roofUpChoice_lowered none (classes c ▸ same) (chans c ▸ low))
      rw [setPreferred, asked, State.withCau_pcu, pcu] at done
      exact done
    · have bare : chanOfNumber n.toNat = Option.none := by rw [zero]; rfl
      rw [choice small, bare, roofUpChoice_none none, unusable, dead] at answers
      exact answers _ .noChannel [] rfl
    · have bare : chanOfNumber n.toNat = Option.none := by rw [zero]; rfl
      rw [choice small, bare, roofUpChoice_none none, unusable, usable] at answers
      have done := answers _ .done [] rfl
      rw [setPreferred, asked, State.withCau_pcu, pcu] at done
      exact done

end Sys2Proof.Machine
end

section
/-!
PROOFS. FAULT CLEAR, THRESHOLD SET and LOCKOUT CLEAR, row by row (O21).
-/

namespace Sys2Proof.Machine

/-! ### FAULT CLEAR (Table 8-4) -/

theorem bankOfCode_none {n : Nat} (h : 6 < n) : bankOfCode n = none := by
  obtain ⟨k, rfl⟩ := Nat.exists_eq_add_of_le' h
  rfl

theorem bankOfCode_le {n : Nat} {b : BankId} (h : bankOfCode n = some b) : n ≤ 6 := by
  by_contra big
  rw [bankOfCode_none (by omega)] at h
  cases h

/-- A state with a bank's record cleared. -/
def recordCleared (s : State) (b : BankId) : State := s.withFlt (putBank s.flt b { bank s.flt b with record := none })

theorem faultClear_bank {n : Byte} {b : BankId} (h : bankOfCode n.toNat = some b) (s : State) : faultClear [n] s =
    if bankCorrupt (bank s.flt b) = true ∧ persists s b = true then (s, ⟨.persists, []⟩)
    else (leaveSafeHeld (recordCleared s b), ⟨.done, []⟩) := by
  have named : bankOfCode (byteAt [n] 0) = some b := h
  simp only [faultClear, named]
  rfl

theorem faultClear_range {n : Byte} (h : 6 < n.toNat) (s : State) : faultClear [n] s = (s, ⟨.range, []⟩) := by
  have named : bankOfCode (byteAt [n] 0) = none := bankOfCode_none h
  simp only [faultClear, named]
  rfl

theorem leaveSafeHeld_leaves {s : State} (held : s.roofState = .safeHeld) (clear : anyCorrupt s.flt = false) :
    leaveSafeHeld s = s.withRoof .ready := if_pos ⟨held, clear⟩

theorem leaveSafeHeld_stays {s : State} (h : s.roofState ≠ .safeHeld ∨ anyCorrupt s.flt = true) : leaveSafeHeld s = s :=
  if_neg fun ⟨held, clear⟩ => h.elim (fun other => other held) fun corrupt => by simp [clear] at corrupt

theorem faultClear_rows (src : Station) (n : Byte) (s : State) (accepted : Accepted .faultClear src s) :
    let h := heard src s
    let answer := fun (a : List Byte) (u : State) =>
      exec (.faultClear src [n]) s = .next (settle s (replied src 0x12 a u))
    (6 < n.toNat → answer [0x08#8] h) ∧
    ∀ b, bankOfCode n.toNat = some b →
      let cleared := h.withFlt (putBank s.flt b { bank s.flt b with record := none })
      (bankCorrupt (bank s.flt b) = true → persists s b = true → answer [0x10#8] h) ∧
      ((bankCorrupt (bank s.flt b) = false ∨ persists s b = false) →
        (s.roofState = .safeHeld → anyCorrupt cleared.flt = false → answer [0x00#8] (cleared.withRoof .ready)) ∧
        ((s.roofState ≠ .safeHeld ∨ anyCorrupt cleared.flt = true) → answer [0x00#8] cleared)) := by
  have answers := exec_accepted_of_rule (p := [n]) accepted rfl
  have persistent : ∀ b, persists (heard src s) b = persists s b := fun b => by cases src <;> rfl
  have roof := heard_roofState src s
  dsimp only
  rw [← heard_flt src s, ← roof]
  simp only [← persistent]
  generalize heard src s = h at *
  have rule : requestRule .faultClear src [n] h = faultClear [n] h := rfl
  rw [rule] at answers
  refine ⟨fun big => answers _ .range [] (faultClear_range big h), fun b named => ?_⟩
  rw [faultClear_bank named] at answers
  refine ⟨fun corrupt persisting => answers _ .persists [] (if_pos ⟨corrupt, persisting⟩), fun free => ?_⟩
  have row2 : ¬ (bankCorrupt (bank h.flt b) = true ∧ persists h b = true) := fun ⟨corrupt, persisting⟩ =>
    free.elim (fun e => by simp [e] at corrupt) fun e => by simp [e] at persisting
  rw [if_neg row2] at answers
  refine ⟨fun held clear => ?_, fun stays => ?_⟩
  · rw [leaveSafeHeld_leaves (s := recordCleared h b) held clear] at answers
    exact answers _ .done [] rfl
  · rw [leaveSafeHeld_stays (s := recordCleared h b) stays] at answers
    exact answers _ .done [] rfl

/-! ### THRESHOLD SET (R159) -/

/-- The threshold that two bytes of a payload carry. -/
theorem threshold_bytes (n t0 t1 m : Byte) : leNat (bytesAt [n, t0, t1, m] 1 2) = t0.toNat + 256 * t1.toNat := by
  simp [bytesAt, leNat]

theorem maskOf_bit (b : BankId) (m : Byte) (i : Nat) : maskOf b m.toNat i = (b == .change && m.getLsbD i) := by
  rw [maskOf, ← BitVec.testBit_toNat, Nat.testBit_eq_decide_div_mod_eq]
  rfl

theorem thresholdSet_range {n t0 t1 m : Byte} (s : State)
    (h : 6 < n.toNat ∨ t0.toNat + 256 * t1.toNat = 0 ∨ 4095 < t0.toNat + 256 * t1.toNat) :
    thresholdSet [n, t0, t1, m] s = (s, ⟨.range, []⟩) := by
  have named : byteAt [n, t0, t1, m] 0 = n.toNat := rfl
  unfold thresholdSet
  dsimp only
  rw [named, threshold_bytes]
  cases e : bankOfCode n.toNat with
  | none => rfl
  | some b =>
    have low := bankOfCode_le e
    exact if_pos (h.resolve_left (by omega))

theorem thresholdSet_bank {n t0 t1 m : Byte} {b : BankId} (h : bankOfCode n.toNat = some b) (s : State)
    (low : 1 ≤ t0.toNat + 256 * t1.toNat) (high : t0.toNat + 256 * t1.toNat ≤ 4095) :
    thresholdSet [n, t0, t1, m] s = (s.withFlt (putBank s.flt b { bank s.flt b with
      counter := 4095 - (t0.toNat + 256 * t1.toNat), counterOverflow := false, countEnable := true
      maskShed := b == .change && m.getLsbD 0, maskConv := b == .change && m.getLsbD 1 }), ⟨.done, []⟩) := by
  have named : bankOfCode (byteAt [n, t0, t1, m] 0) = some b := h
  have bits : byteAt [n, t0, t1, m] 3 = m.toNat := rfl
  have fits : ¬ (t0.toNat + 256 * t1.toNat = 0 ∨ 4095 < t0.toNat + 256 * t1.toNat) := by omega
  simp only [thresholdSet, named, bits, threshold_bytes, maskOf_bit, if_neg fits]
  rfl

theorem thresholdSet_rows (src : Station) (n t0 t1 m : Byte) (s : State) (accepted : Accepted .thresholdSet src s) :
    let h := heard src s
    let answer := fun (a : List Byte) (u : State) =>
      exec (.thresholdSet src [n, t0, t1, m]) s = .next (settle s (replied src 0x13 a u))
    let t := t0.toNat + 256 * t1.toNat
    ((6 < n.toNat ∨ t = 0 ∨ 4095 < t) → answer [0x08#8] h) ∧
    ∀ b, bankOfCode n.toNat = some b → 1 ≤ t → t ≤ 4095 →
      answer [0x00#8] (h.withFlt (putBank s.flt b { bank s.flt b with
        counter := 4095 - t, counterOverflow := false, countEnable := true
        maskShed := b == .change && m.getLsbD 0, maskConv := b == .change && m.getLsbD 1 })) := by
  have answers := exec_accepted_of_rule (p := [n, t0, t1, m]) accepted rfl
  dsimp only
  rw [← heard_flt src s]
  exact ⟨fun bad => answers _ .range [] (thresholdSet_range _ bad),
    fun b named low high => answers _ .done [] (thresholdSet_bank named _ low high)⟩

/-! ### LOCKOUT CLEAR (Table 2-8) -/

theorem lockoutClear_range {n : Byte} (s : State) (h : n.toNat = 0 ∨ 4 < n.toNat) :
    lockoutClear [n] s = (s, ⟨.range, []⟩) := by
  have named : chanOfNumber (byteAt [n] 0) = none := if_neg fun ⟨low, high⟩ => by
    have same : byteAt [n] 0 = n.toNat := rfl
    omega
  simp only [lockoutClear, named]
  rfl

theorem lockoutClear_chan {n : Byte} {c : Chan} (h : n.toNat = chanNumber c) (s : State) : lockoutClear [n] s =
    if fitted s c = false then (s, ⟨.noChannel, []⟩)
    else if (chan s c).state ≠ .lockedOut then (s, ⟨.done, []⟩)
    else if (chan s c).headok = false ∨ (chan s c).heightValid = false then (s, ⟨.locked, []⟩)
    else (putChan s c { chan s c with state := .lowered, stateTime := 0, lowForce := false, lockout := none },
      ⟨.done, []⟩) := by
  have named : chanOfNumber (byteAt [n] 0) = some c := by
    have same : byteAt [n] 0 = n.toNat := rfl
    rw [same, h, chanOfNumber_chanNumber]
  simp only [lockoutClear, named]
  rfl

theorem lockoutClear_rows (src : Station) (n : Byte) (s : State) (accepted : Accepted .lockoutClear src s) :
    let h := heard src s
    let answer := fun (a : List Byte) (u : State) =>
      exec (.lockoutClear src [n]) s = .next (settle s (replied src 0x14 a u))
    ((n.toNat = 0 ∨ 4 < n.toNat) → answer [0x08#8] h) ∧
    ∀ c, n.toNat = chanNumber c →
      (fitted s c = false → answer [0x0D#8] h) ∧
      (fitted s c = true →
        ((chan s c).state ≠ .lockedOut → answer [0x00#8] h) ∧
        ((chan s c).state = .lockedOut →
          (((chan s c).headok = false ∨ (chan s c).heightValid = false) → answer [0x09#8] h) ∧
          ((chan s c).headok = true → (chan s c).heightValid = true →
            answer [0x00#8] (putChan h c { chan s c with
              state := .lowered, stateTime := 0, lowForce := false, lockout := none })))) := by
  have answers := exec_accepted_of_rule (p := [n]) accepted rfl
  have fits : ∀ c, fitted (heard src s) c = fitted s c := fun c => by rw [fitted, heard_chanClass, fitted]
  dsimp only
  simp only [← fits, ← heard_chan src s]
  generalize heard src s = h at *
  have rule : requestRule .lockoutClear src [n] h = lockoutClear [n] h := rfl
  rw [rule] at answers
  refine ⟨fun bad => answers _ .range [] (lockoutClear_range h bad), fun c named => ?_⟩
  rw [lockoutClear_chan named] at answers
  refine ⟨fun absent => answers _ .noChannel [] (if_pos absent), fun fitted =>
      ⟨fun other => ?_, fun locked => ⟨fun bad => ?_,
    fun headok valid => ?_⟩⟩⟩
  · exact answers _ .done [] (by simp [fitted, other])
  · exact answers _ .locked [] (by simp [fitted, locked, bad])
  · exact answers _ .done [] (by simp [fitted, locked, headok, valid])

/-- Settles O21, by the rows of Tables 8-4 and 2-8 and of R159. -/
theorem faultThresholdAndLockoutRequests : Obligations.FaultThresholdAndLockoutRequests :=
  ⟨⟨faultClear_rows, thresholdSet_rows⟩, lockoutClear_rows⟩

end Sys2Proof.Machine
end

section
/-!
PROOFS. The channel timers (O37), HEADOK and a height sensor (O36), and the period boundaries, safe periods and service
lapse of the outputs (O39).
-/

namespace Sys2Proof.Machine

/-! ### The channel timers (R28, R30, R33, R35) -/

/-- ROOF SAFE leaves a running roof SAFE_HELD (R163). -/
theorem roofSafe_roofState {s : State} (run : s.roofState ≠ .starting) : (roofSafe s).roofState = .safeHeld := by
  have same := calm_roofState (calm_beforeSafeHeld s)
  unfold roofSafe
  generalize protLowerAll (roofSafeSeq s) = u at same
  cases e : s.roofState with
  | starting => exact absurd e run
  | ready => exact (enterSafeHeld_of_ready (same.trans e)).1
  | check => exact (enterSafeHeld_of_check (same.trans e)).1
  | safeHeld => unfold enterSafeHeld; rw [same, e]; exact same.trans e

theorem raiseTimeout_due {s : State} {c : Chan} (state : (chan s c).state = .raising)
    (due : effNat s Par.raiseTimeoutMs ≤ (chan s c).stateTime) :
    raiseTimeout c s = offer (failLower s c) ⟨.raiseTimeout, some (.channel c), false⟩ :=
  if_pos (by simp [raiseDue, state, due])

theorem contactLoss_due {s : State} {c : Chan} (state : (chan s c).state = .inContact) (low : (chan s c).lowForce = true)
    (due : (chan s c).lossLimit ≤ (chan s c).lowForceTime) :
    contactLoss c s = offer (failLower s c) ⟨.noWire, some (.channel c), false⟩ :=
  if_pos (by simp [contactDue, state, low, due])

theorem lowerTimeout_due {s : State} {c : Chan} (state : (chan s c).state = .lowering ∨ (chan s c).state = .dropped)
    (due : effNat s Par.lowerTimeoutMs ≤ (chan s c).stateTime) :
    lowerTimeout c s = offer (putChan s c { chan s c with
      state := .stuck, stateTime := 0, lowForce := false, dumpOn := true }) ⟨.lowerTimeout, some (.channel c), false⟩ :=
  if_pos (by simp [lowerDue, comingDown, state, due])

/-- Settles O37: each timer that is due makes its report, and LOWER_TIMEOUT's action is ROOF SAFE. -/
theorem channelTimersExpire : Obligations.ChannelTimersExpire := by
  intro c s run
  refine ⟨fun state due => ?_, fun state low due => ?_, fun state due => ?_⟩
  · exact (event_live run.held).trans (by rw [raiseTimeout_due state due])
  · exact (event_live run.held).trans (by rw [contactLoss_due state low due])
  · have expires : exec (.lowerTimeout c) s = .next (settle s (offer (putChan s c { chan s c with
        state := .stuck, stateTime := 0, lowForce := false, dumpOn := true })
        ⟨.lowerTimeout, some (.channel c), false⟩)) :=
      (event_live run.held).trans (by rw [lowerTimeout_due state due])
    refine ⟨expires, fun t e => ?_⟩
    rw [expires] at e
    cases e
    rw [calm_roofState (calm_settle _ _), offer_of_roofSafe rfl]
    exact roofSafe_roofState run.roof

/-! ### HEADOK (R34) -/

/-- The loss of HEADOK that Table 2-6 gives an effect. -/
theorem headokLost_some {s t : State} {c : Chan} (run : Running s) (fits : fitted s c = true)
    (ok : (chan s c).headok = true)
    (effect : headLost (putChan s c { chan s c with headok := false }) c = some t) :
    headokLost c s = offer t ⟨.autoDrop, some (.channel c), (chan s c).role == .collector⟩ := by
  have collects : isCollector s c = ((chan s c).role == .collector) := rfl
  simp [headokLost, ok, run.roof, fits, effect, collects]

theorem headokLost_none {s : State} {c : Chan} (run : Running s) (fits : fitted s c = true)
    (ok : (chan s c).headok = true)
    (effect : headLost (putChan s c { chan s c with headok := false }) c = none) :
    headokLost c s = putChan s c { chan s c with headok := false } := by
  simp [headokLost, ok, run.roof, fits, effect]

section HeadLost
variable {s : State} {c : Chan}

theorem headLost_raised (h : (chan s c).state = .raising ∨ (chan s c).state = .inContact) :
    headLost s c = some (failInto s c .dropped) := by
  rcases h with h | h <;> simp [headLost, h]

theorem headLost_lowering (h : (chan s c).state = .lowering) :
    headLost s c = some (putChan s c { chan s c with state := .dropped, dumpOn := true }) := by simp [headLost, h]

theorem headLost_lowered (h : (chan s c).state = .lowered) : headLost s c = some (putChan s c { chan s c with
    state := .lockedOut, stateTime := 0, lowForce := false, lockout := some .headPressure }) := by
  simp [headLost, h, inState]

theorem headLost_stuck (h : (chan s c).state = .stuck) : headLost s c = some s := by simp [headLost, h]

theorem headLost_service (h : (chan s c).state = .service) : headLost s c = some (dumpInService s c) := by
  simp [headLost, h]

theorem headLost_none (h : (chan s c).state = .dropped ∨ (chan s c).state = .lockedOut) : headLost s c = none := by
  rcases h with h | h <;> simp [headLost, h]

end HeadLost

/-! ### A height sensor (R26) -/

theorem heightSensor_due {s : State} {c : Chan} {ms : Nat} (run : Running s) (fits : fitted s c = true)
    (hold : (chan s c).hold = .running ms) (due : 100 ≤ ms) : heightSensor c s =
      offer (heightFails (putChan s c { chan s c with heightValid := false, hold := .failed }) c)
        ⟨.heightSensor, some (.channel c), false⟩ := by
  simp [heightSensor, run.roof, holdDue, hold, due, fits, offerChan]

section HeightFails
variable {s : State} {c : Chan}

theorem heightFails_raised (h : (chan s c).state = .raising ∨ (chan s c).state = .inContact) :
    heightFails s c = failInto s c .lowering := by
  rcases h with h | h <;> simp [heightFails, h]

theorem heightFails_down (h : (chan s c).state = .lowering ∨ (chan s c).state = .dropped ∨ (chan s c).state = .stuck) :
    heightFails s c = putChan s c { chan s c with dumpOn := true } := by
  rcases h with h | h | h <;> simp [heightFails, h]

theorem heightFails_lowered (h : (chan s c).state = .lowered) : heightFails s c = putChan s c { chan s c with
    state := .lockedOut, stateTime := 0, lowForce := false, lockout := some .heightSensor } := by
  simp [heightFails, h, inState]

theorem heightFails_lockedOut (h : (chan s c).state = .lockedOut) : heightFails s c = s := by simp [heightFails, h]

theorem heightFails_service (h : (chan s c).state = .service) : heightFails s c = dumpInService s c := by
  simp [heightFails, h]

end HeightFails

/-- Settles O36, state by state of Tables 2-6 and 2-3. -/
theorem headokAndHeightSensorFail : Obligations.HeadokAndHeightSensorFail := by
  intro c s run fits
  refine ⟨rfl, fun ok => ?_, fun ms hold due => ?_⟩
  · have self := chan_putChan_self s c { chan s c with headok := false }
    have state : (chan (putChan s c { chan s c with headok := false }) c).state = (chan s c).state := by rw [self]
    have drops := fun {t : State} (e : headLost (putChan s c { chan s c with headok := false }) c = some t) =>
      congrArg (fun u => (Host.Outcome.next (settle s u) : Host.Outcome State Fault Refusal)) (headokLost_some run fits ok e)
    refine ⟨fun h => ?_, fun h => ?_, fun h => ?_, fun h => ?_, fun h => ?_, fun h => ?_⟩
    · exact drops (headLost_raised (state ▸ h))
    · exact drops (by rw [headLost_lowering (state ▸ h), self])
    · exact drops (by rw [headLost_lowered (state ▸ h), self])
    · exact drops (headLost_stuck (state ▸ h))
    · exact drops (headLost_service (state ▸ h))
    · exact congrArg (fun u => (Host.Outcome.next (settle s u) : Host.Outcome State Fault Refusal))
        (headokLost_none run fits ok (headLost_none (state ▸ h)))
  · have self := chan_putChan_self s c { chan s c with heightValid := false, hold := .failed }
    have state : (chan (putChan s c { chan s c with heightValid := false, hold := .failed }) c).state =
        (chan s c).state := by
      rw [self]
    have expires : exec (.heightSensor c) s = _ :=
        (event_live run.held).trans (by rw [heightSensor_due run fits hold due])
    refine ⟨fun h => ?_, fun h => ?_, fun h => ?_, fun h => ?_, fun h => ?_⟩ <;> rw [← state] at h
    · rwa [heightFails_raised h] at expires
    · rwa [heightFails_down h, self, putChan_putChan] at expires
    · rwa [heightFails_lowered h, self, putChan_putChan] at expires
    · rwa [heightFails_lockedOut h] at expires
    · rwa [heightFails_service h] at expires

/-! ### Period boundaries and safe periods (R55, R58, R60) -/

theorem mapValves_valve (s : State) (f : Out → Out) (c : Chan) : valve (mapValves s f) c = f (valve s c) :=
  quadMap_get f s.ros.valves c

theorem mapZones_zoneOut (s : State) (f : Out → Out) (z : Fin 16) : zoneOut (mapZones s f) z = f (zoneOut s z) := by
  change ((quadMap (quadMap f) s.ros.zones).get _).get _ = _
  rw [quadMap_get, quadMap_get]
  rfl

section SafePeriod
variable {s : State} {o : Output}

theorem safePeriodEnd_toService (ended : (outOf s o).safeLeft = 0) (h : (outOf s o).handover = .toService) :
    safePeriodEnd o s = takeEnds o s := by simp [safePeriodEnd, ended, h]

theorem safePeriodEnd_toLoop (ended : (outOf s o).safeLeft = 0) (h : (outOf s o).handover = .toLoop) :
    safePeriodEnd o s = returnEnds o s := by simp [safePeriodEnd, ended, h]

theorem safePeriodEnd_none (ended : (outOf s o).safeLeft = 0) (h : (outOf s o).handover = .none) :
    safePeriodEnd o s = s := by simp [safePeriodEnd, ended, h]

theorem takeEnds_cancelled (h : (outOf s o).cancelled = true) :
    takeEnds o s = putOut s o { outOf s o with handover := .none, cancelled := false } := by simp [takeEnds, h]

theorem takeEnds_zone {z : Fin 16} (h : (outOf s (.zone z)).cancelled = false) : takeEnds (.zone z) s =
    putOut s (.zone z) { outOf s (.zone z) with owner := .service, handover := .none } := by simp [takeEnds, h]

theorem takeEnds_valve {c : Chan} (h : (outOf s (.valve c)).cancelled = false) (low : (chan s c).state = .lowered) :
    takeEnds (.valve c) s = putChan (putOut s (.valve c) { outOf s (.valve c) with owner := .service, handover := .none }) c
      { chan s c with state := .service, stateTime := 0, lowForce := false } := by simp [takeEnds, h, low, inState]

theorem takeEnds_valve_moved {c : Chan} (h : (outOf s (.valve c)).cancelled = false)
    (moved : (chan s c).state ≠ .lowered) :
    takeEnds (.valve c) s = putOut s (.valve c) { outOf s (.valve c) with handover := .none, cancelled := false } := by
  simp [takeEnds, h, moved]

end SafePeriod

/-- Some output with the Service Tool is what the lapse looks for (R61). -/
theorem anyWithTool_of {s : State} {o : Output} (h : (outOf s o).owner = .service ∨ (outOf s o).handover = .toService) :
    anyWithTool s = true := by
  have mine : withTool (outOf s o) = true := by simpa [withTool] using h
  unfold anyWithTool
  rw [Bool.or_eq_true, List.any_eq_true, List.any_eq_true]
  cases o with
  | valve c => exact .inl ⟨c, mem_allChans c, mine⟩
  | zone z => exact .inr ⟨z, List.mem_finRange z, mine⟩

theorem serviceLapse_due {s : State} {m : Nat} (heard : s.cau.actTool = some m)
    (silent : s.cau.serviceLapseMs ≤ s.now - m)
    (fresh : s.cau.serviceLapsed = false) (held : anyWithTool s = true) : serviceLapse s =
      returnAll (offer (s.withCau { s.cau with serviceLapsed := true }) ⟨.serviceLapse, some (.station 4), false⟩) :=
  if_pos (by simp [serviceLapseDue, heard, silent, fresh, held])

/-- Settles O39, by the ends that a boundary, a safe period and a silence of the tool can have. -/
theorem outputPeriodsAndServiceLapse : Obligations.OutputPeriodsAndServiceLapse := by
  refine ⟨fun s live => ⟨mapValves s atBoundary, mapZones s atBoundary, event_live (f := (mapValves · atBoundary)) live,
    event_live (f := (mapZones · atBoundary)) live, rfl,
    fun c => mapValves_valve s atBoundary c, rfl, fun z => mapZones_zoneOut s atBoundary z⟩, fun o s live ended => ?_,
    fun m s live heard silent fresh tool => ?_⟩
  · have ends : exec (.safePeriodEnd o) s = .next (settle s (safePeriodEnd o s)) := event_live live
    refine ⟨fun taken cancelled => ?_, fun taken mine => ⟨fun z e => ?_, fun c e => ⟨fun moved => ?_, fun low => ?_⟩⟩,
      fun back => ⟨fun z e => ?_, fun c e => ?_⟩, fun none => ?_⟩
    · rwa [safePeriodEnd_toService ended taken, takeEnds_cancelled cancelled] at ends
    · subst e
      rwa [safePeriodEnd_toService ended taken, takeEnds_zone mine] at ends
    · subst e
      rwa [safePeriodEnd_toService ended taken, takeEnds_valve_moved mine moved] at ends
    · subst e
      rwa [safePeriodEnd_toService ended taken, takeEnds_valve mine low] at ends
    · subst e
      rwa [safePeriodEnd_toLoop ended back] at ends
    · subst e
      rwa [safePeriodEnd_toLoop ended back] at ends
    · rwa [safePeriodEnd_none ended none] at ends
  · obtain ⟨o, mine⟩ := tool
    exact (event_live live).trans (by rw [serviceLapse_due heard silent fresh (anyWithTool_of mine)]; rfl)

end Sys2Proof.Machine
end

section
/-!
PROOFS. The readings of a channel: how they are stored, and the transitions they give (O35).
-/

namespace Sys2Proof.Machine

/-! ### Readings stored (R25, R26, R134) -/

/-- A channel with a force reading stored (R25). -/
def storedForce (f : Int) (r : Channel) : Channel :=
  { r with forceN := (clampInt 0 500 f).toNat, forceRangeArmed := decide (0 ≤ f) && decide (f ≤ 500) }

/-- A channel with a height reading stored, or held against (R26). -/
def storedHeight (roof : RoofState) (h : Int) (r : Channel) : Channel :=
  if heightOk h then { r with heightMm := h.toNat, heightValid := true, lastInvalid := false, hold := .idle }
  else { r with lastInvalid := true, hold := if roof = .starting ∨ r.hold ≠ .idle then r.hold else .running 0 }

/-- The readings of a channel stored, before any transition. -/
def stored (c : Chan) (h f t : Int) (s : State) : State := storeStrip c t (storeHeight c h (storeForce c f s))

theorem storeForce_eq (c : Chan) (f : Int) (s : State) : storeForce c f s =
    if (!(decide (0 ≤ f) && decide (f ≤ 500)) && (chan s c).forceRangeArmed && fitted s c) = true
    then logOffer (putChan s c (storedForce f (chan s c))) .forceRange (some (.channel c))
    else putChan s c (storedForce f (chan s c)) := by
  have offers : ∀ u, offerChan u .forceRange c = logOffer u .forceRange (some (.channel c)) := fun u =>
      offer_forceRange ..
  rw [← offers]
  rfl

theorem storeForce_chan (c : Chan) (f : Int) (s : State) : chan (storeForce c f s) c = storedForce f (chan s c) := by
  rw [storeForce_eq]
  split
  · rw [logOffer_chan, chan_putChan_self]
  · rw [chan_putChan_self]

theorem storeHeight_eq (c : Chan) (h : Int) (s : State) :
    storeHeight c h s = putChan s c (storedHeight s.roofState h (chan s c)) := by
  unfold storeHeight storedHeight
  dsimp only
  split <;> rfl

theorem testStrip_chan (s : State) (c d : Chan) : chan (testStrip s c) d = chan s d := by
  unfold testStrip
  dsimp only
  split <;> rfl

theorem testStrip_strip (s : State) (c : Chan) : (testStrip s c).ice.strip = s.ice.strip := by
  unfold testStrip
  dsimp only
  split <;> rfl

theorem storeForce_roofState (c : Chan) (f : Int) (s : State) : (storeForce c f s).roofState = s.roofState := by
  rw [storeForce_eq]
  split <;> rfl

theorem stored_chan (c : Chan) (h f t : Int) (s : State) :
    chan (stored c h f t s) c = storedHeight s.roofState h (storedForce f (chan s c)) := by
  have strips : chan (stored c h f t s) c = chan (storeHeight c h (storeForce c f s)) c := testStrip_chan ..
  rw [strips, storeHeight_eq, chan_putChan_self, storeForce_chan, storeForce_roofState]

theorem stored_strip (c : Chan) (h f t : Int) (s : State) : (stored c h f t s).ice.strip.get c = t := by
  have strips : (stored c h f t s).ice.strip = (storeHeight c h (storeForce c f s)).ice.strip.set c t :=
      testStrip_strip ..
  rw [strips, Quad.get_set, if_pos rfl]

/-! ### No transition touches them -/

/-- The readings of a channel. -/
def readings (s : State) (c : Chan) : Nat × Nat × Bool × Quad Int :=
  ((chan s c).forceN, (chan s c).heightMm, (chan s c).heightValid, s.ice.strip)

theorem readings_of_kept {s t : State} (h : kept t = kept s) (c : Chan) : readings t c = readings s c := by
  have same := kept_chan h c
  simp only [chanKept, ChanKept.mk.injEq] at same
  obtain ⟨-, height, valid, force, -, -⟩ := same
  rw [readings, height, valid, force, kept_strip h, readings]

theorem readings_putChan {s : State} {c : Chan} {r : Channel} (force : r.forceN = (chan s c).forceN)
    (height : r.heightMm = (chan s c).heightMm) (valid : r.heightValid = (chan s c).heightValid) :
    readings (putChan s c r) c = readings s c := by
  rw [readings, chan_putChan_self, force, height, valid]
  rfl

theorem readings_noWire (s : State) (c : Chan) : readings (noWire s c) c = readings s c := by
  refine readings_of_kept ?_ c
  unfold noWire failLower offerChan
  rw [kept_offer]
  exact calm_kept ((calm_failed ..).trans ((calm_writeValve ..).trans (calm_putChan _ _ _ rfl)))

theorem readings_readArc (c : Chan) (low : Bool) (s : State) : readings (readArc c low s) c = readings s c := by
  have counted : readings (countLowForce c low s) c = readings s c := readings_putChan rfl rfl rfl
  unfold readArc
  split
  · refine Eq.trans ?_ counted
    have logged : readings (offerChan (putChan (countLowForce c low s) c
        { chan (countLowForce c low s) c with arcArmed := false }) .arc c) c = readings (countLowForce c low s) c :=
      (readings_of_kept (kept_offer ..) c).trans (readings_putChan rfl rfl rfl)
    unfold arcEvent
    dsimp only
    split <;> exact logged
  · split
    · exact (readings_putChan (r := { chan (countLowForce c low s) c with arcArmed := true }) rfl rfl rfl).trans counted
    · exact counted

theorem readings_reachRest (s : State) (c : Chan) : readings (reachRest s c) c = readings s c := by
  have rests : ∀ x l, readings (giveRole (putChan s c { inState (chan s c) x with dumpOn := false, lockout := l }) c .none) c =
      readings s c := fun x l => by
    rw [giveRole, putChan_putChan, chan_putChan_self]
    exact readings_putChan rfl rfl rfl
  unfold reachRest
  dsimp only
  split
  · exact rests ..
  · exact rests ..
  · split <;> exact rests ..
  all_goals rfl

theorem readings_readTransitions (c : Chan) (h : Int) (s : State) : readings (readTransitions c h s) c = readings s c := by
  unfold readTransitions
  split
  · unfold readRaising
    split
    · exact readings_putChan rfl rfl rfl
    · split
      · exact readings_noWire s c
      · rfl
  · rw [readContact_eq]
    dsimp only
    split
    · rw [readings_noWire, readings_readArc]
    · exact readings_readArc ..
  iterate 3
    · split
      · exact readings_reachRest s c
      · rfl
  all_goals rfl

theorem takeReading_readings (c : Chan) (h f t : Int) (s : State) :
    readings (takeReading c h f t s) c = readings (stored c h f t s) c := by
  unfold takeReading
  dsimp only
  split
  · rfl
  · exact readings_readTransitions ..

/-! ### Readings in their ranges -/

/-- A cool strip (R134, R140). -/
theorem storeStrip_cool {c : Chan} {t : Int} {s : State} (low : -600 ≤ t) (high : t ≤ 1500)
    (cool : t ≤ eff s Par.stripMax) :
    storeStrip c t s = s.withIce { s.ice with strip := s.ice.strip.set c t, stripHot := s.ice.stripHot.set c false } := by
  have same : eff (s.withIce { s.ice with strip := s.ice.strip.set c t }) Par.stripMax = eff s Par.stripMax := rfl
  have hot : overTemperature (s.withIce { s.ice with strip := s.ice.strip.set c t })
      ((s.withIce { s.ice with strip := s.ice.strip.set c t }).ice.strip.get c) = false := by
    rw [State.withIce_ice, Quad.get_set, if_pos rfl, overTemperature, same]
    simp [low, high, cool]
  unfold storeStrip testStrip
  rw [hot]
  rfl

theorem clampInt_of_mem {lo hi x : Int} (low : lo ≤ x) (high : x ≤ hi) : clampInt lo hi x = x := by
  unfold clampInt
  omega

theorem storedForce_of_mem {f : Int} (low : 0 ≤ f) (high : f ≤ 500) (r : Channel) :
    storedForce f r = { r with forceN := f.toNat, forceRangeArmed := true } := by
  simp [storedForce, clampInt_of_mem low high, low, high]

theorem storedForce_of_outside {f : Int} (out : f < 0 ∨ 500 < f) (r : Channel) :
    storedForce f r = { r with forceN := (clampInt 0 500 f).toNat, forceRangeArmed := false } := by
  have inside : (decide (0 ≤ f) && decide (f ≤ 500)) = false := by
    simp only [Bool.and_eq_false_iff, decide_eq_false_iff_not]
    omega
  rw [storedForce, inside]

theorem storeForce_of_mem {c : Chan} {f : Int} {s : State} (low : 0 ≤ f) (high : f ≤ 500) :
    storeForce c f s = putChan s c { chan s c with forceN := f.toNat, forceRangeArmed := true } := by
  rw [storeForce_eq, storedForce_of_mem low high]
  simp [low, high]

theorem storedHeight_of_ok {h : Int} (ok : heightOk h = true) (roof : RoofState) (r : Channel) :
    storedHeight roof h r = { r with heightMm := h.toNat, heightValid := true, lastInvalid := false, hold := .idle } :=
      if_pos ok

theorem heightOk_false {h : Int} (out : h < 0 ∨ 3200 < h) : heightOk h = false := by
  rw [Bool.eq_false_iff, ne_eq, heightOk_iff]
  omega

theorem storedHeight_of_bad {h : Int} (out : h < 0 ∨ 3200 < h) (roof : RoofState) (r : Channel) :
    storedHeight roof h r =
      { r with lastInvalid := true, hold := if roof = .starting ∨ r.hold ≠ .idle then r.hold else .running 0 } :=
  if_neg (by simp [heightOk_false out])

/-- Readings of a cool strip with a force in range. -/
theorem stored_of_mem {c : Chan} {h f t : Int} {s : State} (f0 : 0 ≤ f) (f1 : f ≤ 500) (t0 : -600 ≤ t) (t1 : t ≤ 1500)
    (cool : t ≤ eff s Par.stripMax) : stored c h f t s =
      (putChan s c (storedHeight s.roofState h { chan s c with forceN := f.toNat, forceRangeArmed := true })).withIce
        { s.ice with strip := s.ice.strip.set c t, stripHot := s.ice.stripHot.set c false } := by
  have forced := storeForce_of_mem (c := c) (s := s) f0 f1
  rw [stored, forced, storeHeight_eq, chan_putChan_self, putChan_putChan]
  exact storeStrip_cool (s := putChan s c _) t0 t1 cool

theorem storedHeight_of_bad_running {h : Int} (out : h < 0 ∨ 3200 < h) {roof : RoofState} (run : roof ≠ .starting)
    (r : Channel) :
    storedHeight roof h r =
      { r with lastInvalid := true, hold := if r.hold = .idle then .running 0 else r.hold } := by
  rw [storedHeight_of_bad out]
  by_cases idle : r.hold = .idle <;> simp [run, idle]

/-- A force out of range that is the first one is offered (R25). -/
theorem stored_of_armed {c : Chan} {h f t : Int} {s : State} (fits : fitted s c = true) (out : f < 0 ∨ 500 < f)
    (armed : (chan s c).forceRangeArmed = true) (t0 : -600 ≤ t) (t1 : t ≤ 1500) (cool : t ≤ eff s Par.stripMax) :
    stored c h f t s = logOffer ((putChan s c (storedHeight s.roofState h
      { chan s c with forceN := (clampInt 0 500 f).toNat, forceRangeArmed := false })).withIce
        { s.ice with strip := s.ice.strip.set c t, stripHot := s.ice.stripHot.set c false }) .forceRange (some (.channel c)) := by
  have inside : (decide (0 ≤ f) && decide (f ≤ 500)) = false :=
      congrArg (·.forceRangeArmed) (storedForce_of_outside out (chan s c))
  have forced : storeForce c f s = logOffer (putChan s c
      { chan s c with forceN := (clampInt 0 500 f).toNat, forceRangeArmed := false }) .forceRange (some (.channel c)) := by
    rw [storeForce_eq, storedForce_of_outside out, inside, armed, fits]
    rfl
  rw [stored, forced, storeHeight_eq, logOffer_chan, chan_putChan_self]
  have strips := fun r => storeStrip_cool (c := c) (s := putChan (logOffer (putChan s c
      { chan s c with forceN := (clampInt 0 500 f).toNat, forceRangeArmed := false }) .forceRange (some (.channel c))) c r) t0 t1 cool
  rw [strips]
  cases c <;> rfl

theorem stored_of_spent {c : Chan} {h f t : Int} {s : State} (spent : (chan s c).forceRangeArmed = false)
    (out : f < 0 ∨ 500 < f)
    (t0 : -600 ≤ t) (t1 : t ≤ 1500) (cool : t ≤ eff s Par.stripMax) :
    stored c h f t s = (putChan s c (storedHeight s.roofState h
      { chan s c with forceN := (clampInt 0 500 f).toNat, forceRangeArmed := false })).withIce
        { s.ice with strip := s.ice.strip.set c t, stripHot := s.ice.stripHot.set c false } := by
  have forced : storeForce c f s = putChan s c
      { chan s c with forceN := (clampInt 0 500 f).toNat, forceRangeArmed := false } := by
    rw [storeForce_eq, storedForce_of_outside out, spent]
    simp
  rw [stored, forced, storeHeight_eq, chan_putChan_self, putChan_putChan]
  exact storeStrip_cool (s := putChan s c _) t0 t1 cool

theorem takeReading_running {c : Chan} {h f t : Int} {s : State} (run : Running s) (fits : fitted s c = true) :
    takeReading c h f t s = readTransitions c h (stored c h f t s) := by
  simp [takeReading, run.roof, fits, stored]

/-! ### The transitions (R28 to R30, R33, R35) -/

section Transitions
variable {s : State} {c : Chan} {h : Int}

theorem readTransitions_contact (state : (chan s c).state = .raising)
    (force : eff s Par.contactForce ≤ (chan s c).forceN) :
    readTransitions c h s = putChan s c { chan s c with
      state := .inContact, stateTime := 0, lowForce := false, integrator := 0, arcArmed := true, lowForceTime := 0,
      lossLimit := effNat s Par.contactLossMs } := by
  simp [readTransitions, state, readRaising, force, makeContact, inState]

theorem readTransitions_rising (state : (chan s c).state = .raising) (force : (chan s c).forceN < eff s Par.contactForce)
    (low : h < eff s Par.maxHeight) : readTransitions c h s = s := by
  simp [readTransitions, state, readRaising, not_le.mpr force, not_le.mpr low]

theorem readTransitions_no_wire (state : (chan s c).state = .raising) (force : (chan s c).forceN < eff s Par.contactForce)
    (ok : heightOk h = true) (high : eff s Par.maxHeight ≤ h) : readTransitions c h s = noWire s c := by
  simp [readTransitions, state, readRaising, force, ok, high]

theorem readTransitions_touching (state : (chan s c).state = .inContact) : readTransitions c h s = readContact c s := by
  simp [readTransitions, state]

theorem readTransitions_down (state : (chan s c).state = .lowering ∨ (chan s c).state = .dropped ∨
    (chan s c).state = .stuck) :
    readTransitions c h s = if heightOk h && atRest s c then reachRest s c else s := by
  rcases state with e | e | e <;> simp [readTransitions, e]

theorem readTransitions_none (state : (chan s c).state = .lowered ∨ (chan s c).state = .lockedOut ∨
    (chan s c).state = .service) :
    readTransitions c h s = s := by
  rcases state with e | e | e <;> simp [readTransitions, e]

/-- Without a usable height a channel that is not raised stays as it is. -/
theorem readTransitions_unusable (low : raised (chan s c) = false) (bad : heightOk h = false) :
    readTransitions c h s = s := by
  cases e : (chan s c).state <;> simp [raised, e] at low <;> simp [readTransitions, e, bad]

/-- A channel at rest, without its role (R33, R35). -/
def rested (s : State) (c : Chan) (x : ChanState) (l : Option Lockout) : Channel :=
  { chan s c with
    state := x, stateTime := 0, lowForce := false, dumpOn := false, lockout := l, role := .none
    forceTarget := forceTargetOf s c .none }

theorem reachRest_lowering (state : (chan s c).state = .lowering) :
    reachRest s c = putChan s c (rested s c .lowered none) := by
  simp only [reachRest, state, giveRole, putChan_putChan, chan_putChan_self]
  rfl

theorem reachRest_dropped (state : (chan s c).state = .dropped) :
    reachRest s c = putChan s c (rested s c .lockedOut (some .headPressure)) := by
  simp only [reachRest, state, giveRole, putChan_putChan, chan_putChan_self]
  rfl

theorem reachRest_stuck (state : (chan s c).state = .stuck) : reachRest s c = putChan s c (rested s c
    (if (chan s c).headok = true then .lowered else .lockedOut)
    (if (chan s c).headok = true then none else some .headPressure)) := by
  simp only [reachRest, state, giveRole, putChan_putChan, chan_putChan_self]
  split <;> rfl

theorem readContact_firm (high : eff s Par.lossForce ≤ (chan s c).forceN)
    (firm : eff s Par.contactForce ≤ (chan s c).forceN) :
    readContact c s = putChan s c { chan s c with
      lowForce := false, lowForceTime := 0, lossLimit := effNat s Par.contactLossMs, arcArmed := true } := by
  have low : decide (((chan s c).forceN : Int) < eff s Par.lossForce) = false := by simp [high]
  simp [readContact_eq, low, readArc, firm, countLowForce]

/-- The first low reading of an armed COLLECTOR is an arc (R29, R135). -/
theorem readContact_arc (low : ((chan s c).forceN : Int) < eff s Par.lossForce) (armed : (chan s c).arcArmed = true)
    (first : (chan s c).lowForce = false) (limit : 0 < effNat s Par.contactLossMs) (role : (chan s c).role = .collector) :
    let arc := logOffer (putChan s c { chan s c with
      lowForce := true, lowForceTime := 0, lossLimit := effNat s Par.contactLossMs, arcArmed := false })
      .arc (some (.channel c))
    readContact c s = arc.withIce { arc.ice with arcCount := min 65535 (s.ice.arcCount + 1) } := by
  have below : decide (((chan s c).forceN : Int) < eff s Par.lossForce) = true := by simp [low]
  have counted : countLowForce c true s = putChan s c { chan s c with
      lowForce := true, lowForceTime := 0, lossLimit := effNat s Par.contactLossMs } := by simp [countLowForce, first]
  have self : chan (readArc c true s) c = { chan s c with
      lowForce := true, lowForceTime := 0, lossLimit := effNat s Par.contactLossMs, arcArmed := false } := by
    rw [readArc, if_pos (by simp [armed]), arcEvent_chan, counted, chan_putChan_self]
  have kept : ¬ (true && decide ((chan (readArc c true s) c).lossLimit ≤ (chan (readArc c true s) c).lowForceTime)) =
      true := by
    rw [self]
    simp [limit.ne']
  rw [readContact_eq, below]
  dsimp only
  rw [if_neg kept, readArc, if_pos (by simp [armed]), arcEvent, counted, chan_putChan_self, if_pos role, offerChan,
      offer_arc,
    putChan_putChan]
  rfl

end Transitions

/-- The transitions of a channel whose readings are all in their ranges. -/
theorem readings_rows {c : Chan} {h f : Int} {s u : State} {strip : Quad Int} {hot : Quad Bool} (ok : heightOk h = true)
    (f0 : 0 ≤ f) :
    let r := { chan s c with
      forceN := f.toNat, forceRangeArmed := true, heightMm := h.toNat, heightValid := true,
      lastInvalid := false, hold := .idle }
    let base := (putChan s c r).withIce { s.ice with strip := strip, stripHot := hot }
    u = readTransitions c h base →
      (r.state = .raising → eff s Par.contactForce ≤ f → u = putChan base c { r with
        state := .inContact, stateTime := 0, lowForce := false, integrator := 0, arcArmed := true, lowForceTime := 0,
        lossLimit := effNat s Par.contactLossMs }) ∧
      (r.state = .raising → f < eff s Par.contactForce → h < eff s Par.maxHeight → u = base) ∧
      (r.state = .raising → f < eff s Par.contactForce → eff s Par.maxHeight ≤ h →
        u = offer (failLower base c) ⟨.noWire, some (.channel c), false⟩) ∧
      (r.state = .lowering → h < eff s Par.restHeight → u = putChan base c { r with
        state := .lowered, stateTime := 0, lowForce := false, dumpOn := false, lockout := none, role := .none,
        forceTarget := forceTargetOf s c .none }) ∧
      (r.state = .dropped → h < eff s Par.restHeight → u = putChan base c { r with
        state := .lockedOut, stateTime := 0, lowForce := false, dumpOn := false, lockout := some .headPressure,
        role := .none, forceTarget := forceTargetOf s c .none }) ∧
      (r.state = .inContact → eff s Par.lossForce ≤ f → eff s Par.contactForce ≤ f → u = putChan base c { r with
        lowForce := false, lowForceTime := 0, lossLimit := effNat s Par.contactLossMs, arcArmed := true }) ∧
      (r.state = .inContact → f < eff s Par.lossForce → r.arcArmed = true → r.lowForce = false →
        0 < effNat s Par.contactLossMs → r.role = .collector →
        let arc := offer (putChan base c { r with
          lowForce := true, lowForceTime := 0, lossLimit := effNat s Par.contactLossMs, arcArmed := false })
          ⟨.arc, some (.channel c), false⟩
        u = arc.withIce { arc.ice with arcCount := min 65535 (s.ice.arcCount + 1) }) ∧
      (r.state = .stuck → h < eff s Par.restHeight → u = putChan base c { r with
        state := if r.headok = true then .lowered else .lockedOut, stateTime := 0, lowForce := false, dumpOn := false
        lockout := if r.headok = true then none else some .headPressure, role := .none
        forceTarget := forceTargetOf s c .none }) ∧
      ((r.state = .lowering ∨ r.state = .dropped ∨ r.state = .stuck) → eff s Par.restHeight ≤ h → u = base) ∧
      ((r.state = .lowered ∨ r.state = .lockedOut ∨ r.state = .service) → u = base) := by
  intro r base moves
  have self : chan base c = r := chan_putChan_self s c r
  have force : ((chan base c).forceN : Int) = f := by rw [self]; exact Int.toNat_of_nonneg f0
  have tall : ((h.toNat : Nat) : Int) = h := Int.toNat_of_nonneg ((heightOk_iff h).mp ok).1
  have effs : ∀ n, eff base n = eff s n := fun _ => rfl
  have rest : (heightOk h && atRest base c) = decide (h < eff s Par.restHeight) := by
    rw [ok, atRest, self, effs]
    change (true && (true && decide (((h.toNat : Nat) : Int) < eff s Par.restHeight))) = _
    rw [tall]
    rfl
  subst moves
  refine ⟨fun state firm => ?_, fun state weak low => ?_, fun state weak high => ?_,
      fun state low => ?_, fun state low => ?_,
    fun state high firm => ?_, fun state low armed first limit role => ?_, fun state low => ?_,
      fun state high => ?_, fun state => ?_⟩ <;>
    rw [← self] at state
  · rw [readTransitions_contact state (by rw [force]; exact firm), self]
    rfl
  · exact readTransitions_rising state (by rw [force]; exact weak) low
  · exact readTransitions_no_wire state (by rw [force]; exact weak) ok high
  · rw [readTransitions_down (.inl state), rest, if_pos (by simpa using low), reachRest_lowering state, rested, self]
    rfl
  · rw [readTransitions_down (.inr (.inl state)), rest, if_pos (by simpa using low), reachRest_dropped state, rested,
      self]
    rfl
  · rw [readTransitions_touching state, readContact_firm (by rw [force]; exact high) (by rw [force]; exact firm), self]
    rfl
  · have counts := readContact_arc (s := base) (by rw [force]; exact low) (by rw [self]; exact armed) (by rw [self]; exact first)
      limit (by rw [self]; exact role)
    rw [self] at counts
    intro arc
    have logged : arc = logOffer (putChan base c { r with
        lowForce := true, lowForceTime := 0, lossLimit := effNat s Par.contactLossMs, arcArmed := false }) .arc
        (some (.channel c)) := offer_arc ..
    rw [readTransitions_touching state, logged]
    exact counts
  · rw [readTransitions_down (.inr (.inr state)), rest, if_pos (by simpa using low), reachRest_stuck state, rested, self]
    rfl
  · rw [readTransitions_down state, rest, if_neg (by simpa using high)]
  · exact readTransitions_none state

/-- Settles O35: the readings are stored, and the transitions follow the state (R28 to R30, R33, R35). -/
theorem readingsMoveTheChannel : Obligations.ReadingsMoveTheChannel := by
  intro c h f t s live
  have same := takeReading_readings c h f t s
  have strip : (takeReading c h f t s).ice.strip = (stored c h f t s).ice.strip := congrArg (·.2.2.2) same
  have force : (chan (takeReading c h f t s) c).forceN = (chan (stored c h f t s) c).forceN := congrArg (·.1) same
  have height : (chan (takeReading c h f t s) c).heightMm = (chan (stored c h f t s) c).heightMm := congrArg (·.2.1) same
  have valid : (chan (takeReading c h f t s) c).heightValid = (chan (stored c h f t s) c).heightValid :=
    congrArg (·.2.2.1) same
  have forced : ∀ roof r, (storedHeight roof h (storedForce f r)).forceN = (clampInt 0 500 f).toNat := fun roof r => by
    unfold storedHeight
    split <;> rfl
  refine ⟨event_live live, ?_, ?_, fun h0 h1 => ?_, fun out => ?_, fun run fits h0 h1 f0 f1 t0 t1 cool => ?_,
    fun run fits low out f0 f1 t0 t1 cool => ?_, fun out start => ?_, fun run fits low h0 h1 out t0 t1 cool => ?_⟩
  · rw [force, stored_chan, forced]
  · rw [strip, stored_strip]
  · rw [height, valid, stored_chan, storedHeight_of_ok ((heightOk_iff h).mpr ⟨h0, h1⟩)]
    exact ⟨rfl, rfl⟩
  · rw [height, valid, stored_chan, storedHeight_of_bad out]
    exact ⟨rfl, rfl⟩
  · have ok := (heightOk_iff h).mpr ⟨h0, h1⟩
    have moves := takeReading_running (h := h) (f := f) (t := t) run fits
    rw [stored_of_mem f0 f1 t0 t1 cool, storedHeight_of_ok ok] at moves
    exact readings_rows ok f0 moves
  · rw [takeReading_running run fits, stored_of_mem f0 f1 t0 t1 cool, storedHeight_of_bad_running out run.roof]
    refine readTransitions_unusable ?_ (heightOk_false out)
    change raised (chan (putChan s c _) c) = false
    rw [chan_putChan_self]
    exact low
  · have still : takeReading c h f t s = stored c h f t s := if_pos (.inl start)
    rw [still, stored_chan, storedHeight_of_bad out, if_pos (.inl start)]
    rfl
  · have ok := (heightOk_iff h).mpr ⟨h0, h1⟩
    have still : (chan (stored c h f t s) c).state = .lowered := by
      rw [stored_chan, storedHeight_of_ok ok]
      exact low
    have moves : takeReading c h f t s = stored c h f t s :=
      (takeReading_running run fits).trans (readTransitions_none (.inl still))
    refine ⟨fun armed => ?_, fun spent => ?_⟩
    · rw [moves, stored_of_armed fits out armed t0 t1 cool, storedHeight_of_ok ok]
    · rw [moves, stored_of_spent spent out t0 t1 cool, storedHeight_of_ok ok]

end Sys2Proof.Machine
end

section
/-!
PROOFS. What a command may do to the parts that only certain commands change (R52, R88, R89, R159, R171, R172, R183),
and the laws of the duties, of the layers and of the heater supply that everything keeps (R53, R64): `Guards`, primitive
by primitive.
-/

namespace Sys2Proof.Machine

/-! ### What may be changed -/

/-- A part of the state that only certain commands change. -/
inductive Grant where
  /-- Roof time, the held reset and the straps. -/
  | reset
  /-- The integrators, otherwise than to 0. -/
  | force
  /-- The section table. -/
  | table
  /-- The link layer. -/
  | link
  /-- count_enable and the masks of the banks. -/
  | thresholds
deriving DecidableEq

/-- From one state to another the parts not granted stand, an integrator goes to 0 alone, and the laws of the layers,
the duties and the supply are kept. -/
structure Guards (may : Grant → Prop) (s t : State) : Prop where
  reset : ¬ may .reset → t.now = s.now ∧ t.held = s.held ∧ t.pst.straps = s.pst.straps
  force : ¬ may .force → ∀ c, (chan t c).integrator = (chan s c).integrator ∨ (chan t c).integrator = 0
  table : ¬ may .table → t.smp.table = s.smp.table
  link : ¬ may .link → t.pst.link = s.pst.link
  thresholds : ¬ may .thresholds → ∀ b, bankKept (bank t.flt b) = bankKept (bank s.flt b)
  duties : DutiesHold s → DutiesHold t
  aux : AuxHolds s → AuxHolds t

theorem Guards.mono {may might : Grant → Prop} {s t : State} (h : Guards may s t) (le : ∀ g, may g → might g) :
    Guards might s t where
  reset n := h.reset (mt (le _) n)
  force n := h.force (mt (le _) n)
  table n := h.table (mt (le _) n)
  link n := h.link (mt (le _) n)
  thresholds n := h.thresholds (mt (le _) n)
  duties := h.duties
  aux := h.aux

variable {may : Grant → Prop} {s t u : State}

theorem Guards.refl (s : State) : Guards may s s :=
  ⟨fun _ => ⟨rfl, rfl, rfl⟩, fun _ _ => .inl rfl, fun _ => rfl, fun _ => rfl, fun _ _ => rfl, id, id⟩

theorem Guards.trans (h : Guards may s u) (g : Guards may u t) : Guards may s t where
  reset n := by
    obtain ⟨now, held, straps⟩ := h.reset n
    obtain ⟨now', held', straps'⟩ := g.reset n
    exact ⟨now'.trans now, held'.trans held, straps'.trans straps⟩
  force n c := (g.force n c).elim (fun e => (h.force n c).imp (e.trans ·) (e.trans ·)) .inr
  table n := (g.table n).trans (h.table n)
  link n := (g.link n).trans (h.link n)
  thresholds n b := (g.thresholds n b).trans (h.thresholds n b)
  duties := g.duties ∘ h.duties
  aux := g.aux ∘ h.aux

theorem Guards.ite {p : Prop} [Decidable p] (h : Guards may s t) (g : Guards may s u) :
    Guards may s (if p then t else u) := by
  split
  · exact h
  · exact g

theorem Guards.foldl {α : Type} {f : State → α → State} (hf : ∀ u x, Guards may s u → Guards may s (f u x)) (l : List α)
    (h : Guards may s u) : Guards may s (l.foldl f u) := by
  induction l generalizing u with
  | nil => exact h
  | cons x xs ih => exact ih (hf u x h)

/-- The law of the layers is one of the profile store. -/
theorem LayersHold.of_pst (h : LayersHold s) (same : t.pst = s.pst) : LayersHold t :=
  ⟨same ▸ h.profile, same ▸ h.link, same ▸ h.winter, same ▸ h.winterHeld⟩

/-! ### Writes that touch none of it -/

/-- What `Guards` reads of a state. -/
structure GuardView where
  now : Nat
  held : Bool
  straps : BitVec 5
  integrators : Chan → Int
  table : List Entry
  layers : List Layer
  banks : BankId → BankKept
  ros : Ros

def guardView (s : State) : GuardView :=
  ⟨s.now, s.held, s.pst.straps, fun c => (chan s c).integrator, s.smp.table,
    [s.pst.profile, s.pst.link, s.pst.winter, s.pst.winterHeld], fun b => bankKept (bank s.flt b), s.ros⟩

/-- Nothing that `Guards` reads changes. -/
theorem Guards.of_view (h : Guards may s u) (e : guardView t = guardView u) : Guards may s t := by
  simp only [guardView, GuardView.mk.injEq, List.cons.injEq, and_true] at e
  obtain ⟨now, held, straps, integrators, table, ⟨profile, link, winter, winterHeld⟩, banks, ros⟩ := e
  refine h.trans ⟨fun _ => ⟨now, held, straps⟩, fun _ c => .inl (congrFun integrators c), fun _ => table, fun _ => link,
    fun _ b => congrFun banks b, fun d => ⟨⟨?_, ?_, ?_, ?_⟩, fun c => ?_, fun z => ?_⟩, fun a off z => ?_⟩
  · rw [profile]; exact d.layers.profile
  · rw [link]; exact d.layers.link
  · rw [winter]; exact d.layers.winter
  · rw [winterHeld]; exact d.layers.winterHeld
  · rw [valve, ros]; exact d.valves c
  · rw [zoneOut, ros]; exact d.zones z
  · rw [zoneOut, ros]; exact a (ros ▸ off) z

theorem guards_withPending (h : Guards may s u) (q : List Instr) : Guards may s (u.withPending q) := h.of_view rfl
theorem guards_withRoof (h : Guards may s u) (r : RoofState) : Guards may s (u.withRoof r) := h.of_view rfl
theorem guards_withLsi (h : Guards may s u) (x : Lsi) : Guards may s (u.withLsi x) := h.of_view rfl
theorem guards_withCau (h : Guards may s u) (x : Cau) : Guards may s (u.withCau x) := h.of_view rfl
theorem guards_withChg (h : Guards may s u) (x : Chg) : Guards may s (u.withChg x) := h.of_view rfl
theorem guards_withIce (h : Guards may s u) (x : Ice) : Guards may s (u.withIce x) := h.of_view rfl
theorem guards_withLnk (h : Guards may s u) (x : Lnk) : Guards may s (u.withLnk x) := h.of_view rfl
theorem guards_withRun (h : Guards may s u) (n : Nat) : Guards may s (u.withRun n) := h.of_view rfl
theorem guards_putSeq (h : Guards may s u) (q : Sequence) : Guards may s (putSeq u q) := h.of_view rfl
theorem guards_setShed (h : Guards may s u) : Guards may s (setShed u) := h.of_view rfl
theorem guards_putBrk (h : Guards may s u) (b : Brk) (r : Breaker) : Guards may s (putBrk u b r) := by
  cases b <;> exact h.of_view rfl

theorem guards_logOffer (h : Guards may s u) (k : FaultKind) (x : Option Ctx) : Guards may s (logOffer u k x) := by
  have view : guardView (logOffer u k x) = guardView u := by
    have banks : ∀ b, bankKept (bank (logOffer u k x).flt b) = bankKept (bank u.flt b) :=
      kept_bank (calm_kept (calm_logOffer u k x))
    simp only [guardView, GuardView.mk.injEq, funext banks]
    exact ⟨rfl, rfl, rfl, rfl, rfl, rfl, trivial, rfl⟩
  exact h.of_view view

/-! ### Channels -/

/-- A write to a channel that leaves its integrator, or sets it to 0 (R28, R52). -/
theorem guards_putChan (h : Guards may s u) {c : Chan} {r : Channel}
    (same : ¬ may .force → r.integrator = (chan u c).integrator ∨ r.integrator = 0) : Guards may s (putChan u c r) := by
  refine h.trans ⟨fun _ => ⟨rfl, rfl, rfl⟩, fun n d => ?_, fun _ => rfl, fun _ => rfl, fun _ _ => rfl,
    fun d => ⟨d.layers.of_pst rfl, d.valves, d.zones⟩, id⟩
  rw [chan_putChan]
  split
  · subst_vars; exact same n
  · exact .inl rfl

/-- The same, of a record that another is made from. -/
theorem guards_putChan_same (h : Guards may s u) {c : Chan} {r : Channel}
    (same : r.integrator = (chan u c).integrator) : Guards may s (putChan u c r) :=
  guards_putChan h fun _ => .inl same

theorem guards_withPcu (h : Guards may s u) {x : Pcu} (same : x.chans = u.pcu.chans) :
    Guards may s (u.withPcu x) := by
  refine h.of_view ?_
  simp only [guardView, chan, State.withPcu_pcu, same]
  rfl

/-! ### Outputs -/

/-- An output without a duty. -/
def Dark (o : Out) : Prop := o.applied = 0 ∧ o.buffered = 0

/-- A write of the valves within their law. -/
theorem guards_valves (h : Guards may s u) {v : Quad Out}
    (law : LayersHold u → (∀ c, OutLaw (valve u c)) → ∀ c, OutLaw (v.get c)) :
    Guards may s (u.withRos { u.ros with valves := v }) :=
  h.trans ⟨fun _ => ⟨rfl, rfl, rfl⟩, fun _ _ => .inl rfl, fun _ => rfl, fun _ => rfl, fun _ _ => rfl,
    fun d => ⟨d.layers.of_pst rfl, law d.layers d.valves, d.zones⟩, id⟩

theorem guards_putValve (h : Guards may s u) {c : Chan} {o : Out}
    (law : LayersHold u → OutLaw (valve u c) → OutLaw o) : Guards may s (putValve u c o) :=
  guards_valves h fun layers valves d => by
    rw [Quad.get_set]
    split
    · subst_vars; exact law layers (valves _)
    · exact valves d

theorem guards_mapValves (h : Guards may s u) {f : Out → Out} (law : ∀ o, OutLaw o → OutLaw (f o)) :
    Guards may s (mapValves u f) :=
  guards_valves h fun _ valves c => by rw [quadMap_get]; exact law _ (valves c)

/-- The PCU writes a duty within the law (R55). -/
theorem guards_writeValve (h : Guards may s u) (c : Chan) {duty : Nat} (low : LayersHold u → duty ≤ 1000) :
    Guards may s (writeValve u c duty) := by
  rcases writeValve_cases u c duty with e | ⟨a, from_, e⟩ <;> rw [e]
  · exact h
  · refine guards_putValve h fun layers law => ⟨?_, low layers⟩
    rcases from_ with rfl | rfl
    · exact low layers
    · exact law.1

theorem guards_writeZero (h : Guards may s u) (c : Chan) : Guards may s (writeValve u c 0) :=
  guards_writeValve h c fun _ => Nat.zero_le _

/-- A write of a zone, within the law, and dark where it was dark without the supply. -/
theorem guards_putZone (h : Guards may s u) {z : Fin 16} {o : Out}
    (law : LayersHold u → OutLaw (zoneOut u z) → OutLaw o)
    (dark : u.ros.auxok = false → Dark (zoneOut u z) → Dark o) : Guards may s (putZone u z o) := by
  have written : ∀ y, zoneOut (putZone u z o) y = if y = z then o else zoneOut u y := fun y => by
    split
    · subst_vars; exact zoneOut_putZone_self ..
    · exact zoneOut_putZone_other _ _ ‹_›
  refine h.trans ⟨fun _ => ⟨rfl, rfl, rfl⟩, fun _ _ => .inl rfl, fun _ => rfl, fun _ => rfl, fun _ _ => rfl,
    fun d => ⟨d.layers.of_pst rfl, d.valves, fun y => ?_⟩, fun a off y => ?_⟩ <;> rw [written] <;> split
  · subst_vars; exact law d.layers (d.zones _)
  · exact d.zones y
  · subst_vars; exact dark off (a off _)
  · exact a off y

theorem guards_mapZones (h : Guards may s u) {f : Out → Out} (law : ∀ o, OutLaw o → OutLaw (f o))
    (dark : ∀ o, Dark o → Dark (f o)) : Guards may s (mapZones u f) := by
  refine h.trans ⟨fun _ => ⟨rfl, rfl, rfl⟩, fun _ _ => .inl rfl, fun _ => rfl, fun _ => rfl, fun _ _ => rfl,
    fun d => ⟨d.layers.of_pst rfl, d.valves, fun z => ?_⟩, fun a off z => ?_⟩ <;> rw [mapZones_zoneOut]
  · exact law _ (d.zones z)
  · exact dark _ (a off z)

theorem outLaw_cut (o : Out) : OutLaw (cut o) := ⟨Nat.zero_le _, Nat.zero_le _⟩
theorem outLaw_startHandover (o : Out) (x : Handover) : OutLaw (startHandover o x) := outLaw_cut o
theorem dark_startHandover (o : Out) (x : Handover) : Dark (startHandover o x) := ⟨rfl, rfl⟩
theorem outLaw_atBoundary {o : Out} (h : OutLaw o) : OutLaw (atBoundary o) := ⟨h.2, h.2⟩
theorem dark_atBoundary {o : Out} (h : Dark o) : Dark (atBoundary o) := ⟨h.2, h.2⟩

theorem outLaw_returnOut {o : Out} (h : OutLaw o) : OutLaw (returnOut o) := by
  unfold returnOut
  split
  · exact h
  · exact outLaw_startHandover ..
  · exact h

theorem dark_returnOut {o : Out} (h : Dark o) : Dark (returnOut o) := by
  unfold returnOut
  split
  · exact h
  · exact dark_startHandover ..
  · exact h

/-- A write of an output of either sort. -/
theorem guards_putOut (h : Guards may s u) {x : Output} {o : Out} (law : OutLaw (outOf u x) → OutLaw o)
    (dark : Dark (outOf u x) → Dark o) : Guards may s (putOut u x o) := by
  cases x with
  | valve c => exact guards_putValve h fun _ => law
  | zone z => exact guards_putZone h (fun _ => law) fun _ => dark

/-! ### Layers -/

theorem layerHolds_nil : LayerHolds [] := nofun

theorem LayerHolds.set {l : Layer} (h : LayerHolds l) {n : Nat} {v : Int} (ok : paramInRange n v = true) :
    LayerHolds (layerSet l n v) := fun x hx => by
  rcases mem_layerSet hx with rfl | hx
  · exact ok
  · exact h x hx

theorem LayerHolds.dropGroup {l : Layer} (h : LayerHolds l) (g : Group) : LayerHolds (dropGroup l g) :=
  fun x hx => h x (List.mem_of_mem_filter hx)

theorem mem_of_layerGet {l : Layer} {n : Nat} {v : Int} (h : layerGet l n = some v) : (n, v) ∈ l := by
  induction l with
  | nil => cases h
  | cons x xs ih =>
    unfold layerGet at h
    split at h
    · cases h
      subst_vars
      exact List.mem_cons_self
    · exact List.mem_cons_of_mem _ (ih h)

/-- An effective value is the default or a value that a layer holds, in range (R180). -/
theorem eff_inRange (h : LayersHold s) (n : Nat) : eff s n = paramDefault n ∨ paramInRange n (eff s n) = true := by
  have held : ∀ {l : Layer} {v : Int}, LayerHolds l → layerGet l n = some v → paramInRange n v = true :=
    fun hl e => hl _ (mem_of_layerGet e)
  have winter : ∀ {v : Int}, winterValue s.pst n = some v → paramInRange n v = true := fun e => by
    unfold winterValue at e
    split at e
    · exact held h.winter e
    · cases e
  unfold eff pstEff
  split
  · cases w : winterValue s.pst n with
    | some v => exact .inr (winter w)
    | none =>
      cases l : layerGet s.pst.link n with
      | some v => exact .inr (held h.link l)
      | none =>
        cases p : layerGet s.pst.profile n with
        | some v => exact .inr (held h.profile p)
        | none => exact .inl rfl
  · exact .inl rfl

/-- A parameter whose row ends at 1000 or below gives a duty within the law. -/
theorem effNat_le_of_row (h : LayersHold s) {n : Nat} {r : ParamRow} (row : paramRow n = some r) (high : r.high ≤ 1000)
    (dflt : r.dflt ≤ 1000) : effNat s n ≤ 1000 := by
  have le : eff s n ≤ 1000 := by
    rcases eff_inRange h n with e | e
    · rw [e, paramDefault, row]
      exact dflt
    · simp only [paramInRange, row, Bool.and_eq_true, decide_eq_true_eq] at e
      omega
  unfold effNat
  omega

theorem raiseDuty_le (h : LayersHold s) : effNat s Par.raiseDuty ≤ 1000 :=
  effNat_le_of_row h (r := ⟨0x29, 300, 1000, 700⟩) (by decide) (by decide) (by decide)

theorem baseDuty_le (h : LayersHold s) : effNat s Par.baseDuty ≤ 1000 :=
  effNat_le_of_row h (r := ⟨0x6D, 0, 1000, 400⟩) (by decide) (by decide) (by decide)

/-- A write of the profile store that keeps its layers in range. -/
theorem guards_withPst (h : Guards may s u) {p : Pst} (layers : LayersHold u → LayersHold (u.withPst p))
    (link : ¬ may .link → p.link = u.pst.link) (straps : p.straps = u.pst.straps) : Guards may s (u.withPst p) :=
  h.trans ⟨fun _ => ⟨rfl, rfl, straps⟩, fun _ _ => .inl rfl, fun _ => rfl, link, fun _ _ => rfl,
    fun d => ⟨layers d.layers, d.valves, d.zones⟩, id⟩

/-- The same, of one that leaves the link layer. -/
theorem guards_layers (h : Guards may s u) {p : Pst} (layers : LayersHold u → LayersHold (u.withPst p))
    (same : (p.link, p.straps) = (u.pst.link, u.pst.straps)) : Guards may s (u.withPst p) := by
  obtain ⟨link, straps⟩ := Prod.mk.inj same
  exact guards_withPst h layers (fun _ => link) straps

/-- A write of the profile store beside its layers. -/
theorem guards_pstRest (h : Guards may s u) {p : Pst}
    (same : (p.straps, p.profile, p.link, p.winter, p.winterHeld) =
      (u.pst.straps, u.pst.profile, u.pst.link, u.pst.winter, u.pst.winterHeld)) :
    Guards may s (u.withPst p) := by
  simp only [Prod.mk.injEq] at same
  obtain ⟨straps, profile, link, winter, winterHeld⟩ := same
  refine h.of_view ?_
  simp only [guardView, State.withPst_pst, straps, profile, link, winter, winterHeld]
  rfl

end Sys2Proof.Machine
end

section
/-!
PROOFS. What the shared operations do is within `Guards`, whatever is granted: lowering, the sequences, an offer with
its actions, and the end of an event.
-/

namespace Sys2Proof.Machine

variable {may : Grant → Prop} {s u : State}

/-! ### Channels lowered and raised -/

theorem guards_giveRole (h : Guards may s u) (c : Chan) (x : Role) : Guards may s (giveRole u c x) :=
  guards_putChan_same h rfl

theorem guards_ordinaryLower (h : Guards may s u) (c : Chan) : Guards may s (ordinaryLower u c) :=
  .ite (guards_writeZero (guards_putChan_same h (by rfl)) c) h

theorem guards_lowerAllFitted (h : Guards may s u) : Guards may s (lowerAllFitted u) :=
  .foldl (fun _ c hu => .ite (guards_ordinaryLower hu c) hu) _ h

theorem guards_lowerScraper (h : Guards may s u) : Guards may s (lowerScraper u) :=
  .foldl (fun _ c hu => .ite (guards_ordinaryLower hu c) hu) _ h

theorem guards_dropScraper (h : Guards may s u) : Guards may s (dropScraper u) := .ite (guards_lowerScraper h) h

theorem guards_withdrawScraper (h : Guards may s u) : Guards may s (withdrawScraper u) :=
  guards_withPcu (guards_lowerScraper (guards_withIce h _)) (by rfl)

theorem guards_scraperTest (h : Guards may s u) : Guards may s (scraperTest u) :=
  .ite (.ite h (guards_withdrawScraper h)) (.ite (guards_withIce h _) h)

theorem guards_noteFailure (h : Guards may s u) (x : Role) : Guards may s (noteFailure u x) := by
  cases x with
  | none => exact h
  | collector => exact guards_withPcu h (by rfl)
  | scraper => exact guards_withPcu h (by rfl)

/-- raise_duty is within the law of the duties (R40, R41, R53). -/
theorem guards_startRaise (h : Guards may s u) (c : Chan) (x : Role) : Guards may s (startRaise u c x) :=
  guards_writeValve (guards_giveRole (guards_putChan_same h (by rfl)) c x) c fun layers =>
    raiseDuty_le (s := u) (layers.of_pst rfl)

theorem guards_collectorRaise (h : Guards may s u) : Guards may s (collectorRaise u) := by
  unfold collectorRaise
  split
  · exact guards_withPcu (guards_startRaise h _ _) (by rfl)
  · exact h

theorem guards_scraperRaise (h : Guards may s u) : Guards may s (scraperRaise u) := by
  unfold scraperRaise
  split
  · exact guards_startRaise h _ _
  · exact h

theorem guards_dumpInService (h : Guards may s u) (c : Chan) : Guards may s (dumpInService u c) :=
  guards_putValve (guards_putChan_same h (by rfl)) fun _ _ => outLaw_cut _

theorem guards_retarget (h : Guards may s u) (c : Chan) : Guards may s (retarget u c) := guards_putChan_same h rfl

theorem guards_retargetAll (h : Guards may s u) : Guards may s (retargetAll u) :=
  .foldl (fun _ c hu => guards_retarget hu c) _ h

theorem guards_stateFromReadings (h : Guards may s u) (c : Chan) (dump : Bool) :
    Guards may s (stateFromReadings u c dump) := by
  obtain ⟨r, e, -, -, -, kept⟩ := stateFromReadings_cases u c dump
  rw [e]
  exact guards_writeZero (guards_putChan_same h (congrArg ChanKept.integrator kept)) c

theorem guards_leaveService (h : Guards may s u) (c : Chan) : Guards may s (leaveService u c) :=
  .ite (guards_stateFromReadings h c _) h

theorem guards_initialState (h : Guards may s u) (c : Chan) : Guards may s (initialState u c) := by
  have stated := guards_stateFromReadings h c false
  exact .ite (.ite (guards_putChan_same stated (by rfl)) stated) h

theorem guards_testStrip (h : Guards may s u) (c : Chan) : Guards may s (testStrip u c) :=
  .ite (guards_logOffer (guards_withIce h _) _ _) (guards_withIce h _)

theorem guards_testAllStrips (h : Guards may s u) : Guards may s (testAllStrips u) :=
  .foldl (fun _ c hu => guards_testStrip hu c) _ h

/-! ### Sequences -/

theorem guards_openBrk (h : Guards may s u) (b : Brk) : Guards may s (openBrk u b) :=
  .ite (guards_setShed (guards_putBrk h b _)) h

/-- The outlook and CHG's memory of its conflict, written by a recompute (R101). -/
theorem guards_outlook (h : Guards may s u) (o : Outlook) (b : Bool) :
    Guards may s (u.withSmp { u.smp with outlook := o, prevConflict := b }) := h.of_view rfl

theorem guards_recompute (h : Guards may s u) : Guards may s (recompute u) :=
  .ite (guards_logOffer (guards_withIce (guards_outlook h _ _) _) _ _) (guards_withIce (guards_outlook h _ _) _)

theorem guards_forceChanged (h : Guards may s u) (b : Option Sys) : Guards may s (forceChanged b u) :=
  .ite (guards_recompute h) h

theorem guards_waitTest (h : Guards may s u) : Guards may s (waitTest u) := by
  unfold waitTest
  split
  · exact h
  · exact .ite (.ite (.ite (guards_putSeq h _) (guards_withChg (guards_putSeq h _) _)) (guards_putSeq h _)) h

theorem guards_identifyTest (h : Guards may s u) : Guards may s (identifyTest u) := by
  unfold identifyTest
  split
  · exact .ite (guards_putSeq h _) h
  · exact h

theorem guards_enterWork (h : Guards may s u) (st : Stage) : Guards may s (enterWork st u) := by
  unfold enterWork
  split
  · exact h
  · cases st with
    | shed => exact guards_setShed (.ite (guards_putSeq h _) h)
    | opening => exact guards_openBrk (guards_openBrk h _) _
    | lowering => exact .ite (guards_lowerAllFitted (guards_putSeq h _)) (guards_putSeq h _)
    | waitSection => exact guards_waitTest (guards_putSeq h _)
    | raising => exact guards_putSeq h _
    | identify => exact .ite (guards_putSeq h _) (guards_putSeq h _)
    | converter => exact h
    | closing =>
      dsimp only
      split
      · exact guards_putSeq h _
      · exact guards_putBrk h _ _
      · exact h

theorem guards_enterStage (h : Guards may s u) (st : Stage) : Guards may s (enterStage st u) := by
  unfold enterStage
  split
  · exact h
  · exact guards_enterWork (guards_putSeq h _) _

theorem guards_recordEnd (h : Guards may s u) (x : Result) (n : Nat) : Guards may s (recordEnd u x n) := by
  unfold recordEnd
  split
  · exact h
  · exact guards_withChg h _

theorem guards_cancelClose (h : Guards may s u) : Guards may s (cancelClose u) := by
  have first : Guards may s (if u.chg.bka.state = .closing then openBrk u .bka else u) := .ite (guards_openBrk h _) h
  exact .ite (guards_openBrk first _) first

theorem guards_abortSeq (h : Guards may s u) (x : Reason) : Guards may s (abortSeq u x) :=
  .ite (guards_cancelClose (guards_recordEnd h _ _)) h

theorem guards_startSeq (h : Guards may s u) (k : SeqKind) (o : Origin) (t : Option Sys) (a : Option Awaited)
    (st : Stage) : Guards may s (startSeq u k o t a st) := by
  have reported : ∀ {v}, Guards may s v → Guards may s (startReported v) := fun hv =>
    .ite (guards_withdrawScraper hv) hv
  exact guards_enterStage (reported (guards_putSeq h _)) _

theorem guards_automaticStart (h : Guards may s u) : Guards may s (automaticStart u) := by
  refine .ite ?_ h
  split
  · exact guards_startSeq h _ _ _ _ _
  · exact h

theorem guards_endSeq (h : Guards may s u) (x : Result) (n : Nat) : Guards may s (endSeq u x n) :=
  .ite (guards_automaticStart (guards_recordEnd h _ _)) h

theorem guards_newOutlook (h : Guards may s u) : Guards may s (newOutlook u) :=
  guards_automaticStart (guards_identifyTest (guards_waitTest (guards_recompute h)))

theorem guards_leaveStage (h : Guards may s u) (q : Sequence) : Guards may s (leaveStage u q) := by
  have ended : Guards may s (openingEnds u q) := .ite (guards_forceChanged (guards_withChg h _) _) h
  unfold leaveStage
  dsimp only
  split
  · exact guards_enterStage ended _
  · exact guards_endSeq ended _ _

theorem guards_stageStep {v : State} (h : Guards may s u) (e : stageStep u = some v) : Guards may s v := by
  unfold stageStep at e
  split at e
  · cases e
  · split at e
    · cases e; exact guards_leaveStage h _
    · cases e; exact guards_enterStage h _
    · cases e; exact guards_endSeq h _ _
    · split at e
      · cases e; exact guards_leaveStage h _
      · cases e

theorem guards_progress (h : Guards may s u) : Guards may s (progress u) := by
  have fuelled : ∀ n v, Guards may s v → Guards may s (progressFuel n v) := fun n => by
    induction n with
    | zero => exact fun _ hv => hv
    | succ n ih =>
      intro v hv
      unfold progressFuel
      split
      · exact ih _ (guards_stageStep hv ‹_›)
      · exact hv
  exact fuelled _ _ h

theorem guards_roofDownSeq (h : Guards may s u) (x : Reason) (o : Origin) : Guards may s (roofDownSeq u x o) :=
  guards_startSeq (guards_abortSeq h x) _ _ _ _ _

theorem guards_protectionOpen (h : Guards may s u) (b : Brk) : Guards may s (protectionOpen u b) :=
  .ite (guards_openBrk h b) (guards_startSeq (guards_abortSeq h _) _ _ _ _ _)

theorem guards_collectorFailed (h : Guards may s u) : Guards may s (collectorFailed u) := by
  have aborted : Guards may s (failedSeq u) := by
    unfold failedSeq
    split
    · exact .ite h (guards_abortSeq h _)
    · exact h
  rw [collectorFailed_eq]
  split
  · exact guards_protectionOpen aborted _
  · exact aborted

/-! ### Protection -/

theorem guards_failed (h : Guards may s u) (x : Role) : Guards may s (failed u x) :=
  .ite (guards_collectorFailed (guards_noteFailure h x)) (guards_noteFailure h x)

theorem guards_failInto (h : Guards may s u) (c : Chan) (x : ChanState) : Guards may s (failInto u c x) :=
  guards_failed (guards_writeZero (guards_putChan_same h (by rfl)) c) _

theorem guards_protLower (h : Guards may s u) (c : Chan) : Guards may s (protLower u c) := by
  unfold protLower
  split
  · exact guards_failInto h c _
  · exact guards_failInto h c _
  · exact guards_putChan_same h (by rfl)
  · exact guards_dumpInService h c
  all_goals exact h

theorem guards_restartIdent (h : Guards may s u) : Guards may s (restartIdent u) := guards_withLsi h _

theorem guards_endDemand (h : Guards may s u) : Guards may s (endDemand u) := .ite (h.of_view rfl) h

theorem guards_roofSafe (h : Guards may s u) : Guards may s (roofSafe u) := by
  have opened : Guards may s (roofSafeSeq u) :=
    .ite (guards_abortSeq h _) (guards_startSeq (guards_abortSeq h _) _ _ _ _ _)
  have lowered : Guards may s (protLowerAll (roofSafeSeq u)) :=
    .foldl (fun _ c hv => .ite (guards_protLower hv c) hv) _ opened
  unfold roofSafe enterSafeHeld
  split
  · exact guards_withPcu (guards_endDemand (guards_withRoof lowered _)) (by rfl)
  · exact (guards_withRoof lowered .safeHeld).of_view rfl
  · exact lowered
  · exact lowered

theorem guards_openAction (h : Guards may s u) (b : Brk) : Guards may s (openAction u b) :=
  .ite (guards_protectionOpen h b) h

theorem guards_takeAction (h : Guards may s u) (o : Offer) (m : Option Brk) : Guards may s (takeAction u o m) := by
  unfold takeAction
  split
  · dsimp only
    split
    · exact guards_openAction (guards_protLower h _) _
    · exact guards_protLower h _
  · exact guards_openAction h _
  · exact guards_endSeq h _ _
  · exact .ite (guards_protectionOpen h _) (guards_endSeq h _ _)
  · exact h

theorem guards_offer (h : Guards may s u) (o : Offer) : Guards may s (offer u o) := by
  have acted : Guards may s (if kindEnabled (bank u.flt (kindBank o.kind)) o.kind = true
      then takeAction (logOffer u o.kind o.ctx) o (madeBrk u) else logOffer u o.kind o.ctx) :=
    .ite (guards_takeAction (guards_logOffer h _ _) _ _) (guards_logOffer h _ _)
  exact .ite (guards_roofSafe acted) acted

theorem guards_offerPlain (h : Guards may s u) (k : FaultKind) : Guards may s (offerPlain u k) := guards_offer h _
theorem guards_offerChan (h : Guards may s u) (k : FaultKind) (c : Chan) : Guards may s (offerChan u k c) :=
  guards_offer h _
theorem guards_offerBrk (h : Guards may s u) (k : FaultKind) (b : Brk) : Guards may s (offerBrk u k b) :=
  guards_offer h _
theorem guards_offerParam (h : Guards may s u) (k : FaultKind) (n : Nat) : Guards may s (offerParam u k n) :=
  guards_offer h _
theorem guards_haltThenOffer (h : Guards may s u) (x : Reason) (k : FaultKind) (b : Brk) :
    Guards may s (haltThenOffer u x k b) := guards_offerBrk (guards_endSeq h _ _) k b

/-! ### The heaters' part of an event -/

/-- ICE writes within the law, and above 0 only with the supply (R64). -/
theorem guards_writeZone (h : Guards may s u) (z : Fin 16) {duty : Nat} (low : LayersHold u → duty ≤ 1000) :
    Guards may s (writeZone u z duty) := by
  unfold writeZone
  dsimp only
  split
  · exact h
  · rename_i taken
    refine guards_putZone h (fun layers law => ⟨law.1, low layers⟩) fun off dark => ⟨dark.1, ?_⟩
    simp only [off, Bool.not_false, Bool.true_or, Bool.and_true, Bool.or_eq_true, decide_eq_true_eq] at taken
    change duty = 0
    omega

theorem guards_writeSlot (h : Guards may s u) (zs : List (Fin 16)) {duty : Nat} (low : LayersHold u → duty ≤ 1000) :
    Guards may s (writeSlot u zs duty) := by
  have pstKept : ∀ {t : State}, calm t = calm u → LayersHold t → duty ≤ 1000 := fun e layers =>
    low (layers.of_pst (kept_pst (calm_kept e)).symm)
  have zeroed : ∀ (l : List (Fin 16)) (v : State), Guards may s v →
      Guards may s (l.foldl (fun v z => if zs.contains z then v else writeZone v z 0) v) := fun l v hv =>
    .foldl (fun _ z hw => .ite hw (guards_writeZone hw z fun _ => Nat.zero_le _)) l hv
  have written : ∀ (l : List (Fin 16)) (v : State), calm v = calm u → Guards may s v →
      Guards may s (l.foldl (fun v z => writeZone v z duty) v) := fun l => by
    induction l with
    | nil => exact fun _ _ hv => hv
    | cons z zs ih =>
      exact fun v e hv => ih _ ((calm_writeZone v z duty).trans e) (guards_writeZone hv z (pstKept e))
  refine written zs _ (calm_foldl _ (fun v z => ?_) _ _) (zeroed _ _ h)
  split
  · rfl
  · exact calm_writeZone ..

theorem slotDuty_le (layers : LayersHold u) : slotDuty u ≤ 1000 := by
  unfold slotDuty
  split
  · exact Nat.min_le_left ..
  · exact baseDuty_le layers

theorem guards_slotStart (h : Guards may s u) : Guards may s (slotStart u) := by
  refine .ite h ?_
  split
  · exact guards_writeSlot (guards_withIce h _) _ fun _ => Nat.zero_le _
  · exact guards_writeSlot (guards_withIce h _) _ fun layers => slotDuty_le (layers.of_pst rfl)

theorem guards_budgetCut (h : Guards may s u) : Guards may s (budgetCut u) :=
  .foldl (fun _ _ hv => guards_putZone hv (fun _ _ => outLaw_cut _) fun _ _ => ⟨rfl, rfl⟩) _ h

theorem guards_heaterTest (b : State) (h : Guards may s u) : Guards may s (heaterTest b u) := by
  have rotated : Guards may s (resetRotation b u) := .ite (guards_withIce h _) h
  exact .ite (guards_slotStart (guards_budgetCut rotated)) (guards_budgetCut rotated)

/-- The end of an event keeps to what was granted to its command. -/
theorem guards_settle (b : State) (h : Guards may s u) : Guards may s (settle b u) :=
  .ite h (guards_heaterTest b (guards_scraperRaise (guards_scraperTest (guards_collectorRaise
    (guards_dropScraper (guards_progress h))))))

end Sys2Proof.Machine
end

section
/-!
PROOFS. The commands' own effects are within `Guards`: readings, inputs and timers, the outputs, ICE, the position and
the profile store, each with what it must be granted.
-/

namespace Sys2Proof.Machine

variable {may : Grant → Prop} {s u : State}

/-! ### The cab, the converter and the breakers -/

theorem guards_roofDownRequest (h : Guards may s u) (x : Reason) (o : Origin) : Guards may s (roofDownRequest u x o) :=
  guards_roofDownSeq (guards_endDemand h) x o

theorem guards_cabLapse (h : Guards may s u) : Guards may s (cabLapse u) := by
  unfold cabLapse
  split
  · exact guards_roofDownRequest (guards_withCau (guards_offer h _) _) _ _
  · exact h

theorem guards_demandExpiry (h : Guards may s u) : Guards may s (demandExpiry u) := by
  unfold demandExpiry
  split
  · exact guards_roofDownRequest h _ _
  · exact h

theorem guards_examineConverter (h : Guards may s u) : Guards may s (examineConverter u) := by
  unfold examineConverter
  split
  · exact h
  · exact .ite (guards_offerBrk h _ _) (.ite (guards_offerBrk h _ _) h)

theorem guards_converterStale (h : Guards may s u) : Guards may s (converterStale u) :=
  .ite (guards_examineConverter (guards_withCau h _)) h

theorem guards_converterRetest (h : Guards may s u) : Guards may s (converterRetest u) :=
  .ite (guards_withCau h _) (guards_converterStale h)

theorem guards_takeReport (h : Guards may s u) (x : ConvState) (t : Option Sys) : Guards may s (takeReport x t u) := by
  have reported : ∀ v, Guards may s v → Guards may s (shedReport x v) := fun v hv => by
    unfold shedReport
    split
    · exact .ite (guards_putSeq hv _) hv
    · exact hv
  exact guards_examineConverter (guards_progress (reported _ (guards_withCau h _)))

theorem guards_closeCompletes (h : Guards may s u) (b : Brk) : Guards may s (closeCompletes u b) :=
  guards_automaticStart (guards_examineConverter (guards_forceChanged (guards_recordEnd (guards_withChg
    (guards_putBrk h b _) _) _ _) _))

theorem guards_feedbackTaken (h : Guards may s u) (b : Brk) (closed : Bool) :
    Guards may s (feedbackTaken u b closed) := by
  unfold feedbackTaken
  split
  · exact guards_closeCompletes h b
  · exact guards_offerBrk (guards_setShed (guards_putBrk h b _)) _ _
  · exact guards_offerBrk (guards_openBrk (guards_putBrk h b _) _) _ _
  · exact guards_putBrk h b _
  · exact guards_putBrk h b _
  all_goals exact h

theorem guards_feedbackChange (h : Guards may s u) (b : Brk) (closed : Bool) :
    Guards may s (feedbackChange b closed u) :=
  .ite h (.ite (guards_putBrk h b _) (guards_feedbackTaken (guards_putBrk h b _) b closed))

theorem guards_closeExpiry (h : Guards may s u) (b : Brk) (closed : Bool) : Guards may s (closeExpiry b closed u) :=
  .ite (guards_haltThenOffer (guards_putBrk h b _) _ _ _) h

theorem guards_openExpiry (h : Guards may s u) (b : Brk) (closed : Bool) : Guards may s (openExpiry b closed u) :=
  .ite (.ite (guards_offerBrk (guards_putBrk h b _) _ _) (guards_putBrk h b _)) h

theorem guards_shedExpiry (h : Guards may s u) : Guards may s (shedExpiry u) := by
  unfold shedExpiry
  split
  · exact .ite (guards_putSeq (guards_offer h _) _) h
  · exact h

theorem guards_deadRunExpiry (h : Guards may s u) : Guards may s (deadRunExpiry u) := by
  unfold deadRunExpiry
  split
  · exact .ite (guards_offer h _) h
  · exact h

theorem guards_identifyExpiry (h : Guards may s u) : Guards may s (identifyExpiry u) := by
  unfold identifyExpiry
  split
  · exact .ite (guards_offer h _) h
  · exact h

theorem guards_converterExpiry (h : Guards may s u) : Guards may s (converterExpiry u) := by
  unfold converterExpiry
  split
  · exact .ite (guards_offer (guards_putSeq h _) _) h
  · exact h

/-! ### The identifier -/

theorem guards_takeSample (h : Guards may s u) (x : Int) : Guards may s (takeSample x u) :=
  .ite h (.ite (guards_withLsi h _) (guards_withLsi h _))

theorem guards_handResult (h : Guards may s u) (k : LineClass) : Guards may s (handResult k u) := by
  have decided : Guards may s (decideCheck k u) := by
    unfold decideCheck
    split
    · exact .ite (.ite (guards_withLsi h _) (guards_offerPlain (guards_withLsi h _) _)) h
    · exact h
  have examined : Guards may s (examineLine k (decideCheck k u)) := by
    unfold examineLine
    split
    · exact decided
    · split
      · exact guards_offerBrk decided _ _
      · exact guards_offerBrk decided _ _
      · exact .ite decided (guards_offerBrk decided _ _)
  unfold handResult identifyResult
  split
  · exact examined
  · split
    · split
      · exact examined
      · exact guards_haltThenOffer examined _ _ _
      · exact .ite (guards_putSeq examined _) (guards_offerBrk examined _ _)
    · exact examined

theorem guards_publishWindow (h : Guards may s u) : Guards may s (publishWindow u) := by
  have shown : ∀ w m, Guards may s (published u w m) := fun w m =>
    .ite (guards_offer (guards_withLsi h _) _) (guards_withLsi h _)
  cases hw : u.lsi.evaluating with
  | none =>
    unfold publishWindow
    rw [hw]
    exact h
  | some w =>
    by_cases enough : runRequirement u (windowRecord u w).cls
        ≤ nextRun u.lsi.candidate u.lsi.runCount (windowRecord u w).cls
    · rw [publishWindow_qualified hw enough]
      exact guards_handResult (shown _ _) _
    · rw [publishWindow_unqualified hw (Nat.lt_of_not_le enough)]
      exact shown _ _

/-! ### Channels -/

theorem guards_noWire (h : Guards may s u) (c : Chan) : Guards may s (noWire u c) :=
  guards_offerChan (guards_failed (guards_writeZero (guards_putChan_same h (by rfl)) c) _) _ _

/-- Contact sets the integrator to 0 (R28). -/
theorem guards_makeContact (h : Guards may s u) (c : Chan) : Guards may s (makeContact u c) :=
  guards_putChan h fun _ => .inr rfl

theorem guards_readContact (h : Guards may s u) (c : Chan) : Guards may s (readContact c u) := by
  have counted : ∀ low, Guards may s (countLowForce c low u) := fun _ => guards_putChan_same h (by rfl)
  have arc : ∀ v, Guards may s v → Guards may s (arcEvent c v) := fun v hv => by
    have offered : Guards may s (offerChan (putChan v c { chan v c with arcArmed := false }) .arc c) :=
      guards_offerChan (guards_putChan_same hv (by rfl)) _ _
    exact .ite (guards_withIce offered _) offered
  have read : ∀ low, Guards may s (readArc c low u) := fun low =>
    .ite (arc _ (counted _)) (.ite (guards_putChan_same (counted _) (by rfl)) (counted _))
  rw [readContact_eq]
  exact .ite (guards_noWire (read _) c) (read _)

theorem guards_reachRest (h : Guards may s u) (c : Chan) : Guards may s (reachRest u c) := by
  unfold reachRest
  dsimp only
  split
  · exact guards_giveRole (guards_putChan_same h (by rfl)) c _
  · exact guards_giveRole (guards_putChan_same h (by rfl)) c _
  · exact .ite (guards_giveRole (guards_putChan_same h (by rfl)) c _)
      (guards_giveRole (guards_putChan_same h (by rfl)) c _)
  all_goals exact h

theorem guards_readTransitions (h : Guards may s u) (c : Chan) (x : Int) : Guards may s (readTransitions c x u) := by
  unfold readTransitions
  split
  · exact .ite (guards_makeContact h c) (.ite (guards_noWire h c) h)
  · exact guards_readContact h c
  · exact .ite (guards_reachRest h c) h
  · exact .ite (guards_reachRest h c) h
  · exact .ite (guards_reachRest h c) h
  all_goals exact h

theorem guards_takeReading (h : Guards may s u) (c : Chan) (x f t : Int) : Guards may s (takeReading c x f t u) := by
  have forced : Guards may s (storeForce c f u) :=
    .ite (guards_offerChan (guards_putChan_same h (by rfl)) _ _) (guards_putChan_same h (by rfl))
  have raised : Guards may s (storeHeight c x (storeForce c f u)) :=
    .ite (guards_putChan_same forced (by rfl)) (guards_putChan_same forced (by rfl))
  have stored : Guards may s (storeStrip c t (storeHeight c x (storeForce c f u))) :=
    guards_testStrip (guards_withIce raised _) c
  exact .ite stored (guards_readTransitions stored c x)

theorem guards_heightSensor (h : Guards may s u) (c : Chan) : Guards may s (heightSensor c u) := by
  have fails : ∀ v, Guards may s v → Guards may s (heightFails v c) := fun v hv => by
    unfold heightFails
    dsimp only
    split
    · exact guards_failInto hv c _
    · exact guards_failInto hv c _
    · exact guards_putChan_same hv (by rfl)
    · exact guards_putChan_same hv (by rfl)
    · exact guards_putChan_same hv (by rfl)
    · exact guards_putChan_same hv (by rfl)
    · exact hv
    · exact guards_dumpInService hv c
  exact .ite (.ite (guards_offerChan (fails _ (guards_putChan_same h (by rfl))) _ _) (guards_putChan_same h (by rfl))) h

theorem guards_headokLost (h : Guards may s u) (c : Chan) : Guards may s (headokLost c u) := by
  have lost : ∀ {v w : State}, Guards may s v → headLost v c = some w → Guards may s w := fun {v w} hv e => by
    unfold headLost at e
    dsimp only at e
    split at e <;> cases e
    · exact guards_failInto hv c _
    · exact guards_failInto hv c _
    · exact guards_putChan_same hv (by rfl)
    · exact guards_putChan_same hv (by rfl)
    · exact hv
    · exact guards_dumpInService hv c
  have levelled : Guards may s (putChan u c { chan u c with headok := false }) := guards_putChan_same h (by rfl)
  refine .ite (.ite levelled ?_) h
  split
  · exact guards_offer (lost levelled ‹_›) _
  · exact levelled

theorem guards_raiseTimeout (h : Guards may s u) (c : Chan) : Guards may s (raiseTimeout c u) :=
  .ite (guards_offerChan (guards_failed (guards_writeZero (guards_putChan_same h (by rfl)) c) _) _ _) h

theorem guards_contactLoss (h : Guards may s u) (c : Chan) : Guards may s (contactLoss c u) :=
  .ite (guards_noWire h c) h

theorem guards_lowerTimeout (h : Guards may s u) (c : Chan) : Guards may s (lowerTimeout c u) :=
  .ite (guards_offerChan (guards_putChan_same h (by rfl)) _ _) h

/-! ### The outputs -/

theorem loopDuty_le (v : State) (r : Channel) : loopDuty v r ≤ 1000 := by
  have := clampInt_mem (lo := 0) (hi := 1000) (by decide) (loopU v r)
  unfold loopDuty
  omega

/-- The loop writes within the law, and it alone moves an integrator (R51, R52). -/
theorem guards_forceLoop (g : may .force) (h : Guards may s u) (c : Chan) : Guards may s (forceLoop u c) := by
  unfold forceLoop
  dsimp only
  split
  · exact guards_putChan (guards_writeValve h c fun _ => loopDuty_le _ _) fun n => absurd g n
  · exact guards_writeValve h c raiseDuty_le
  all_goals exact h

theorem guards_returnAll (h : Guards may s u) : Guards may s (returnAll u) :=
  guards_mapZones (guards_mapValves h fun _ => outLaw_returnOut) (fun _ => outLaw_returnOut) fun _ => dark_returnOut

theorem guards_serviceLapse (h : Guards may s u) : Guards may s (serviceLapse u) :=
  .ite (guards_returnAll (guards_offer (guards_withCau h _) _)) h

/-- A write of an output that keeps its duties. -/
theorem guards_putOut_same (h : Guards may s u) {x : Output} {o : Out}
    (same : (o.applied, o.buffered) = ((outOf u x).applied, (outOf u x).buffered)) :
    Guards may s (putOut u x o) := by
  obtain ⟨applied, buffered⟩ := Prod.mk.inj same
  refine guards_putOut h (fun law => ?_) fun dark => ?_
  · unfold OutLaw; rwa [applied, buffered]
  · unfold Dark; rwa [applied, buffered]

theorem guards_safePeriodEnd (h : Guards may s u) (o : Output) : Guards may s (safePeriodEnd o u) := by
  refine .ite ?_ h
  split
  · exact h
  · refine .ite (guards_putOut_same h (by rfl)) ?_
    cases o with
    | zone z => exact guards_putOut_same (x := .zone z) h (by rfl)
    | valve c =>
      exact .ite (guards_putChan_same (guards_putOut_same (x := .valve c) h (by rfl)) (by rfl))
        (guards_putOut_same (x := .valve c) h (by rfl))
  · cases o with
    | zone z => exact guards_putOut_same (x := .zone z) h (by rfl)
    | valve c => exact guards_leaveService (guards_putOut_same (x := .valve c) h (by rfl)) c

/-! ### ICE -/

theorem guards_ambientReading (h : Guards may s u) (t : Int) : Guards may s (ambientReading t u) :=
  .ite (guards_withIce h _) (.ite (guards_offerPlain (guards_withIce h _) _) h)

/-- A loss of AUXOK leaves every zone dark (R64). -/
theorem guards_auxokLost (h : Guards may s u) : Guards may s (auxokLost u) := by
  have darkened : Guards may s (mapZones (u.withRos { u.ros with auxok := false }) cut) :=
    h.trans ⟨fun _ => ⟨rfl, rfl, rfl⟩, fun _ _ => .inl rfl, fun _ => rfl, fun _ => rfl, fun _ _ => rfl,
      fun d => ⟨d.layers.of_pst rfl, d.valves, fun z => by rw [mapZones_zoneOut]; exact outLaw_cut _⟩,
      fun _ _ z => by rw [mapZones_zoneOut]; exact ⟨rfl, rfl⟩⟩
  exact .ite (.ite darkened (guards_offerPlain (guards_withIce darkened _) _)) h

theorem guards_auxokReturn (h : Guards may s u) : Guards may s (auxokReturn u) := by
  have returned : Guards may s (u.withRos { u.ros with auxok := true }) :=
    h.trans ⟨fun _ => ⟨rfl, rfl, rfl⟩, fun _ _ => .inl rfl, fun _ => rfl, fun _ => rfl, fun _ _ => rfl,
      fun d => ⟨d.layers.of_pst rfl, d.valves, d.zones⟩, nofun⟩
  exact .ite (guards_withIce returned _) returned

theorem guards_slotExpiry (h : Guards may s u) : Guards may s (slotExpiry u) := .ite (guards_slotStart h) h

theorem guards_winterApply (h : Guards may s u) : Guards may s (winterApply u) := by
  unfold winterApply
  split
  · refine .ite ?_ h
    split
    · exact guards_offerPlain (guards_pstRest h (by rfl)) _
    · exact guards_pstRest h (by rfl)
  · exact guards_pstRest h (by rfl)
  · exact guards_pstRest h (by rfl)
  all_goals exact h

theorem guards_winterRemove (h : Guards may s u) : Guards may s (winterRemove u) := by
  unfold winterRemove
  split
  · exact guards_pstRest h (by rfl)
  · exact guards_layers h (fun l => ⟨l.profile, l.link, l.winter, layerHolds_nil⟩) (by rfl)
  · exact guards_pstRest h (by rfl)
  all_goals exact h

theorem guards_iceUpdate (h : Guards may s u) : Guards may s (iceUpdate u) := by
  refine .ite h (.ite (guards_withIce h _) ?_)
  split
  · exact guards_winterApply (guards_withIce (guards_withIce h _) _)
  · exact guards_winterRemove (guards_withIce (guards_withIce h _) _)
  · exact guards_withIce h _

/-! ### The position -/

theorem guards_position (h : Guards may s u) (p : Position) : Guards may s (u.withSmp { u.smp with pos := p }) :=
  h.of_view rfl

theorem guards_takePosition (h : Guards may s u) (p track : Nat) (minus : Bool) (v : Nat) :
    Guards may s (takePosition p track minus v u) := by
  have jumped : Guards may s (if jumps u p then offer u ⟨.positionJump, some (.position p), false⟩ else u) :=
    .ite (guards_offer h _) h
  exact guards_newOutlook (guards_position jumped _)

theorem guards_odometerPulse (h : Guards may s u) : Guards may s (odometerPulse u) :=
  .ite (.ite (guards_newOutlook (guards_position h _)) (guards_position h _)) h

theorem guards_positionLapse (h : Guards may s u) : Guards may s (positionLapse u) :=
  .ite (guards_newOutlook (guards_offer (guards_position h _) _)) h

theorem guards_withTable (g : may .table) (h : Guards may s u) (t : List Entry) :
    Guards may s (u.withSmp { u.smp with table := t }) :=
  h.trans ⟨fun _ => ⟨rfl, rfl, rfl⟩, fun _ _ => .inl rfl, fun n => absurd g n, fun _ => rfl, fun _ _ => rfl,
    fun d => ⟨d.layers.of_pst rfl, d.valves, d.zones⟩, id⟩

/-! ### Layers that change (R47, R49, R140, R186) -/

theorem guards_classChanged (b : State) (h : Guards may s u) (c : Chan) : Guards may s (classChanged b u c) := by
  refine .ite h (guards_retarget (.ite (guards_putChan_same h (by rfl)) (.ite (.ite ?_ (guards_offerChan ?_ _ _)) h)) c)
  · exact guards_initialState h c
  · exact guards_initialState h c

theorem guards_applyChange (b : State) (h : Guards may s u) : Guards may s (applyChange b u) := by
  have changed : Guards may s (allChans.foldl (classChanged b) u) :=
    .foldl (fun _ c hv => guards_classChanged b hv c) _ h
  have forced : Guards may s (if forceParams.any (effChanged b (allChans.foldl (classChanged b) u))
      then retargetAll (allChans.foldl (classChanged b) u) else allChans.foldl (classChanged b) u) :=
    .ite (guards_retargetAll changed) changed
  exact .ite (guards_testAllStrips forced) forced

theorem guards_generalEffects (h : Guards may s u) (n : Nat) : Guards may s (generalEffects n u) :=
  .ite (guards_demandExpiry h) (.ite (guards_cabLapse h) (.ite (guards_converterRetest h)
    (.ite (guards_positionLapse h) (.ite (guards_newOutlook h) h))))

theorem guards_takeSet (g : may .link) (h : Guards may s u) {n : Nat} {v : Int} (ok : paramInRange n v = true) :
    Guards may s (takeSet n v u) := by
  have written : Guards may s (setWritten n v u) := by
    have set : ∀ {p : Pst}, p.straps = u.pst.straps → p.link = layerSet u.pst.link n v →
        (p.profile, p.winter, p.winterHeld) = (u.pst.profile, u.pst.winter, u.pst.winterHeld) →
        Guards may s (u.withPst p) := fun {p} straps link rest => by
      simp only [Prod.mk.injEq] at rest
      obtain ⟨profile, winter, held⟩ := rest
      refine guards_withPst h (fun l => ⟨?_, ?_, ?_, ?_⟩) (fun n => absurd g n) straps
      · exact (show p.profile = _ from profile) ▸ l.profile
      · exact (show p.link = _ from link) ▸ l.link.set ok
      · exact (show p.winter = _ from winter) ▸ l.winter
      · exact (show p.winterHeld = _ from held) ▸ l.winterHeld
    exact .ite (guards_restartIdent (set rfl rfl rfl)) (set rfl rfl rfl)
  rw [takeSet_eq]
  exact .ite (guards_generalEffects (guards_applyChange u written) n) written

/-- The records taken are in range, and their offers within `Guards` (R176, R186). -/
theorem guards_takeRecords (carries : Nat → Bool) (rs : List (List Byte)) (h : Guards may s u) (l : Layer) :
    Guards may s (takeRecords carries u l rs).1 := by
  induction rs generalizing u l with
  | nil => exact h
  | cons r rs ih =>
    unfold takeRecords
    split
    · exact ih h _
    · exact ih (guards_offerParam h _ _) _

theorem takeRecord_holds (carries : Nat → Bool) {l l' : Layer} (h : LayerHolds l) {bs : List Byte} {x : Option Nat}
    (e : takeRecord carries l bs = (l', x)) : LayerHolds l' := by
  unfold takeRecord at e
  dsimp only at e
  split at e
  · rename_i ok
    cases e
    exact h.set (Bool.and_eq_true _ _ ▸ ok).1
  · cases e
    exact h

theorem takeRecords_holds (carries : Nat → Bool) (rs : List (List Byte)) (v : State) {l : Layer} (h : LayerHolds l) :
    LayerHolds (takeRecords carries v l rs).2 := by
  induction rs generalizing v l with
  | nil => exact h
  | cons r rs ih =>
    unfold takeRecords
    split
    · exact ih v (takeRecord_holds carries h ‹_›)
    · exact ih _ (takeRecord_holds carries h ‹_›)

theorem guards_winterTake (h : Guards may s u) (bs : List Byte) : Guards may s (winterTake bs u).1 :=
  guards_takeRecords _ _ (.ite (guards_offerPlain (guards_pstRest h (by rfl)) _) (guards_pstRest h (by rfl))) _

theorem guards_winterRead (h : Guards may s u) (r : ReadResult) : Guards may s (winterRead r u) := by
  unfold winterRead
  split
  · exact h
  · rename_i bs
    refine .ite ?_ h
    split
    · exact guards_layers (guards_winterTake h bs) (fun l =>
        ⟨l.profile, l.link, l.winter, takeRecords_holds _ _ _ layerHolds_nil⟩) (by rfl)
    · exact guards_pstRest (guards_winterTake h bs) (by rfl)
    all_goals exact h
  · unfold winterReadFail
    split
    · exact guards_offerPlain (guards_pstRest h (by rfl)) _
    · exact guards_pstRest h (by rfl)
    all_goals exact h

theorem guards_winterCheck (h : Guards may s u) (g : Group) : Guards may s (winterCheck u g) := by
  have dropped : Guards may s (u.withPst { u.pst with winterHeld := dropGroup u.pst.winterHeld g }) :=
    guards_layers h (fun l => ⟨l.profile, l.link, l.winter, l.winterHeld.dropGroup g⟩) (by rfl)
  unfold winterCheck
  split
  · exact h
  · exact guards_offerParam dropped _ _

theorem guards_winterPeriod (h : Guards may s u) : Guards may s (winterPeriod u) := by
  have checked : Guards may s ([Group.panto, .ice].foldl winterCheck u) :=
    .foldl (fun _ g hv => guards_winterCheck hv g) _ h
  unfold winterPeriod
  split
  · exact guards_applyChange u (guards_layers checked (fun l =>
      ⟨l.profile, l.link, l.winterHeld, layerHolds_nil⟩) (by rfl))
  · exact guards_applyChange u (guards_layers h (fun l =>
      ⟨l.profile, l.link, layerHolds_nil, l.winterHeld⟩) (by rfl))
  all_goals exact h

theorem guards_forcePeriod (g : may .force) (h : Guards may s u) : Guards may s (forcePeriod u) :=
  .ite h (guards_winterPeriod (.foldl (fun _ c hv => guards_forceLoop g hv c) _ (guards_retargetAll h)))

/-! ### The load (R174 to R179) -/

theorem guards_startBlocks (h : Guards may s u) : Guards may s (startBlocks u) := by
  have broken : ∀ v b, Guards may s v → Guards may s (startBrk v b) := fun v b hv =>
    .ite (guards_offerBrk (guards_putBrk hv b _) _ _) (guards_putBrk hv b _)
  have dropped : ∀ v, Guards may s v → Guards may s (offerDrops v) := fun v hv =>
    .foldl (fun _ c hw => guards_offerChan hw _ c) _ hv
  have channels : ∀ v, Guards may s v → Guards may s (startChannels v) := fun v hv =>
    guards_testAllStrips (guards_retargetAll (.foldl (fun _ c hw => guards_initialState hw c) _ hv))
  exact channels _ (dropped _ (broken _ _ (broken _ _ (guards_pstRest h (by rfl)))))

theorem guards_endStarting (h : Guards may s u) : Guards may s (endStarting u) := by
  have blocks := guards_startBlocks h
  rw [endStarting_eq]
  generalize startBlocks u = v at blocks
  exact guards_withRoof (guards_withRun (guards_restartIdent (guards_withIce blocks _)) 0) _

theorem guards_fallBack (h : Guards may s u) (x : DefaultsReason) : Guards may s (fallBack u x) :=
  guards_endStarting (guards_pstRest h (by rfl))

theorem guards_revertGroup (h : Guards may s u) (g : Group) : Guards may s (revertGroup u g) := by
  have dropped : Guards may s (u.withPst { u.pst with
      profile := dropGroup u.pst.profile g, reverted := u.pst.reverted ++ [g] }) :=
    guards_layers h (fun l => ⟨l.profile.dropGroup g, l.link, l.winter, l.winterHeld⟩) (by rfl)
  unfold revertGroup
  split
  · exact h
  · exact guards_offerParam dropped _ _

theorem guards_finishLoad (h : Guards may s u) : Guards may s (finishLoad u) :=
  guards_endStarting (.foldl (fun _ g hv => guards_revertGroup hv g) _ h)

theorem guards_advanceLoad (gs : List Segment) (h : Guards may s u) : Guards may s (advanceLoad u gs) := by
  induction gs generalizing u with
  | nil => exact guards_finishLoad h
  | cons g rest ih =>
    unfold advanceLoad
    split
    · exact ih (guards_offerPlain (guards_pstRest h (by rfl)) _)
    · exact guards_pstRest h (by rfl)

theorem guards_headerRead (h : Guards may s u) (r : ReadResult) : Guards may s (headerRead r u) := by
  refine .ite ?_ h
  split
  · exact h
  · exact guards_fallBack (guards_offerPlain h _) _
  · exact .ite (guards_advanceLoad _ (guards_pstRest h (by rfl))) (guards_fallBack (guards_offerPlain h _) _)

theorem guards_takeFixed (g : may .table) (h : Guards may s u) (bs : List Byte) : Guards may s (takeFixed u bs) := by
  unfold takeFixed
  dsimp only
  split
  · exact guards_offer h _
  · exact .ite (guards_offer h _) (.ite (guards_offer h _) (guards_withTable g h _))

theorem takeRecords_pst (carries : Nat → Bool) (rs : List (List Byte)) (v : State) (l : Layer) :
    (takeRecords carries v l rs).1.pst = v.pst := by
  induction rs generalizing v l with
  | nil => rfl
  | cons r rs ih =>
    unfold takeRecords
    split
    · exact ih _ _
    · rw [ih, offerParam, offer_pst]

theorem guards_takeSegment (g : may .table) (h : Guards may s u) (x : Segment) (bs : List Byte) :
    Guards may s (takeSegment x bs u) := by
  have marked : ∀ y, Guards may s (if y = SegLoad.part then offerPlain (u.withPst (setSeg u.pst x y)) .segmentInvalid
      else u.withPst (setSeg u.pst x y)) :=
    fun _ => .ite (guards_offerPlain (guards_pstRest h (by rfl)) _) (guards_pstRest h (by rfl))
  have profiled : ∀ v, Guards may s v → ∀ rs, Guards may s
      ((takeRecords (fun _ => true) v v.pst.profile rs).1.withPst
        { (takeRecords (fun _ => true) v v.pst.profile rs).1.pst with
        profile := (takeRecords (fun _ => true) v v.pst.profile rs).2 }) := fun v hv rs =>
    guards_layers (guards_takeRecords _ _ hv _) (fun l =>
      ⟨takeRecords_holds _ _ _ (takeRecords_pst _ rs v _ ▸ l.profile), l.link, l.winter, l.winterHeld⟩) (by rfl)
  exact .ite (.foldl (fun _ r hv => guards_takeFixed g hv r) _ (marked _)) (profiled _ (marked _) _)

theorem guards_loadNoAnswer (g : may .table) (h : Guards may s u) : Guards may s (loadNoAnswer u) := by
  have emptied : ∀ v, Guards may s v → Guards may s (v.withPst { v.pst with
      profile := [], segs := List.replicate 9 .notRead, reverted := [] }) := fun v hv =>
    guards_layers hv (fun l => ⟨layerHolds_nil, l.link, l.winter, l.winterHeld⟩) (by rfl)
  exact guards_fallBack (guards_withTable g (emptied _ (guards_offerPlain h _)) _) _

theorem guards_segmentRead (g : may .table) (h : Guards may s u) (r : ReadResult) : Guards may s (segmentRead r u) := by
  unfold segmentRead
  split
  · exact .ite (guards_advanceLoad _ (guards_takeSegment g h _ _)) h
  · exact guards_loadNoAnswer g h
  · exact h
  · exact h

end Sys2Proof.Machine
end

section
/-!
PROOFS. The requests, the link, the resets and the steps are within `Guards`, and the laws that it is made for: the
duties (O58), and what only certain commands change (O4).
-/

namespace Sys2Proof.Machine

variable {may : Grant → Prop} {s u : State}

/-! ### Resets (R171, R187) -/

/-- A held reset has every duty at 0 and no layer. -/
theorem guards_holdReset (g : ∀ x, may x) (f : Flt) (s : State) : Guards may s (holdReset f s) where
  reset n := absurd (g _) n
  force n := absurd (g _) n
  table n := absurd (g _) n
  link n := absurd (g _) n
  thresholds n := absurd (g _) n
  duties _ := ⟨⟨layerHolds_nil, layerHolds_nil, layerHolds_nil, layerHolds_nil⟩,
    fun c => by rw [holdReset_valve]; exact ⟨Nat.zero_le _, Nat.zero_le _⟩,
    fun z => by rw [holdReset_zoneOut]; exact ⟨Nat.zero_le _, Nat.zero_le _⟩⟩
  aux _ _ z := by rw [holdReset_zoneOut]; exact ⟨rfl, rfl⟩

theorem guards_releaseReset (g : ∀ x, may x) (h : Guards may s u) (straps : BitVec 5) :
    Guards may s (releaseReset straps u) := by
  have started : Guards may s (releaseStart straps u) :=
    h.trans ⟨fun n => absurd (g _) n, fun n => absurd (g _) n, fun n => absurd (g _) n, fun n => absurd (g _) n,
      fun n => absurd (g _) n,
      fun d => ⟨⟨layerHolds_nil, layerHolds_nil, layerHolds_nil, layerHolds_nil⟩, d.valves, d.zones⟩, id⟩
  rw [releaseReset_eq]
  generalize releaseStart straps u = v at started
  exact .ite (guards_pstRest started (by rfl)) (guards_fallBack started _)

theorem guards_softResetAct (g : ∀ x, may x) (straps : BitVec 5) (s : State) :
    Guards may s (softResetAct straps s) :=
  .ite (guards_releaseReset g (guards_holdReset g _ _) straps) (.refl s)

/-! ### The requests of the cab, the breakers and the map -/

/-- A request's own rule, where it decides between two answers. -/
theorem Guards.answerIte {p : Prop} [Decidable p] {a b : State × Reply} (h : Guards may s a.1) (g : Guards may s b.1) :
    Guards may s (if p then a else b).1 := by
  split
  · exact h
  · exact g

theorem guards_cabTake (h : Guards may s u) (st : Station) : Guards may s (cabTake st u).1 := by
  unfold cabTake
  split
  · exact guards_withCau h _
  · exact .answerIte h h

theorem guards_cabPass (h : Guards may s u) : Guards may s (cabPass u).1 := by
  unfold cabPass
  split
  · exact guards_withCau (guards_withCau h _) _
  · exact h

theorem guards_refreshDemand (h : Guards may s u) : Guards may s (refreshDemand u) := by
  unfold refreshDemand
  split
  · exact guards_withCau h _
  · exact guards_withCau h _
  · exact h

theorem guards_roofUp (h : Guards may s u) (p : List Byte) : Guards may s (roofUp p u).1 := by
  have wished : ∀ q, Guards may s (setPreferred (refreshDemand u) q) := fun _ =>
    guards_withPcu (guards_refreshDemand h) (by rfl)
  have chosen : ∀ t q, Guards may s (roofUpChoice u t q).1 := fun t q => by
    refine .answerIte (guards_refreshDemand h) ?_
    split
    · exact .answerIte h (.answerIte h (.answerIte h (wished _)))
    · exact .answerIte h (wished _)
  refine .answerIte h (.answerIte h (.answerIte h ?_))
  split
  · exact h
  · exact .answerIte h (chosen _ _)

theorem guards_selectSystem (h : Guards may s u) (st : Station) (t : Sys) : Guards may s (selectSystem st t u).1 := by
  have retargeted : ∀ q, Guards may s (retargetSeq u q t) := fun q =>
    .ite (guards_withChg (guards_putSeq h _) _) (guards_putSeq h _)
  unfold selectSystem
  split
  · exact .answerIte h (.answerIte (retargeted _) h)
  · exact .answerIte h (.answerIte (guards_withChg h _) (guards_startSeq h _ _ _ _ _))

theorem guards_systemSelect (h : Guards may s u) (st : Station) (p : List Byte) :
    Guards may s (systemSelect st p u).1 := by
  unfold systemSelect
  split
  · exact h
  · exact .answerIte h (guards_selectSystem h st _)

theorem guards_breakerClose (h : Guards may s u) (st : Station) : Guards may s (breakerClose st u).1 := by
  refine .answerIte h (.answerIte h (.answerIte h ?_))
  split
  · exact h
  · refine .answerIte h ?_
    split
    · exact h
    · exact guards_startSeq h _ _ _ _ _

theorem guards_sectionLoad (g : may .table) (h : Guards may s u) (p : List Byte) :
    Guards may s (sectionLoad p u).1 := by
  refine .answerIte h ?_
  split
  · exact h
  · dsimp only
    split
    · exact h
    · exact .answerIte h (guards_newOutlook (guards_withTable g h _))

theorem guards_sectionClear (g : may .table) (h : Guards may s u) (p : List Byte) :
    Guards may s (sectionClear p u).1 := by
  unfold sectionClear
  split
  · exact guards_newOutlook (guards_withTable g h _)
  · exact .answerIte (guards_newOutlook (guards_withTable g h _)) h
  · exact h

theorem guards_converterReport (h : Guards may s u) (p : List Byte) : Guards may s (converterReport p u).1 := by
  unfold converterReport
  split
  · exact guards_takeReport h _ _
  · exact h

theorem guards_iceModeReq (h : Guards may s u) (p : List Byte) : Guards may s (iceModeReq p u).1 := by
  unfold iceModeReq
  split
  · exact h
  · exact guards_withIce h _

/-! ### The requests about parameters, banks and channels -/

/-- A PARAMETER SET takes only a value in range (Table 9-6). -/
theorem guards_parameterSet (g : may .link) (h : Guards may s u) (p : List Byte) :
    Guards may s (parameterSet p u).1 := by
  refine .answerIte h (.answerIte h ?_)
  split
  · exact h
  · rename_i ok
    exact .answerIte h (guards_takeSet g h (by simpa using ok))

theorem guards_parameterRead (h : Guards may s u) (p : List Byte) : Guards may s (parameterRead p u).1 := by
  unfold parameterRead
  split <;> exact h

theorem guards_faultRead (h : Guards may s u) (p : List Byte) : Guards may s (faultRead p u).1 := by
  unfold faultRead
  dsimp only
  split <;> exact h

theorem guards_statusRead (h : Guards may s u) (p : List Byte) : Guards may s (statusRead p u).1 := by
  unfold statusRead
  dsimp only
  split <;> exact h

/-- A bank is written with its count_enable and masks kept, or where they are granted. -/
theorem guards_putBank (h : Guards may s u) {b : BankId} {r : Bank}
    (same : ¬ may .thresholds → bankKept r = bankKept (bank u.flt b)) :
    Guards may s (u.withFlt (putBank u.flt b r)) := by
  refine h.trans ⟨fun _ => ⟨rfl, rfl, rfl⟩, fun _ _ => .inl rfl, fun _ => rfl, fun _ => rfl, fun n d => ?_,
    fun d => ⟨d.layers.of_pst rfl, d.valves, d.zones⟩, id⟩
  rw [State.withFlt_flt, bank_putBank]
  split
  · subst_vars; exact same n
  · rfl

theorem guards_faultClear (h : Guards may s u) (p : List Byte) : Guards may s (faultClear p u).1 := by
  unfold faultClear
  split
  · exact h
  · rename_i b _
    have cleared : Guards may s (u.withFlt (putBank u.flt b { bank u.flt b with record := none })) :=
      guards_putBank h fun _ => rfl
    exact .answerIte h (.ite (guards_withRoof cleared _) cleared)

theorem guards_thresholdSet (g : may .thresholds) (h : Guards may s u) (p : List Byte) :
    Guards may s (thresholdSet p u).1 := by
  unfold thresholdSet
  dsimp only
  split
  · exact h
  · exact .answerIte h (guards_putBank h fun n => absurd g n)

theorem guards_lockoutClear (h : Guards may s u) (p : List Byte) : Guards may s (lockoutClear p u).1 := by
  unfold lockoutClear
  split
  · exact h
  · exact .answerIte h (.answerIte h (.answerIte h (guards_putChan_same h (by rfl))))

/-! ### The requests of the Service Tool -/

theorem guards_outputTake (h : Guards may s u) (p : List Byte) : Guards may s (outputTake p u).1 := by
  refine .answerIte h (.answerIte h ?_)
  split
  · exact h
  · refine .answerIte h (.answerIte h (.answerIte h ?_))
    split
    · exact h
    · exact guards_putOut h (fun _ => outLaw_startHandover ..) fun _ => dark_startHandover ..

/-- A drive is refused above 1000 per mille, and above 0 for a zone without the supply (Table 3-5). -/
theorem guards_outputDrive (h : Guards may s u) (p : List Byte) : Guards may s (outputDrive p u).1 := by
  have written : ∀ o duty, duty ≤ 1000 → driveRefusal u duty o = none →
      Guards may s (putOut u o { outOf u o with buffered := duty }) := fun o duty low none => by
    cases o with
    | valve c => exact guards_putValve h fun _ law => ⟨law.1, low⟩
    | zone z =>
      refine guards_putZone h (fun _ law => ⟨law.1, low⟩) fun off dark => ⟨dark.1, ?_⟩
      unfold driveRefusal at none
      dsimp only at none
      split at none
      · cases none
      · rename_i dim
        change duty = 0
        rw [not_and] at dim
        by_contra n
        exact dim (Nat.pos_of_ne_zero n) off
  unfold outputDrive
  dsimp only
  split
  · exact h
  · rename_i o _
    split
    · exact h
    · refine .answerIte h (.answerIte h ?_)
      split
      · exact h
      · exact written o _ (by omega) ‹_›

theorem guards_outputReturn (h : Guards may s u) (p : List Byte) : Guards may s (outputReturn p u).1 := by
  refine .answerIte (guards_returnAll h) ?_
  split
  · exact h
  · exact guards_putOut h outLaw_returnOut dark_returnOut

theorem guards_senseCheckStart (h : Guards may s u) (p : List Byte) : Guards may s (senseCheckStart p u).1 := by
  have entered : ∀ x, Guards may s (enterCheck x u) := fun x =>
    guards_restartIdent (guards_withLsi (guards_withPcu (guards_endDemand (guards_withRoof h .check)) (by rfl)) _)
  refine .answerIte h (.answerIte h (.answerIte h ?_))
  split
  · exact entered _
  · exact h

theorem guards_senseCheckEnd (h : Guards may s u) : Guards may s (senseCheckEnd u).1 :=
  .answerIte ((guards_withRoof h .ready).of_view rfl) h

/-! ### A request taken -/

/-- What a request must be granted. -/
structure Granted (may : Grant → Prop) (k : ReqKind) : Prop where
  table : k = .sectionLoad ∨ k = .sectionClear → may .table
  link : k = .parameterSet → may .link
  thresholds : k = .thresholdSet → may .thresholds

theorem guards_requestRule {k : ReqKind} (g : Granted may k) (src : Station) (p : List Byte) (h : Guards may s u) :
    Guards may s (requestRule k src p u).1 := by
  cases k with
  | statusRead => exact guards_statusRead h p
  | cabTake => exact guards_cabTake h src
  | cabRelease => exact guards_roofDownRequest (guards_withCau h _) _ _
  | cabPass => exact guards_cabPass h
  | roofUp => exact guards_roofUp h p
  | roofDown => exact guards_roofDownRequest h _ _
  | systemSelect => exact guards_systemSelect h src p
  | breakerClose => exact guards_breakerClose h src
  | breakerOpen => exact .answerIte h (guards_startSeq (guards_abortSeq h _) _ _ _ _ _)
  | position => exact .answerIte h (guards_takePosition h _ _ _ _)
  | sectionLoad => exact guards_sectionLoad (g.table (.inl rfl)) h p
  | sectionClear => exact guards_sectionClear (g.table (.inr rfl)) h p
  | sectionRead => exact .answerIte h h
  | converterReport => exact guards_converterReport h p
  | iceMode => exact guards_iceModeReq h p
  | parameterSet => exact guards_parameterSet (g.link rfl) h p
  | parameterRead => exact guards_parameterRead h p
  | faultRead => exact guards_faultRead h p
  | faultClear => exact guards_faultClear h p
  | thresholdSet => exact guards_thresholdSet (g.thresholds rfl) h p
  | lockoutClear => exact guards_lockoutClear h p
  | outputTake => exact guards_outputTake h p
  | outputDrive => exact guards_outputDrive h p
  | outputReturn => exact guards_outputReturn h p
  | senseCheckStart => exact guards_senseCheckStart h p
  | senseCheckEnd => exact guards_senseCheckEnd h
  | softReset => exact guards_withLnk h _

theorem guards_hearFrame (h : Guards may s u) : Guards may s (hearFrame u) := guards_withLnk h _

theorem guards_refreshActivity (h : Guards may s u) (src : Station) : Guards may s (refreshActivity src u) := by
  cases src with
  | tcc => exact h
  | _ => exact guards_withCau h _

theorem guards_takeRequest {k : ReqKind} (g : Granted may k) (src : Station) (p : List Byte) (h : Guards may s u) :
    Guards may s (takeRequest k src p (requestRule k src p) u) := by
  have listened := guards_refreshActivity (guards_hearFrame h) src
  rcases takeRequest_cases k src p (requestRule k src p) u with e | e | ⟨code, r, e, how⟩ <;> rw [e]
  · exact h
  · exact guards_hearFrame h
  · refine guards_withLnk (u := r.1) ?_ _
    rcases how with rfl | how
    · exact guards_requestRule g src p listened
    · exact how ▸ listened

theorem guards_takeUnknownKind (h : Guards may s u) (src : Station) (x : Byte) :
    Guards may s (takeUnknownKind src x u) :=
  .ite (.ite (guards_hearFrame h) (guards_withLnk (guards_refreshActivity (guards_hearFrame h) src) _)) h

/-! ### The link (R190 to R194) -/

theorem guards_discardFate (h : Guards may s u) {f : List Byte} {v : State} (e : discardFate f u = some v) :
    Guards may s v := by
  unfold discardFate at e
  split at e
  · cases e; exact guards_offerPlain h _
  · split at e
    · cases e; exact h
    · split at e
      · cases e; exact guards_offer h _
      · split at e
        · cases e; exact guards_offerPlain (guards_refreshActivity h _) _
        · cases e

theorem guards_frameFate (g : ∀ k, Granted may k) (h : Guards may s u) (f : List Byte) :
    Guards may s (frameFate f u) := by
  unfold frameFate
  cases e : discardFate f u with
  | some v => exact guards_discardFate h e
  | none =>
    unfold dispatchFrame
    rw [Option.getD_none]
    split
    · exact h
    · split
      · rw [takeKind_eq]
        exact guards_takeRequest (g _) _ _ h
      · exact guards_takeUnknownKind h _ _

theorem guards_breakFrame (h : Guards may s u) (x : Receiver) : Guards may s (breakFrame x u) :=
  guards_offerPlain (guards_withLnk h _) _

theorem guards_receive (g : ∀ k, Granted may k) (h : Guards may s u) (c : Byte) (stop : Bool) :
    Guards may s (receive c stop u) := by
  unfold receive
  split
  · exact h
  · exact .ite (guards_withLnk h _) h
  · exact .ite (guards_breakFrame h _) (.ite (guards_frameFate g (guards_withLnk h _) _) (guards_withLnk h _))

theorem guards_charArrives (g : ∀ k, Granted may k) (h : Guards may s u) (c : Byte) (stop : Bool) :
    Guards may s (charArrives c stop u) :=
  .ite h (.ite (guards_withLnk h _) (guards_receive g (guards_withLnk h _) c stop))

/-- A character that breaks a frame completes none: no request is taken with it (R190). -/
theorem guards_frameFormatAbort (h : Guards may s u) (c : Byte) (stop : Bool) :
    Guards may s (frameFormatAbort c stop u) := by
  unfold frameFormatAbort
  split
  · rename_i broken
    obtain ⟨receiving, breaks⟩ := broken
    refine .ite h (.ite (guards_withLnk h _) ?_)
    unfold receive
    simp only [State.withLnk_lnk, receiving, breaks, if_true]
    exact guards_breakFrame (guards_withLnk h _) _
  · exact h

theorem guards_frameDiscarded (h : Guards may s u) (f : List Byte) : Guards may s (frameDiscarded f u) := by
  refine .ite (.ite (guards_hearFrame h) ?_) h
  cases e : discardFate f (hearFrame u) with
  | none => exact h
  | some v => exact guards_discardFate (guards_hearFrame h) e

theorem guards_answerSend (h : Guards may s u) : Guards may s (answerSend u) := by
  unfold answerSend
  split
  · exact guards_withLnk h _
  · exact h

/-! ### The commands -/

/-- What a command is granted: nothing, but for those that R52, R88, R89, R159, R171, R172 and R183 name. -/
def grants (c : Instr) (x : Grant) : Prop :=
  isReset c = true ∨ match x with
    | .reset => False
    | .force => c = .forceControlPeriod
    | .table => bearsFrame c = true ∨ (∃ src p, c = .sectionLoad src p ∨ c = .sectionClear src p) ∨
        (∃ bs, c = .segmentRead bs) ∨ c = .loadEepromNoAnswer
    | .link => bearsFrame c = true ∨ ∃ src p, c = .parameterSet src p
    | .thresholds => bearsFrame c = true ∨ ∃ src p, c = .thresholdSet src p

variable {t : State}

theorem guards_event {f : State → State} (h : Guards may s (f s)) (e : event f s = .next t) : Guards may s t := by
  obtain ⟨u, e', ⟨-, rfl⟩ | ⟨-, rfl⟩⟩ := event_next f s <;> rw [e'] at e <;> cases e
  · exact .refl _
  · exact guards_settle s h

theorem guards_inputEvent {f : State → State} (h : Guards may s (f s)) (e : inputEvent f s = .next t) :
    Guards may s t := by
  cases e
  exact guards_settle s h

theorem guards_resetRelease (g : ∀ x, may x) {straps : BitVec 5} (e : exec (.resetRelease straps) s = .next t) :
    Guards may s t := by
  change (if s.held then .next (settle s (releaseReset straps s)) else .next s) = Host.Outcome.next t at e
  split at e
  · cases e
    exact guards_settle s (guards_releaseReset g (.refl s) straps)
  · cases e
    exact .refl _

/-- A request of a kind is granted what its command is. -/
theorem granted_requestCmd (k : ReqKind) (src : Station) (p : List Byte) : Granted (grants (requestCmd k src p)) k where
  table e := by
    rcases e with rfl | rfl
    · exact .inr (.inr (.inl ⟨src, p, .inl rfl⟩))
    · exact .inr (.inr (.inl ⟨src, p, .inr rfl⟩))
  link e := by subst e; exact .inr (.inr ⟨src, p, rfl⟩)
  thresholds e := by subst e; exact .inr (.inr ⟨src, p, rfl⟩)

theorem granted_of_bearsFrame {c : Instr} (h : bearsFrame c = true) (k : ReqKind) : Granted (grants c) k :=
  ⟨fun _ => .inr (.inl h), fun _ => .inr (.inl h), fun _ => .inr (.inl h)⟩

/-- What a command does keeps to what it is granted. -/
theorem guards_exec {c : Instr} (e : exec c s = .next t) : Guards (grants c) s t := by
  have request : ∀ k src p, exec (requestCmd k src p) s = .next t → Guards (grants (requestCmd k src p)) s t :=
    fun k src p e => by
      rw [exec_requestCmd] at e
      exact guards_event (guards_takeRequest (granted_requestCmd k src p) src p (.refl s)) e
  have here : ∀ {may}, Guards may s s := .refl s
  cases c with
  | statusRead src p => exact request .statusRead src p e
  | cabTake src p => exact request .cabTake src p e
  | cabRelease src p => exact request .cabRelease src p e
  | cabPass src p => exact request .cabPass src p e
  | roofUp src p => exact request .roofUp src p e
  | roofDown src p => exact request .roofDown src p e
  | systemSelect src p => exact request .systemSelect src p e
  | breakerClose src p => exact request .breakerClose src p e
  | breakerOpen src p => exact request .breakerOpen src p e
  | position src p => exact request .position src p e
  | sectionLoad src p => exact request .sectionLoad src p e
  | sectionClear src p => exact request .sectionClear src p e
  | sectionRead src p => exact request .sectionRead src p e
  | converterReport src p => exact request .converterReport src p e
  | iceMode src p => exact request .iceMode src p e
  | parameterSet src p => exact request .parameterSet src p e
  | parameterRead src p => exact request .parameterRead src p e
  | faultRead src p => exact request .faultRead src p e
  | faultClear src p => exact request .faultClear src p e
  | thresholdSet src p => exact request .thresholdSet src p e
  | lockoutClear src p => exact request .lockoutClear src p e
  | outputTake src p => exact request .outputTake src p e
  | outputDrive src p => exact request .outputDrive src p e
  | outputReturn src p => exact request .outputReturn src p e
  | senseCheckStart src p => exact request .senseCheckStart src p e
  | senseCheckEnd src p => exact request .senseCheckEnd src p e
  | softReset src p => exact request .softReset src p e
  | unknownKind src x => exact guards_event (guards_takeUnknownKind here src x) e
  | frameDiscarded f => exact guards_event (guards_frameDiscarded here f) e
  | frameFormatAbort x stop => exact guards_event (guards_frameFormatAbort here x stop) e
  | frameGapTimeout => exact guards_event (.ite (guards_breakFrame here _) here) e
  | silenceEnd => exact guards_event (.ite (guards_withLnk here _) here) e
  | answerSend => exact guards_event (guards_answerSend here) e
  | answerWithdrawn x =>
    exact guards_event (.ite (guards_charArrives (granted_of_bearsFrame rfl) here x true) here) e
  | softResetAction straps => exact guards_event (guards_softResetAct (fun _ => .inl rfl) straps s) e
  | powerOnReset => cases e; exact guards_holdReset (fun _ => .inl rfl) _ s
  | pinReset => cases e; exact guards_holdReset (fun _ => .inl rfl) _ s
  | resetRelease straps => exact guards_resetRelease (fun _ => .inl rfl) e
  | profileHeaderRead r => exact guards_event (guards_headerRead here _) e
  | segmentRead a => exact guards_event (guards_segmentRead (.inr (.inr (.inr (.inl ⟨a, rfl⟩)))) here _) e
  | loadEepromNoAnswer => exact guards_event (guards_segmentRead (.inr (.inr (.inr (.inr rfl)))) here _) e
  | winterReadEnd a => exact guards_event (guards_winterRead here _) e
  | winterReadFail => exact guards_event (guards_winterRead here _) e
  | windowPublication => exact guards_event (guards_publishWindow here) e
  | channelReading c h f x => exact guards_event (guards_takeReading here c h f x) e
  | ambientReading x => exact guards_event (guards_ambientReading here x) e
  | heightSensor c => exact guards_event (guards_heightSensor here c) e
  | headokLost c => exact guards_inputEvent (guards_headokLost here c) e
  | headokRestored c => exact guards_inputEvent (f := headokRestored c) (guards_putChan_same here (by rfl)) e
  | raiseTimeout c => exact guards_event (guards_raiseTimeout here c) e
  | contactLoss c => exact guards_event (guards_contactLoss here c) e
  | lowerTimeout c => exact guards_event (guards_lowerTimeout here c) e
  | forceControlPeriod => exact guards_event (guards_forcePeriod (.inr rfl) here) e
  | valvePeriodBoundary =>
    exact guards_event (f := (mapValves · atBoundary)) (guards_mapValves here fun _ => outLaw_atBoundary) e
  | heaterPeriodBoundary =>
    exact guards_event (f := (mapZones · atBoundary))
      (guards_mapZones here (fun _ => outLaw_atBoundary) fun _ => dark_atBoundary) e
  | safePeriodEnd o => exact guards_event (guards_safePeriodEnd here o) e
  | serviceLapse => exact guards_event (guards_serviceLapse here) e
  | auxokLost => exact guards_inputEvent (guards_auxokLost here) e
  | auxokReturn => exact guards_inputEvent (guards_auxokReturn here) e
  | cabLapse => exact guards_event (guards_cabLapse here) e
  | demandExpiry => exact guards_event (guards_demandExpiry here) e
  | converterStale => exact guards_event (guards_converterStale here) e
  | odometerPulse => exact guards_event (guards_odometerPulse here) e
  | positionLapse => exact guards_event (guards_positionLapse here) e
  | breakerFeedbackChange b x => exact guards_inputEvent (guards_feedbackChange here b x) e
  | closeTimeExpiry b x => exact guards_event (guards_closeExpiry here b x) e
  | openTimeExpiry b x => exact guards_event (guards_openExpiry here b x) e
  | shedTimeout => exact guards_event (guards_shedExpiry here) e
  | deadRun => exact guards_event (guards_deadRunExpiry here) e
  | identifyTimeout => exact guards_event (guards_identifyExpiry here) e
  | converterTimeout => exact guards_event (guards_converterExpiry here) e
  | settleIntervalEnd => exact guards_event (.ite (guards_pstRest here (by rfl)) here) e
  | iceIndexUpdate => exact guards_event (guards_iceUpdate here) e
  | slotExpiry => exact guards_event (guards_slotExpiry here) e
  | roofVoltageSample x => exact guards_event (guards_takeSample here _) e
  | characterReceived x => exact guards_event (guards_charArrives (granted_of_bearsFrame rfl) here x true) e
  | answerEnd => exact guards_event (.ite (guards_withLnk here _) here) e

/-! ### The steps -/

/-- The passing of a millisecond moves no integrator, no layer and no output. -/
theorem guards_tickTime (g : may .reset) (h : Guards may s u) : Guards may s (tickTime u) := by
  have passed : Guards may s ((u.withNow (u.now + 1)).withLnk { u.lnk with quietMs := u.lnk.quietMs + 1 }) :=
    h.trans ⟨fun n => absurd g n, fun _ _ => .inl rfl, fun _ => rfl, fun _ => rfl, fun _ _ => rfl,
      fun d => ⟨d.layers.of_pst rfl, d.valves, d.zones⟩, id⟩
  have ticked : ∀ v, guardView (tickBlocks v) = guardView v := fun v => by
    have integrators : ∀ c, (chan (tickBlocks v) c).integrator = (chan v c).integrator := fun c => by
      rw [tickBlocks_chan]
      rfl
    simp only [guardView, GuardView.mk.injEq, funext integrators]
    exact ⟨rfl, rfl, rfl, trivial, rfl, rfl, rfl, rfl⟩
  exact .ite passed (passed.of_view (ticked _))

theorem guards_step (e : step s = .next t) : Guards (fun _ => True) s t := by
  unfold step at e
  split at e
  · cases e
    exact .ite (.refl s) (guards_withPending (guards_tickTime trivial (.refl s)) _)
  · exact (guards_withPending (.refl s) _).trans ((guards_exec e).mono fun _ _ => trivial)

/-- Settles O58: whatever a step does keeps the layers in range, and writes duties within the law (`Guards`). -/
theorem dutiesStayInRange : Obligations.DutiesStayInRange := fun _ _ holds e => (guards_step e).duties holds

/-- Settles O4: no command but those named is granted what it would change (`guards_exec`). -/
theorem onlyTheirOwnCommandsChangeThem : Obligations.OnlyTheirOwnCommandsChangeThem := by
  intro c s t e calm
  have keeps := guards_exec e
  have plain : ¬ isReset c = true := by simp [calm]
  obtain ⟨now, held, straps⟩ := keeps.reset (not_or.mpr ⟨plain, not_false⟩)
  refine ⟨now, held, straps, fun period => keeps.force (not_or.mpr ⟨plain, period⟩), fun frame => ?_⟩
  have whole : ¬ bearsFrame c = true := by simp [frame]
  refine ⟨fun map read fail => keeps.table ?_, fun set => keeps.link ?_, fun set b => ?_⟩
  · rintro (reset | bears | ⟨src, p, load | clear⟩ | ⟨bs, seg⟩ | end_)
    · exact plain reset
    · exact whole bears
    · exact (map src p).1 load
    · exact (map src p).2 clear
    · exact read bs seg
    · exact fail end_
  · rintro (reset | bears | ⟨src, p, param⟩)
    · exact plain reset
    · exact whole bears
    · exact set src p param
  · have bank := keeps.thresholds (by
      rintro (reset | bears | ⟨src, p, thresholds⟩)
      · exact plain reset
      · exact whole bears
      · exact set src p thresholds) b
    simpa [bankKept] using bank

end Sys2Proof.Machine
end

section
/-!
PROOFS. The heaters fit heater_budget after every event, whatever it did: the cut makes the buffered duties fit, and the
writes that follow it look at the budget (R63).
-/

namespace Sys2Proof.Machine

variable {s t : State}

/-! ### The zones with a buffered duty -/

/-- The zones with a buffered duty above 0. -/
def litZones (s : State) : Finset (Fin 16) := Finset.univ.filter fun z => 0 < (zoneOut s z).buffered

theorem mem_litZones (z : Fin 16) : z ∈ litZones s ↔ 0 < (zoneOut s z).buffered := by simp [litZones]

theorem zonesBuffered_eq (s : State) : zonesBuffered s = (litZones s).card := by
  have nodup : (allZones.filter fun z => decide (0 < (zoneOut s z).buffered)).Nodup := (List.nodup_finRange 16).filter _
  rw [zonesBuffered, ← List.toFinset_card_of_nodup nodup]
  congr 1
  ext z
  simp [mem_litZones]

theorem mem_litZones_putZone {y z : Fin 16} {o : Out} :
    y ∈ litZones (putZone s z o) ↔ if y = z then 0 < o.buffered else y ∈ litZones s := by
  rw [mem_litZones]
  split
  · subst_vars; rw [zoneOut_putZone_self]
  · rw [zoneOut_putZone_other _ _ ‹_›, mem_litZones]

/-! ### The cut (R63) -/

theorem litZones_cut (s : State) (z : Fin 16) : litZones (putZone s z (cut (zoneOut s z))) = (litZones s).erase z := by
  ext y
  rw [mem_litZones_putZone, Finset.mem_erase]
  split
  · simp_all [cut]
  · simp_all

/-- Zones cut one after the other. -/
theorem litZones_cuts (zs : List (Fin 16)) (s : State) :
    litZones (zs.foldl (fun s z => putZone s z (cut (zoneOut s z))) s) = litZones s \ zs.toFinset := by
  induction zs generalizing s with
  | nil => simp
  | cons z zs ih =>
    rw [List.foldl_cons, ih, litZones_cut]
    ext y
    simp
    tauto

/-- The order of the cuts names every zone that is on, once. -/
theorem cutOrder_perm (s : State) :
    (cutOrder s).Perm (allZones.reverse.filter fun z => decide (0 < (zoneOut s z).buffered)) := by
  have service : (fun z => (zoneOut s z).owner == Owner.service) = fun z => !((zoneOut s z).owner == Owner.loop) := by
    funext z
    cases (zoneOut s z).owner <;> rfl
  unfold cutOrder
  dsimp only
  rw [service]
  exact List.filter_append_perm _ _

theorem cutOrder_nodup (s : State) : (cutOrder s).Nodup :=
  (cutOrder_perm s).nodup_iff.mpr ((List.nodup_reverse.mpr (List.nodup_finRange 16)).filter _)

theorem mem_cutOrder (z : Fin 16) : z ∈ cutOrder s ↔ z ∈ litZones s := by
  rw [(cutOrder_perm s).mem_iff, mem_litZones]
  simp

theorem cutOrder_length (s : State) : (cutOrder s).length = zonesBuffered s := by
  rw [zonesBuffered_eq, ← List.toFinset_card_of_nodup (cutOrder_nodup s)]
  congr 1
  ext z
  rw [List.mem_toFinset, mem_cutOrder]

theorem budgetCut_effNat (s : State) (n : Nat) : effNat (budgetCut s) n = effNat s n :=
  congrArg Int.toNat (kept_eff (calm_kept (calm_budgetCut s)) n)

/-- After the cut the zones fit the budget. -/
theorem budgetCut_fits (s : State) : zonesBuffered (budgetCut s) ≤ effNat (budgetCut s) Par.heaterBudget := by
  have taken : ((cutOrder s).take (zonesBuffered s - effNat s Par.heaterBudget)).toFinset ⊆ litZones s := fun z hz =>
    (mem_cutOrder z).mp (List.mem_of_mem_take (List.mem_toFinset.mp hz))
  have counted : zonesBuffered (budgetCut s) =
      zonesBuffered s - min (zonesBuffered s - effNat s Par.heaterBudget) (zonesBuffered s) := by
    rw [zonesBuffered_eq (budgetCut s), budgetCut, litZones_cuts, Finset.card_sdiff_of_subset taken,
      List.toFinset_card_of_nodup ((cutOrder_nodup s).sublist (List.take_sublist _ _)), List.length_take,
      cutOrder_length, zonesBuffered_eq s]
  rw [counted, budgetCut_effNat]
  omega

/-! ### The writes after it (R63, R145) -/

/-- The heaters fit the budget. -/
def BudgetFits (s : State) : Prop := zonesBuffered s ≤ effNat s Par.heaterBudget

theorem BudgetFits.of_same (h : BudgetFits s) (zones : t.ros.zones = s.ros.zones) (pst : t.pst = s.pst) :
    BudgetFits t := by
  have lit : zonesBuffered t = zonesBuffered s := by
    unfold zonesBuffered zoneOut
    rw [zones]
  unfold BudgetFits
  rwa [lit, effNat, eff, pst]

theorem BudgetFits.withIce (h : BudgetFits s) (x : Ice) : BudgetFits (s.withIce x) := h.of_same rfl rfl

/-- A write above 0 to a zone at 0 finds room in the budget. -/
theorem BudgetFits.writeZone (h : BudgetFits s) (z : Fin 16) (duty : Nat) : BudgetFits (writeZone s z duty) := by
  unfold Machine.writeZone
  dsimp only
  split
  · exact h
  · rename_i taken
    have room : (putZone s z { zoneOut s z with buffered := duty }).pst = s.pst := rfl
    unfold BudgetFits at h ⊢
    rw [effNat, eff, room, ← eff, ← effNat]
    rw [zonesBuffered_eq] at h ⊢
    by_cases lit : z ∈ litZones s ∨ duty = 0
    · refine (Finset.card_le_card fun y hy => ?_).trans h
      rw [mem_litZones_putZone] at hy
      split at hy
      · subst_vars
        exact lit.resolve_right (Nat.ne_of_gt hy)
      · exact hy
    · rw [not_or, mem_litZones, not_lt, Nat.le_zero] at lit
      have free : (litZones s).card < effNat s Par.heaterBudget := by
        simp only [lit.1, beq_self_eq_true, Bool.true_and, Nat.pos_of_ne_zero lit.2, decide_true, budgetFull,
          Bool.or_eq_true, decide_eq_true_eq, not_or, not_le, zonesBuffered_eq] at taken
        exact taken.2.2
      have only : litZones (putZone s z { zoneOut s z with buffered := duty }) ⊆ insert z (litZones s) := fun y hy => by
        rw [mem_litZones_putZone] at hy
        split at hy
        · exact Finset.mem_insert.mpr (.inl ‹_›)
        · exact Finset.mem_insert_of_mem hy
      exact ((Finset.card_le_card only).trans (Finset.card_insert_le ..)).trans free

theorem BudgetFits.foldl {α : Type} {f : State → α → State} (hf : ∀ s x, BudgetFits s → BudgetFits (f s x)) (l : List α)
    (h : BudgetFits s) : BudgetFits (l.foldl f s) := by
  induction l generalizing s with
  | nil => exact h
  | cons x xs ih => exact ih (hf s x h)

theorem BudgetFits.writeSlot (h : BudgetFits s) (zs : List (Fin 16)) (duty : Nat) :
    BudgetFits (writeSlot s zs duty) := by
  refine .foldl (fun _ z hs => hs.writeZone z duty) zs (.foldl (fun s z hs => ?_) allZones h)
  split
  · exact hs
  · exact hs.writeZone z 0

theorem BudgetFits.slotStart (h : BudgetFits s) : BudgetFits (slotStart s) := by
  unfold Machine.slotStart
  split
  · exact h
  · split
    · exact (h.withIce _).writeSlot _ _
    · exact (h.withIce _).writeSlot _ _

/-! ### The laws of the heaters -/

theorem budgetFits_heaterTest (b s : State) : BudgetFits (heaterTest b s) := by
  have cut : BudgetFits (budgetCut (resetRotation b s)) := budgetCut_fits _
  unfold heaterTest
  dsimp only
  split
  · exact cut.slotStart
  · exact cut

/-- The end of every event in a running roof leaves the heaters within the budget. -/
theorem budgetHolds_settle (b s : State) : BudgetHolds (settle b s) := by
  unfold settle
  split
  · rename_i stays
    intro run
    simp [run.held, run.roof] at stays
  · exact fun _ => budgetFits_heaterTest b _

theorem budgetHolds_tickTime (h : BudgetHolds s) : BudgetHolds (tickTime s) := by
  intro run
  by_cases start : s.roofState = .starting
  · rw [tickTime_of_starting start] at run
    exact absurd start run.roof
  · rw [tickTime_of_running start] at run ⊢
    exact BudgetFits.of_same (h ⟨run.held, run.roof⟩) rfl rfl

theorem budgetHolds_step (h : BudgetHolds s) (e : step s = .next t) : BudgetHolds t := by
  cases follows_step e with
  | stands q => exact fun run => BudgetFits.of_same (h ⟨run.held, run.roof⟩) rfl rfl
  | ticks q => exact fun run => BudgetFits.of_same (budgetHolds_tickTime h ⟨run.held, run.roof⟩) rfl rfl
  | resets f q => exact fun run => Bool.noConfusion (run.held : true = false)
  | settles before u _ => exact budgetHolds_settle before u

/-- Settles O43: the end of an event fits the budget (`budgetHolds_settle`), and no zone is lit without the supply
(`Guards`). -/
theorem heatersFitBudgetAndSupply : Obligations.HeatersFitBudgetAndSupply :=
  fun _ _ e => ⟨fun holds => budgetHolds_step holds e, (guards_step e).aux⟩

end Sys2Proof.Machine
end

section
/-!
PROOFS. The ambient reading and the AUXOK input (O40).
-/

namespace Sys2Proof.Machine

variable {s : State} {t : Int}

/-! ### The ambient reading (R134) -/

theorem ambientReading_valid (low : -600 ≤ t) (high : t ≤ 1000) (s : State) : ambientReading t s =
    s.withIce { s.ice with ambient := t, ambientValid := true, ambientArmed := true } := by
  have ok : ambientOk t = true := by simp [ambientOk, low, high]
  exact if_pos ok

theorem ambientReading_invalid (out : t < -600 ∨ 1000 < t) (s : State) : ambientReading t s =
    if s.ice.ambientValid && s.ice.ambientArmed
      then offer (s.withIce { s.ice with ambientArmed := false }) ⟨.ambientSensor, none, false⟩ else s := by
  have bad : ¬ ambientOk t = true := by
    simp only [ambientOk, Bool.and_eq_true, decide_eq_true_eq]
    omega
  exact if_neg bad

/-! ### The AUXOK input (R64, R147) -/

/-- AUXOK inactive, with every zone cut. -/
def supplyLost (s : State) : State := mapZones (s.withRos { s.ros with auxok := false }) cut

theorem supplyLost_zoneOut (s : State) (z : Fin 16) :
    zoneOut (supplyLost s) z = { zoneOut s z with applied := 0, buffered := 0 } :=
  mapZones_zoneOut (s.withRos { s.ros with auxok := false }) cut z

theorem auxokLost_starting (on : s.ros.auxok = true) (start : s.roofState = .starting) : auxokLost s = supplyLost s :=
  (if_pos on).trans (if_pos start)

theorem auxokLost_running (on : s.ros.auxok = true) (run : s.roofState ≠ .starting) : auxokLost s =
    offer ((supplyLost s).withIce { s.ice with slot := .held }) ⟨.auxLost, none, false⟩ :=
  (if_pos on).trans (if_neg run)

theorem auxokLost_off (off : s.ros.auxok = false) : auxokLost s = s := if_neg (Bool.eq_false_iff.mp off)

theorem auxokReturn_eq (s : State) : auxokReturn s =
    (s.withRos { s.ros with auxok := true }).withIce { s.ice with
      slot := if s.ice.slot = .held then .idle else s.ice.slot } := by
  unfold auxokReturn
  dsimp only
  split <;> rfl

/-- Settles O40: each reading and each change of the input has its own effect, and the event settles. -/
theorem ambientAndAuxokAreTaken : Obligations.AmbientAndAuxokAreTaken := by
  intro t s
  refine ⟨fun live => ?_, fun on => ⟨supplyLost s, rfl, supplyLost_zoneOut s, fun start => ?_, fun run => ?_⟩,
    fun off => ?_, ?_⟩
  · have becomes : exec (.ambientReading t) s = .next (settle s (ambientReading t s)) := event_live live
    refine ⟨fun low high => ?_, fun out valid armed => ?_, fun out rest => ?_⟩
    · rw [becomes, ambientReading_valid low high]
    · rw [becomes, ambientReading_invalid out, valid, armed]
      rfl
    · have quiet : (s.ice.ambientValid && s.ice.ambientArmed) = false :=
      (Bool.and_eq_false_iff ..).mpr rest
      rw [becomes, ambientReading_invalid out, quiet]
      rfl
  · rw [← auxokLost_starting on start]
    rfl
  · have lost := auxokLost_running on run
    exact congrArg (fun u => Host.Outcome.next (settle s u)) lost
  · exact congrArg (fun u => Host.Outcome.next (settle s u)) (auxokLost_off off)
  · exact congrArg (fun u => Host.Outcome.next (settle s u)) (auxokReturn_eq s)

end Sys2Proof.Machine
end

section
/-!
PROOFS. The force loop and the force targets (O38).
-/

namespace Sys2Proof.Machine

variable {s : State} {c : Chan}

/-! ### The force loop (R50 to R52) -/

/-- In IN_CONTACT the loop writes its duty and moves its integrator. -/
theorem forceLoop_inContact (contact : (chan s c).state = .inContact) : forceLoop s c =
    putChan (writeValve s c (loopDuty s (chan s c))) c { chan s c with integrator := loopIntegrator s (chan s c) } := by
  unfold forceLoop
  dsimp only
  rw [contact]

/-- The integrator stands exactly while the valve is saturated in the error's direction (R52). -/
theorem loopIntegrator_eq (s : State) (r : Channel) :
    let e := r.forceTarget - (r.forceN : Int)
    loopIntegrator s r = if (1000 < loopU s r ∧ 0 < e) ∨ (loopU s r < 0 ∧ e < 0) then r.integrator
      else clampInt (-256000) 256000 (r.integrator + eff s Par.ki * e) := by
  unfold loopIntegrator
  dsimp only
  by_cases up : 1000 < loopU s r ∧ 0 < r.forceTarget - (r.forceN : Int)
  · rw [if_pos up, if_pos (.inl up)]
  · rw [if_neg up]
    simp only [up, false_or]

/-- A write of a valve that the loop owns (R55). -/
theorem writeValve_owned (own : loopOwns (valve s c) = true) (duty : Nat) : valve (writeValve s c duty) c =
    { valve s c with
      buffered := duty
      applied := if eff s Par.dutyImmediate = 1 then duty else (valve s c).applied } := by
  unfold writeValve
  dsimp only
  rw [if_pos own, valve_putValve_self]

/-! ### The force targets (R48, R49) -/

theorem forceTargetOf_mem (order : eff s Par.fMin ≤ eff s Par.fMax) (c : Chan) (x : Role) :
    eff s Par.fMin ≤ forceTargetOf s c x ∧ forceTargetOf s c x ≤ eff s Par.fMax := by
  unfold forceTargetOf
  split
  · exact ⟨le_refl _, order⟩
  · exact clampInt_mem order _

theorem forceTargetOf_unfitted (absent : fitted s c = false) (x : Role) : forceTargetOf s c x = eff s Par.fMin := by
  have none : chanClass s c = none := by simpa [fitted] using absent
  unfold forceTargetOf
  rw [none]

/-- A target is computed from values that no recompute writes. -/
theorem forceTargetOf_retarget (s : State) (c d : Chan) (x : Role) :
    forceTargetOf (retarget s d) c x = forceTargetOf s c x := rfl

theorem retarget_chan (s : State) (c d : Chan) : chan (retarget s d) c =
    if c = d then { chan s c with forceTarget := forceTargetOf s c (chan s c).role } else chan s c := by
  unfold retarget
  rw [chan_putChan]
  split
  · subst_vars; rfl
  · rfl

/-- Every channel of the list has its target computed, and no other is touched. -/
theorem retargets_chan (l : List Chan) (s : State) (c : Chan) : chan (l.foldl retarget s) c =
    if c ∈ l then { chan s c with forceTarget := forceTargetOf s c (chan s c).role } else chan s c := by
  induction l generalizing s with
  | nil => rfl
  | cons d l ih =>
    rw [List.foldl_cons, ih, forceTargetOf_retarget, retarget_chan]
    by_cases here : c = d <;> by_cases later : c ∈ l <;> simp [here, later]

theorem retargetAll_chan (s : State) (c : Chan) :
    chan (retargetAll s) c = { chan s c with forceTarget := forceTargetOf s c (chan s c).role } := by
  rw [retargetAll, retargets_chan, if_pos (mem_allChans c)]

/-! ### A force control period (R48, R50, R186) -/

theorem exec_forceControlPeriod (run : Running s) : exec .forceControlPeriod s =
    .next (settle s (winterPeriod (allChans.foldl forceLoop (retargetAll s)))) := by
  have period : forcePeriod s = winterPeriod (allChans.foldl forceLoop (retargetAll s)) := if_neg run.roof
  rw [← period]
  exact event_live run.held

/-- Settles O38: the period in its order, the law of the loop, and the bounds of the targets. -/
theorem forceLoopFollowsItsLaw : Obligations.ForceLoopFollowsItsLaw := by
  refine ⟨⟨fun s run => exec_forceControlPeriod run, fun s c contact => ⟨?_, fun own free => ?_⟩⟩, fun s order =>
    ⟨forceTargetOf_mem order, fun c => ?_, fun c x absent => forceTargetOf_unfitted absent x⟩⟩
  · rw [forceLoop_inContact contact, chan_putChan_self, loopIntegrator_eq]
    rfl
  · have owned : loopOwns (valve s c) = true := by simp [loopOwns, own, free]
    rw [forceLoop_inContact contact, putChan_valve, writeValve_owned owned]
    rfl
  · rw [retargetAll_chan]

end Sys2Proof.Machine
end

section
/-!
PROOFS. OUTPUT TAKE, OUTPUT DRIVE and OUTPUT RETURN, row by row of Tables 3-4 to 3-6 (O22).
-/

namespace Sys2Proof.Machine

variable {s : State} {o : Output} {n d0 d1 : Byte} {u : State} {code : AnswerCode} {rest : List Byte}

/-! ### The rules on the state heard -/

theorem heard_outOf (src : Station) (s : State) (o : Output) : outOf (heard src s) o = outOf s o := by
  cases src <;> cases o <;> rfl

theorem heard_takeValveRefusal (src : Station) (s : State) (o : Output) :
    takeValveRefusal (heard src s) o = takeValveRefusal s o := by
  cases src <;> cases o <;> rfl

theorem heard_driveRefusal (src : Station) (s : State) (duty : Nat) (o : Output) :
    driveRefusal (heard src s) duty o = driveRefusal s duty o := by
  cases src <;> cases o <;> rfl

theorem heard_fitted (src : Station) (s : State) (c : Chan) : fitted (heard src s) c = fitted s c := by
  rw [fitted, heard_chanClass, fitted]

theorem heard_roofQuietService (src : Station) (s : State) : roofQuietService (heard src s) = roofQuietService s := by
  cases src <;> rfl

/-- Past rows 1 to 3 of Table 3-4 a take is decided by rows 4 to 9. -/
theorem exec_outputTake (acc : Accepted .outputTake .tool s) (safe : s.roofState ≠ .safeHeld)
    (quiet : roofQuietService s = true) (named : outputOfCode n.toNat = some o)
    (rule : takeOutput o (heard .tool s) = (u, ⟨code, rest⟩)) :
    exec (.outputTake .tool [n]) s = .next (settle s (replied .tool 0x15 (answerByte code :: rest) u)) := by
  have byte : byteAt [n] 0 = n.toNat := rfl
  refine exec_accepted_of_rule acc rfl u code rest ?_
  change outputTake [n] (heard .tool s) = _
  rw [outputTake, heard_roofState, heard_roofQuietService, if_neg safe, quiet, if_neg (by decide), byte, named]
  exact rule

theorem drivenDuty (n d0 d1 : Byte) : leNat (bytesAt [n, d0, d1] 1 2) = d0.toNat + 256 * d1.toNat := rfl

/-- A drive of an output within 0–1000 per mille is decided by rows 3 to 8 of Table 3-5. -/
theorem exec_outputDrive (acc : Accepted .outputDrive .tool s) (named : outputOfCode n.toNat = some o)
    (low : d0.toNat + 256 * d1.toNat ≤ 1000)
    (rule : driveOutput o (d0.toNat + 256 * d1.toNat) (heard .tool s) = (u, ⟨code, rest⟩)) :
    exec (.outputDrive .tool [n, d0, d1]) s = .next (settle s (replied .tool 0x16 (answerByte code :: rest) u)) := by
  have byte : byteAt [n, d0, d1] 0 = n.toNat := rfl
  refine exec_accepted_of_rule acc rfl u code rest ?_
  change outputDrive [n, d0, d1] (heard .tool s) = _
  rw [outputDrive, drivenDuty, byte, named]
  exact (if_neg (Nat.not_lt.mpr low)).trans rule

theorem exec_outputDrive_high (acc : Accepted .outputDrive .tool s) (named : outputOfCode n.toNat = some o)
    (high : 1000 < d0.toNat + 256 * d1.toNat) :
    exec (.outputDrive .tool [n, d0, d1]) s = .next (settle s (replied .tool 0x16 [0x08#8] (heard .tool s))) := by
  have byte : byteAt [n, d0, d1] 0 = n.toNat := rfl
  refine exec_accepted_of_rule acc rfl _ .range [] ?_
  change outputDrive [n, d0, d1] (heard .tool s) = _
  rw [outputDrive, drivenDuty, byte, named]
  exact if_pos high

theorem exec_outputReturn (acc : Accepted .outputReturn .tool s)
    (rule : outputReturn [n] (heard .tool s) = (u, ⟨code, rest⟩)) :
    exec (.outputReturn .tool [n]) s = .next (settle s (replied .tool 0x17 (answerByte code :: rest) u)) :=
  exec_accepted_of_rule acc rfl u code rest rule

/-! ### OUTPUT TAKE (Table 3-4, rows 4 to 9) -/

section Take
variable (owner : (outOf s o).owner = .loop) (free : (outOf s o).handover = .none)
include free

theorem takeOutput_mine (owner : (outOf s o).owner = .service) : takeOutput o s = done s := if_pos ⟨owner, free⟩

omit free in
theorem takeOutput_busy (busy : (outOf s o).handover ≠ .none) : takeOutput o s = refuse .busy s :=
  (if_neg fun mine => busy mine.2).trans (if_pos busy)

include owner

/-- Rows 4 and 5 let the take of a free output of the loop pass. -/
theorem takeOutput_free : takeOutput o s = if fitted s (outChan o) = false then refuse .noChannel s
    else match takeValveRefusal s o with
      | some c => refuse c s
      | none => done (putOut s o (startHandover (outOf s o) .toService)) := by
  have notMine : ¬ ((outOf s o).owner = .service ∧ (outOf s o).handover = .none) := by simp [owner]
  have notBusy : ¬ (outOf s o).handover ≠ .none := not_not.mpr free
  exact (if_neg notMine).trans (if_neg notBusy)

theorem takeOutput_unfitted (absent : fitted s (outChan o) = false) : takeOutput o s = refuse .noChannel s :=
  (takeOutput_free owner free).trans (if_pos absent)

variable (fits : fitted s (outChan o) = true)
include fits

theorem takeOutput_refused {c : AnswerCode} (refused : takeValveRefusal s o = some c) :
    takeOutput o s = refuse c s := by
  rw [takeOutput_free owner free, if_neg (by simp [fits]), refused]

theorem takeOutput_granted (granted : takeValveRefusal s o = none) :
    takeOutput o s = done (putOut s o (startHandover (outOf s o) .toService)) := by
  rw [takeOutput_free owner free, if_neg (by simp [fits]), granted]

end Take

/-! ### OUTPUT DRIVE (Table 3-5, rows 3 to 8) -/

theorem driveOutput_busy (busy : (outOf s o).handover ≠ .none) (duty : Nat) :
    driveOutput o duty s = refuse .busy s := if_pos busy

section Drive
variable (free : (outOf s o).handover = .none)
include free

theorem driveOutput_loop (owner : (outOf s o).owner = .loop) (duty : Nat) :
    driveOutput o duty s = (s, conditionOf subNotService) := (if_neg (not_not.mpr free)).trans (if_pos owner)

variable (owner : (outOf s o).owner = .service)
include owner

/-- Rows 3 and 4 let the drive of a free output of the tool pass. -/
theorem driveOutput_service (duty : Nat) : driveOutput o duty s = match driveRefusal s duty o with
    | some a => (s, a)
    | none => done (putOut s o { outOf s o with buffered := duty }) := by
  have notLoop : ¬ (outOf s o).owner = .loop := by simp [owner]
  exact (if_neg (not_not.mpr free)).trans (if_neg notLoop)

theorem driveOutput_refused {duty : Nat} {a : Reply} (refused : driveRefusal s duty o = some a) :
    driveOutput o duty s = (s, a) := by
  rw [driveOutput_service free owner, refused]

theorem driveOutput_granted {duty : Nat} (granted : driveRefusal s duty o = none) :
    driveOutput o duty s = done (putOut s o { outOf s o with buffered := duty }) := by
  rw [driveOutput_service free owner, granted]

end Drive

theorem driveRefusal_dump {c : Chan} (on : (chan s c).dumpOn = true) (duty : Nat) :
    driveRefusal s duty (.valve c) = some (conditionOf subDumpOn) := if_pos on

/-! ### OUTPUT RETURN (Table 3-6) -/

theorem returnOut_taken {r : Out} (owner : r.owner = .loop) (taken : r.handover = .toService) :
    returnOut r = { r with cancelled := true } := by
  unfold returnOut
  rw [owner, taken]

theorem returnOut_service {r : Out} (owner : r.owner = .service) (free : r.handover = .none) :
    returnOut r = startHandover r .toLoop := by
  unfold returnOut
  rw [owner, free]

theorem returnOut_rest {r : Out}
    (rest : r.owner = .loop ∧ r.handover ≠ .toService ∨ r.owner = .service ∧ r.handover ≠ .none) :
    returnOut r = r := by
  unfold returnOut
  split
  · simp_all
  · simp_all
  · rfl

theorem returnAll_outOf (s : State) (o : Output) : outOf (returnAll s) o = returnOut (outOf s o) := by
  cases o with
  | valve c => exact mapValves_valve s returnOut c
  | zone z => exact mapZones_zoneOut (mapValves s returnOut) returnOut z

theorem outputReturn_all (s : State) : outputReturn [0xFF#8] s = done (returnAll s) := rfl

theorem outputReturn_unnamed (other : n ≠ 0xFF#8) (named : outputOfCode n.toNat = none) :
    outputReturn [n] s = refuse .range s := by
  have one : ¬ byteAt [n] 0 = 0xFF := fun e => other (BitVec.eq_of_toNat_eq e)
  have byte : byteAt [n] 0 = n.toNat := rfl
  rw [outputReturn, if_neg one, byte, named]

theorem outputReturn_named (named : outputOfCode n.toNat = some o) :
    outputReturn [n] s = done (putOut s o (returnOut (outOf s o))) := by
  have byte : byteAt [n] 0 = n.toNat := rfl
  have one : ¬ byteAt [n] 0 = 0xFF := fun e => by
    rw [byte] at e
    rw [e] at named
    exact absurd named nofun
  rw [outputReturn, if_neg one, byte, named]

/-! ### The three requests -/

/-- The return of every output, and of an identifier that names none. -/
theorem outputsReturned (acc : Accepted .outputReturn .tool s) (named : outputOfCode n.toNat = none) :
    let h := heard .tool s
    let answer := fun (a : List Byte) (u : State) =>
      exec (.outputReturn .tool [n]) s = .next (settle s (replied .tool 0x17 a u))
    (n ≠ 0xFF#8 → answer [0x08#8] h) ∧
    (n = 0xFF#8 → ∃ u, answer [0x00#8] u ∧
      u = h.withRos { s.ros with valves := u.ros.valves, zones := u.ros.zones } ∧ ∀ o,
        outOf u o = returnOut (outOf s o)) := by
  refine ⟨fun other => exec_outputReturn (code := .range) acc (outputReturn_unnamed other named), fun all => ?_⟩
  subst all
  have returned := exec_outputReturn (code := .done) (rest := []) acc (outputReturn_all (heard .tool s))
  refine ⟨returnAll (heard .tool s), returned, ?_, fun o => ?_⟩
  · rfl
  · rw [returnAll_outOf, heard_outOf]

/-- Settles O22, by the rows of Tables 3-4 to 3-6. -/
theorem outputsAreTakenDrivenReturned : Obligations.OutputsAreTakenDrivenReturned := by
  refine ⟨fun n s acc named => ?_, fun n o s named => ⟨fun acc safe quiet => ?_, fun acc d0 d1 => ?_, fun acc => ?_⟩⟩
  · obtain ⟨one, all⟩ := outputsReturned acc named
    refine ⟨one, fun e => ?_⟩
    obtain ⟨u, answer, frame, each⟩ := all e
    refine ⟨u, answer, frame, fun o => ⟨fun owner taken => ?_, fun owner free => ?_, fun rest => ?_⟩⟩ <;> rw [each]
    · exact returnOut_taken owner taken
    · exact returnOut_service owner free
    · exact returnOut_rest rest
  · have same := heard_outOf .tool s o
    have fit := heard_fitted .tool s (outChan o)
    have valve := heard_takeValveRefusal .tool s o
    refine ⟨fun owner free => ?_, fun busy => ?_, fun owner free absent => ?_, fun a owner free fits refused => ?_,
      fun owner free fits granted => ?_⟩
    · exact exec_outputTake (code := .done) acc safe quiet named (takeOutput_mine (same ▸ free) (same ▸ owner))
    · exact exec_outputTake (code := .busy) acc safe quiet named (takeOutput_busy (same ▸ busy))
    · exact exec_outputTake (code := .noChannel) acc safe quiet named
        (takeOutput_unfitted (same ▸ owner) (same ▸ free) (fit ▸ absent))
    · exact exec_outputTake (code := a) acc safe quiet named
        (takeOutput_refused (same ▸ owner) (same ▸ free) (fit ▸ fits) (valve ▸ refused))
    · have granted := takeOutput_granted (s := heard .tool s)
        (same ▸ owner) (same ▸ free) (fit ▸ fits) (valve ▸ granted)
      rw [same] at granted
      exact exec_outputTake (code := .done) acc safe quiet named granted
  · have same := heard_outOf .tool s o
    have refusal := heard_driveRefusal .tool s (d0.toNat + 256 * d1.toNat) o
    refine ⟨exec_outputDrive_high acc named, fun low => ⟨fun busy => ?_, fun free owner => ?_, fun free owner =>
      ⟨fun c valve dump => ?_, fun a refused => ?_, fun granted => ?_⟩⟩⟩
    · exact exec_outputDrive (code := .busy) acc named low (driveOutput_busy (same ▸ busy) _)
    · exact exec_outputDrive (code := .condition) acc named low (driveOutput_loop (same ▸ free) (same ▸ owner) _)
    · subst valve
      exact exec_outputDrive (code := .condition) acc named low (driveOutput_refused (same ▸ free) (same ▸ owner)
        (driveRefusal_dump (heard_chan .tool s c ▸ dump) _))
    · exact exec_outputDrive (code := a.code) acc named low
        (driveOutput_refused (same ▸ free) (same ▸ owner) (refusal ▸ refused))
    · have granted := driveOutput_granted (s := heard .tool s) (same ▸ free) (same ▸ owner) (refusal ▸ granted)
      rw [same] at granted
      exact exec_outputDrive (code := .done) acc named low granted
  · have returned := outputReturn_named (s := heard .tool s) named
    rw [heard_outOf] at returned
    refine ⟨fun owner taken => ?_, fun owner free => ?_, fun rest => ?_⟩
    · rw [returnOut_taken owner taken] at returned
      exact exec_outputReturn (code := .done) acc returned
    · rw [returnOut_service owner free] at returned
      exact exec_outputReturn (code := .done) acc returned
    · rw [returnOut_rest rest] at returned
      exact exec_outputReturn (code := .done) acc returned

end Sys2Proof.Machine
end

section
/-!
PROOFS. The laws of the breakers (R82, R109, R130) and of the raise demand (R74), apart from that of a held reset, and
what keeps both from one state to another: `Upholds`, for the single writes, the sequences, and an offer with its
actions.
-/

namespace Sys2Proof.Machine

/-! ### The two laws -/

/-- `BreakersHold` without the law of a held reset. -/
structure BreakerLaw (s : State) : Prop where
  interlock : ∀ b, brkMade (brk s b) = true → (brk s (otherBrk b)).state = .opened
  ready : ∀ b, brkMade (brk s b) = true → s.roofState = .ready
  shed : s.chg.shed = false → (closedBrk s).isSome = true

/-- `DemandHolds` without the law of a held reset. -/
def DemandLaw (s : State) : Prop :=
  ∀ d, s.cau.demand = some d → s.roofState = .ready ∧ s.cau.active = some d.origin

theorem breakersHold_iff (s : State) : BreakersHold s ↔ HeldLaw s ∧ BreakerLaw s :=
  ⟨fun h => ⟨h.held, h.interlock, h.ready, h.shed⟩, fun h => ⟨h.1, h.2.interlock, h.2.ready, h.2.shed⟩⟩

theorem demandHolds_iff (s : State) : DemandHolds s ↔ HeldLaw s ∧ DemandLaw s :=
  ⟨fun h => ⟨h.held, h.live⟩, fun h => ⟨h.1, h.2⟩⟩

theorem closedBrk_isSome_iff (s : State) : (closedBrk s).isSome = true ↔ ∃ b, (brk s b).state = .closed := by
  have either : (∃ b, (brk s b).state = .closed) ↔ s.chg.bka.state = .closed ∨ s.chg.bkd.state = .closed :=
    ⟨fun ⟨b, e⟩ => by cases b <;> simp_all [brk], fun h => h.elim (⟨.bka, ·⟩) (⟨.bkd, ·⟩)⟩
  rw [either]
  unfold closedBrk
  split
  · simp_all
  · split <;> simp_all

theorem brkMade_iff (r : Breaker) : brkMade r = true ↔ r.state = .closed ∨ r.state = .closing := by simp [brkMade]

theorem brkMade_of_closed {r : Breaker} (h : r.state = .closed) : brkMade r = true := (brkMade_iff r).mpr (.inl h)

theorem brkMade_of_closing {r : Breaker} (h : r.state = .closing) : brkMade r = true := (brkMade_iff r).mpr (.inr h)

theorem unmade_of_state {r : Breaker} (closed : r.state ≠ .closed) (closing : r.state ≠ .closing) :
    brkMade r = false := by
  simp [brkMade, closed, closing]

@[simp] theorem otherBrk_otherBrk (b : Brk) : otherBrk (otherBrk b) = b := by cases b <;> rfl

theorem otherBrk_ne (b : Brk) : otherBrk b ≠ b := by cases b <;> decide

theorem eq_or_eq_otherBrk (b d : Brk) : d = b ∨ d = otherBrk b := by cases b <;> cases d <;> simp [otherBrk]

theorem BreakerLaw.unmade {s : State} (h : BreakerLaw s) (roof : s.roofState ≠ .ready) (b : Brk) :
    brkMade (brk s b) = false :=
  Bool.eq_false_iff.mpr fun made => roof (h.ready b made)

/-- With no breaker CLOSED, SHED stands (R82). -/
theorem BreakerLaw.sheds {s : State} (h : BreakerLaw s) (open_ : ∀ b, (brk s b).state ≠ .closed) :
    s.chg.shed = true := by
  by_contra off
  obtain ⟨b, closed⟩ := (closedBrk_isSome_iff s).mp (h.shed (by simpa using off))
  exact open_ b closed

/-- Where one breaker is neither OPEN nor made, none is made (R109). -/
theorem BreakerLaw.other_unmade {s : State} (h : BreakerLaw s) {b : Brk} (stuck : (brk s b).state ≠ .opened) :
    brkMade (brk s (otherBrk b)) = false :=
  Bool.eq_false_iff.mpr fun made => stuck (by simpa using h.interlock _ made)

/-- With no breaker made and SHED standing the law holds. -/
theorem BreakerLaw.of_unmade {s : State} (h : ∀ b, brkMade (brk s b) = false) (shed : s.chg.shed = true) :
    BreakerLaw s where
  interlock b made := by rw [h b] at made; cases made
  ready b made := by rw [h b] at made; cases made
  shed off := by rw [shed] at off; cases off

theorem DemandLaw.notLive {s : State} (h : DemandLaw s) (roof : s.roofState ≠ .ready) : s.cau.demand = none := by
  cases e : s.cau.demand with
  | none => rfl
  | some d => exact absurd (h d e).1 roof

theorem DemandLaw.of_none {s : State} (h : s.cau.demand = none) : DemandLaw s := fun d e => by rw [h] at e; cases e

theorem DemandLaw.of_cau {s t : State} (h : DemandLaw s) (cau : t.cau = s.cau) (roof : t.roofState = s.roofState) :
    DemandLaw t := fun d e => by
  rw [cau] at e
  rw [cau, roof]
  exact h d e

/-! ### From one state to another -/

/-- Both laws are kept. -/
structure Upholds (s t : State) : Prop where
  breakers : BreakerLaw s → BreakerLaw t
  demand : DemandLaw s → DemandLaw t

theorem Upholds.refl (s : State) : Upholds s s := ⟨id, id⟩

theorem Upholds.trans {s t u : State} (h : Upholds s t) (g : Upholds t u) : Upholds s u :=
  ⟨g.breakers ∘ h.breakers, g.demand ∘ h.demand⟩

theorem Upholds.ite {s t u : State} {p : Prop} [Decidable p] (h : p → Upholds s t) (g : ¬ p → Upholds s u) :
    Upholds s (if p then t else u) := by
  split
  · exact h ‹_›
  · exact g ‹_›

theorem Upholds.foldl {α : Type} {f : State → α → State} (h : ∀ s x, Upholds s (f s x)) (l : List α) (s : State) :
    Upholds s (l.foldl f s) := by
  induction l generalizing s with
  | nil => exact .refl s
  | cons x xs ih => exact (h s x).trans (ih _)

/-- What the two laws read of a state. -/
structure LawView where
  roof : RoofState
  bka : BrkState
  bkd : BrkState
  shed : Bool
  demand : Option Demand
  active : Option Vcu

def lawView (s : State) : LawView :=
  ⟨s.roofState, s.chg.bka.state, s.chg.bkd.state, s.chg.shed, s.cau.demand, s.cau.active⟩

/-- Nothing that the laws read changes. -/
theorem Upholds.of_view {s t : State} (h : lawView t = lawView s) : Upholds s t := by
  simp only [lawView, LawView.mk.injEq] at h
  obtain ⟨roof, bka, bkd, shed, demand, active⟩ := h
  have same : ∀ b, (brk t b).state = (brk s b).state := fun b => by cases b <;> assumption
  have made : ∀ b, brkMade (brk t b) = brkMade (brk s b) := fun b => by unfold brkMade; rw [same]
  refine ⟨fun law => ⟨fun b => ?_, fun b => ?_, fun off => ?_⟩, fun law d e => ?_⟩
  · rw [made, same]
    exact law.interlock b
  · rw [made, roof]
    exact law.ready b
  · have closed := law.shed (shed ▸ off)
    rw [closedBrk_isSome_iff] at closed ⊢
    obtain ⟨b, e⟩ := closed
    exact ⟨b, (same b).trans e⟩
  · rw [roof, active]
    exact law d (demand ▸ e)

/-- What touches neither the cab unit, the roof state nor the sequencer. -/
theorem Upholds.of_calm {s t : State} (h : calm t = calm s) (chg : t.chg = s.chg) : Upholds s t :=
  .of_view (by rw [lawView, calm_roofState h, calm_cau h, chg, lawView])

/-- What touches neither the cab unit nor the roof state, and keeps the law of the breakers. -/
theorem Upholds.of_breakers {s t : State} (h : calm t = calm s) (law : BreakerLaw s → BreakerLaw t) : Upholds s t :=
  ⟨law, fun d => d.of_cau (calm_cau h) (calm_roofState h)⟩

/-! ### Breakers written -/

/-- A breaker that is not CLOSED may go to any state that is not made, to one other than OPEN only beside one that is
not made. -/
theorem upholds_putBrk {s : State} {b : Brk} {r : Breaker} (unmade : brkMade r = false)
    (open_ : BreakerLaw s → (brk s b).state ≠ .closed)
    (beside : BreakerLaw s → r.state = .opened ∨ brkMade (brk s (otherBrk b)) = false) :
    Upholds s (putBrk s b r) := by
  have shed : (putBrk s b r).chg.shed = s.chg.shed := by cases b <;> rfl
  refine .of_breakers (calm_putBrk s b r) fun law => ⟨fun d made => ?_, fun d made => ?_, fun off => ?_⟩
  · rcases eq_or_eq_otherBrk b d with rfl | rfl
    · rw [brk_putBrk_self, unmade] at made
      cases made
    · rw [brk_putBrk_other] at made
      rw [otherBrk_otherBrk, brk_putBrk_self]
      exact (beside law).resolve_right (by rw [made]; nofun)
  · have roof : (putBrk s b r).roofState = s.roofState := calm_roofState (calm_putBrk s b r)
    rw [roof]
    rcases eq_or_eq_otherBrk b d with rfl | rfl
    · rw [brk_putBrk_self, unmade] at made
      cases made
    · exact law.ready _ (brk_putBrk_other s b r ▸ made)
  · obtain ⟨d, closed⟩ := (closedBrk_isSome_iff s).mp (law.shed (shed ▸ off))
    rcases eq_or_eq_otherBrk b d with rfl | rfl
    · exact absurd closed (open_ law)
    · exact (closedBrk_isSome_iff _).mpr ⟨_, by rw [brk_putBrk_other]; exact closed⟩

/-- A made breaker leaves CLOSING or CLOSED with SHED, and the other stands OPEN. -/
theorem upholds_unmake {s : State} {b : Brk} {r : Breaker} (made : brkMade (brk s b) = true)
    (unmade : brkMade r = false) : Upholds s (setShed (putBrk s b r)) := by
  refine .of_breakers ((calm_setShed _).trans (calm_putBrk s b r)) fun law => .of_unmade (fun d => ?_) rfl
  rw [setShed_brk]
  rcases eq_or_eq_otherBrk b d with rfl | rfl
  · rw [brk_putBrk_self, unmade]
  · rw [brk_putBrk_other]
    exact unmade_of_state (by rw [law.interlock b made]; nofun) (by rw [law.interlock b made]; nofun)

theorem upholds_setShed (s : State) : Upholds s (setShed s) :=
  .of_breakers (calm_setShed s) fun law => by
    refine ⟨fun b => ?_, fun b => ?_, nofun⟩
    · rw [setShed_brk, setShed_brk]
      exact law.interlock b
    · rw [setShed_brk]
      exact law.ready b

theorem upholds_openBrk (s : State) (b : Brk) : Upholds s (openBrk s b) :=
  .ite (fun made => upholds_unmake made rfl) fun _ => .refl s

/-- The feedback that a breaker's record holds is none of the laws' matter. -/
theorem upholds_feedback (s : State) (b : Brk) (x : Bool) :
    Upholds s (putBrk s b { brk s b with feedback := x }) := by
  cases b <;> exact .of_view rfl

/-- A close begins in READY with both breakers OPEN (Table 6-5). -/
theorem upholds_closeBrk {s : State} (both : bothOpen s = true) (ready : s.roofState = .ready) (b : Brk) :
    Upholds s (closeBrk s b) := by
  have opened : ∀ d, (brk s d).state = .opened := by
    rw [bothOpen, Bool.and_eq_true, beq_iff_eq, beq_iff_eq] at both
    exact fun d => by cases d; exacts [both.1, both.2]
  have shed : (closeBrk s b).chg.shed = s.chg.shed := by cases b <;> rfl
  refine .of_breakers (calm_closeBrk s b) fun law => ⟨fun d made => ?_, fun _ _ => ?_, fun off => ?_⟩
  · rcases eq_or_eq_otherBrk b d with rfl | rfl
    · rw [closeBrk, brk_putBrk_other, opened]
    · rw [closeBrk, brk_putBrk_other, brkMade, opened] at made
      cases made
  · exact (calm_roofState (calm_closeBrk s b)).trans ready
  · rw [shed, law.sheds fun d => by rw [opened]; nofun] at off
    cases off

theorem closeFailing_none {s : State} (h : closeFailing s = none) : bothOpen s = true ∧ s.roofState = .ready := by
  unfold closeFailing at h
  split at h
  · cases h
  · simp only [ite_eq_iff, reduceCtorEq, and_false, false_or] at h
    simp_all

/-! ### Sequences -/

theorem upholds_putSeq (s : State) (q : Sequence) : Upholds s (putSeq s q) := .of_view rfl

/-- A write of the sequencer's record beside its breakers and shed_request. -/
theorem upholds_withChg {s : State} {x : Chg} (h : (x.bka, x.bkd, x.shed) = (s.chg.bka, s.chg.bkd, s.chg.shed)) :
    Upholds s (s.withChg x) := by
  simp only [Prod.mk.injEq] at h
  obtain ⟨bka, bkd, shed⟩ := h
  exact .of_view (by simp only [lawView, State.withChg_chg, bka, bkd, shed]; rfl)

theorem upholds_logOffer (s : State) (k : FaultKind) (x : Option Ctx) : Upholds s (logOffer s k x) := .of_view rfl

theorem upholds_recompute (s : State) : Upholds s (recompute s) := by
  have computed : ∀ (o : Outlook) (b : Bool),
      Upholds s ((s.withSmp { s.smp with outlook := o, prevConflict := b }).withIce { s.ice with watch := o.iceHere }) :=
    fun _ _ => .of_view rfl
  exact .ite (fun _ => (computed _ _).trans (upholds_logOffer ..)) fun _ => computed _ _

theorem upholds_forceChanged (b : Option Sys) (s : State) : Upholds s (forceChanged b s) :=
  .ite (fun _ => upholds_recompute s) fun _ => .refl s

theorem upholds_waitTest (s : State) : Upholds s (waitTest s) := by
  unfold waitTest
  split
  · exact .refl s
  · refine .ite (fun _ => .ite (fun _ => ?_) fun _ => upholds_putSeq ..) fun _ => .refl s
    exact .ite (fun _ => upholds_putSeq ..) fun _ => (upholds_putSeq ..).trans (upholds_withChg rfl)

theorem upholds_identifyTest (s : State) : Upholds s (identifyTest s) := by
  unfold identifyTest
  split
  · exact .ite (fun _ => upholds_putSeq ..) fun _ => .refl s
  · exact .refl s

/-- Only a CLOSING stage closes a breaker, and only past the preconditions of Table 6-5 (R126). -/
theorem upholds_enterWork (st : Stage) (s : State) : Upholds s (enterWork st s) := by
  unfold enterWork
  split
  · exact .refl s
  · cases st with
    | shed => exact Upholds.trans (.ite (fun _ => upholds_putSeq ..) fun _ => .refl s) (upholds_setShed _)
    | opening => exact (upholds_openBrk ..).trans (upholds_openBrk ..)
    | lowering =>
      have lowered : ∀ u, Upholds u (lowerAllFitted u) := fun u =>
        .of_calm (calm_lowerAllFitted u) (lowerAllFitted_chg u)
      exact .ite (fun _ => (upholds_putSeq ..).trans (lowered _)) fun _ => upholds_putSeq ..
    | waitSection => exact (upholds_putSeq ..).trans (upholds_waitTest _)
    | raising => exact upholds_putSeq ..
    | identify => exact .ite (fun _ => upholds_putSeq ..) fun _ => upholds_putSeq ..
    | converter => exact .refl s
    | closing =>
      dsimp only
      split
      · exact upholds_putSeq ..
      · obtain ⟨both, ready⟩ := closeFailing_none ‹_›
        exact upholds_closeBrk both ready _
      · exact .refl s

theorem upholds_enterStage (st : Stage) (s : State) : Upholds s (enterStage st s) := by
  unfold enterStage
  split
  · exact .refl s
  · exact (upholds_putSeq ..).trans (upholds_enterWork ..)

theorem upholds_recordEnd (s : State) (x : Result) (n : Nat) : Upholds s (recordEnd s x n) := by
  unfold recordEnd
  split
  · exact .refl s
  · exact upholds_withChg rfl

theorem upholds_cancelClose (s : State) : Upholds s (cancelClose s) := by
  have first : Upholds s (if s.chg.bka.state = .closing then openBrk s .bka else s) :=
    .ite (fun _ => upholds_openBrk ..) fun _ => .refl s
  exact .ite (fun _ => first.trans (upholds_openBrk ..)) fun _ => first

theorem upholds_abortSeq (s : State) (x : Reason) : Upholds s (abortSeq s x) :=
  .ite (fun _ => (upholds_recordEnd ..).trans (upholds_cancelClose _)) fun _ => .refl s

theorem upholds_startSeq (s : State) (k : SeqKind) (o : Origin) (t : Option Sys) (a : Option Awaited) (st : Stage) :
    Upholds s (startSeq s k o t a st) := by
  have reported : ∀ u, Upholds u (startReported u) := fun u => .of_calm (calm_startReported u) (startReported_chg u)
  exact ((upholds_putSeq ..).trans (reported _)).trans (upholds_enterStage ..)

theorem upholds_automaticStart (s : State) : Upholds s (automaticStart s) := by
  refine .ite (fun _ => ?_) fun _ => .refl s
  split
  · exact upholds_startSeq ..
  · exact .refl s

theorem upholds_endSeq (s : State) (x : Result) (n : Nat) : Upholds s (endSeq s x n) :=
  .ite (fun _ => (upholds_recordEnd ..).trans (upholds_automaticStart _)) fun _ => .refl s

theorem upholds_newOutlook (s : State) : Upholds s (newOutlook s) :=
  (((upholds_recompute s).trans (upholds_waitTest _)).trans (upholds_identifyTest _)).trans (upholds_automaticStart _)

theorem upholds_leaveStage (s : State) (q : Sequence) : Upholds s (leaveStage s q) := by
  have ended : Upholds s (openingEnds s q) :=
    .ite (fun _ => Upholds.trans (t := s.withChg { s.chg with inForce := none, target := q.target }) (upholds_withChg rfl)
      (upholds_forceChanged ..)) fun _ => .refl s
  unfold leaveStage
  dsimp only
  split
  · exact ended.trans (upholds_enterStage ..)
  · exact ended.trans (upholds_endSeq ..)

theorem upholds_stageStep {s t : State} (h : stageStep s = some t) : Upholds s t := by
  unfold stageStep at h
  split at h
  · cases h
  · split at h
    · cases h; exact upholds_leaveStage ..
    · cases h; exact upholds_enterStage ..
    · cases h; exact upholds_endSeq ..
    · split at h
      · cases h; exact upholds_leaveStage ..
      · cases h

theorem upholds_progress (s : State) : Upholds s (progress s) := by
  have fuelled : ∀ n s, Upholds s (progressFuel n s) := fun n => by
    induction n with
    | zero => exact .refl
    | succ n ih =>
      intro s
      unfold progressFuel
      split
      · exact (upholds_stageStep ‹_›).trans (ih _)
      · exact .refl s
  exact fuelled _ _

theorem upholds_roofDownSeq (s : State) (x : Reason) (o : Origin) : Upholds s (roofDownSeq s x o) :=
  (upholds_abortSeq ..).trans (upholds_startSeq ..)

/-! ### Protection -/

theorem upholds_protectionOpen (s : State) (b : Brk) : Upholds s (protectionOpen s b) :=
  .ite (fun _ => upholds_openBrk ..) fun _ => (upholds_abortSeq ..).trans (upholds_startSeq ..)

theorem upholds_collectorFailed (s : State) : Upholds s (collectorFailed s) := by
  have aborted : Upholds s (failedSeq s) := by
    unfold failedSeq
    split
    · exact .ite (fun _ => .refl s) fun _ => upholds_abortSeq ..
    · exact .refl s
  rw [collectorFailed_eq]
  split
  · exact aborted.trans (upholds_protectionOpen ..)
  · exact aborted

theorem upholds_putChan (s : State) (c : Chan) (r : Channel) : Upholds s (putChan s c r) := .of_view rfl

theorem upholds_writeValve (s : State) (c : Chan) (d : Nat) : Upholds s (writeValve s c d) :=
  .of_calm (calm_writeValve s c d) (writeValve_chg s c d)

theorem upholds_failed (s : State) (x : Role) : Upholds s (failed s x) := by
  have noted : Upholds s (noteFailure s x) := .of_calm (calm_noteFailure s x) (noteFailure_chg s x)
  exact .ite (fun _ => noted.trans (upholds_collectorFailed _)) fun _ => noted

theorem upholds_failInto (s : State) (c : Chan) (x : ChanState) : Upholds s (failInto s c x) :=
  ((upholds_putChan ..).trans (upholds_writeValve ..)).trans (upholds_failed ..)

theorem upholds_dumpInService (s : State) (c : Chan) : Upholds s (dumpInService s c) := .of_view rfl

theorem upholds_protLower (s : State) (c : Chan) : Upholds s (protLower s c) := by
  unfold protLower
  split
  · exact upholds_failInto ..
  · exact upholds_failInto ..
  · exact upholds_putChan ..
  · exact upholds_dumpInService ..
  all_goals exact .refl s

theorem upholds_protLowerAll (s : State) : Upholds s (protLowerAll s) :=
  .foldl (fun s c => .ite (fun _ => upholds_protLower s c) fun _ => .refl s) _ s

/-- The roof leaves the state it is in, with no breaker made and no demand live. -/
theorem upholds_leaveRoof {s t : State} (chg : t.chg = s.chg)
    (unmade : BreakerLaw s → ∀ b, brkMade (brk s b) = false) (ended : DemandLaw s → t.cau.demand = none) :
    Upholds s t := by
  refine ⟨fun law => .of_unmade (fun b => ?_) ?_, fun law => .of_none (ended law)⟩
  · rw [brk_congr chg]
    exact unmade law b
  · rw [chg]
    exact law.sheds fun b closed => Bool.noConfusion ((brkMade_of_closed closed).symm.trans (unmade law b))

/-- SAFE_HELD is entered with no breaker made, and ends the demand (R163, R74). -/
theorem upholds_enterSafeHeld {s : State} (unmade : s.roofState ≠ .starting → ∀ b, brkMade (brk s b) = false) :
    Upholds s (enterSafeHeld s) := by
  cases roof : s.roofState with
  | starting => unfold enterSafeHeld; rw [roof]; exact .refl s
  | safeHeld => unfold enterSafeHeld; rw [roof]; exact .refl s
  | ready =>
    exact upholds_leaveRoof (enterSafeHeld_chg s) (fun _ => unmade (by rw [roof]; nofun)) fun _ =>
      (enterSafeHeld_of_ready roof).2.1
  | check =>
    have cau : (enterSafeHeld s).cau = s.cau := by unfold enterSafeHeld; rw [roof]; rfl
    exact upholds_leaveRoof (enterSafeHeld_chg s) (fun _ => unmade (by rw [roof]; nofun)) fun law =>
      cau ▸ law.notLive (by rw [roof]; nofun)

/-- ROOF SAFE opens both breakers before it holds the roof (R130, R162, R163). -/
theorem upholds_roofSafe (s : State) : Upholds s (roofSafe s) := by
  have opened : Upholds s (roofSafeSeq s) :=
    .ite (fun _ => upholds_abortSeq ..) fun _ => (upholds_abortSeq ..).trans (upholds_startSeq ..)
  refine (opened.trans (upholds_protLowerAll _)).trans (upholds_enterSafeHeld fun running b => ?_)
  rw [calm_roofState (calm_beforeSafeHeld s)] at running
  have runs := openRuns_abortThenOpen s .roofSafe
  rw [roofSafeSeq_eq running, brk_congr runs.protLowerAll.1]
  exact runs.unmade b

theorem upholds_openAction (s : State) (b : Brk) : Upholds s (openAction s b) :=
  .ite (fun _ => upholds_protectionOpen ..) fun _ => .refl s

theorem upholds_takeAction (s : State) (o : Offer) (m : Option Brk) : Upholds s (takeAction s o m) := by
  unfold takeAction
  split
  · dsimp only
    split
    · exact (upholds_protLower ..).trans (upholds_openAction ..)
    · exact upholds_protLower ..
  · exact upholds_openAction ..
  · exact upholds_endSeq ..
  · exact .ite (fun _ => upholds_protectionOpen ..) fun _ => upholds_endSeq ..
  · exact .refl s

theorem upholds_offer (s : State) (o : Offer) : Upholds s (offer s o) := by
  have acted : Upholds s (if kindEnabled (bank s.flt (kindBank o.kind)) o.kind = true
      then takeAction (logOffer s o.kind o.ctx) o (madeBrk s) else logOffer s o.kind o.ctx) :=
    .ite (fun _ => (upholds_logOffer ..).trans (upholds_takeAction ..)) fun _ => upholds_logOffer ..
  exact .ite (fun _ => acted.trans (upholds_roofSafe _)) fun _ => acted

theorem upholds_offerPlain (s : State) (k : FaultKind) : Upholds s (offerPlain s k) := upholds_offer ..
theorem upholds_offerChan (s : State) (k : FaultKind) (c : Chan) : Upholds s (offerChan s k c) := upholds_offer ..
theorem upholds_offerBrk (s : State) (k : FaultKind) (b : Brk) : Upholds s (offerBrk s k b) := upholds_offer ..
theorem upholds_offerParam (s : State) (k : FaultKind) (n : Nat) : Upholds s (offerParam s k n) := upholds_offer ..
theorem upholds_haltThenOffer (s : State) (x : Reason) (k : FaultKind) (b : Brk) :
    Upholds s (haltThenOffer s x k b) := (upholds_endSeq ..).trans (upholds_offerBrk ..)

/-- The end of an event: of its parts only the passing of stages reaches the sequencer. -/
theorem upholds_settle (b s : State) : Upholds s (settle b s) := by
  by_cases run : Running s
  · have rest : (settle b s).chg = (progress s).chg := by
      have dropped : (dropScraper (progress s)).chg = (progress s).chg := by
        unfold dropScraper
        split
        · exact lowerScraper_chg _
        · rfl
      rw [settle_of_running b run, heaterTest_chg, scraperRaise_chg, scraperTest_chg, collectorRaise_chg]
      exact dropped
    exact (upholds_progress s).trans (.of_calm ((calm_settle b s).trans (calm_progress s).symm) rest)
  · rw [settle_of_not_running b run]
    exact .refl s

end Sys2Proof.Machine
end

section
/-!
PROOFS. The effects of readings, inputs and timers keep the laws of the breakers and of the demand, block by block.
-/

namespace Sys2Proof.Machine

theorem BreakerLaw.of_chg {s t : State} (h : BreakerLaw s) (chg : t.chg = s.chg) (roof : t.roofState = s.roofState) :
    BreakerLaw t where
  interlock b := by
    rw [brk_congr chg, brk_congr chg]
    exact h.interlock b
  ready b := by
    rw [brk_congr chg, roof]
    exact h.ready b
  shed off := by
    have closed := h.shed (chg ▸ off)
    rw [closedBrk_isSome_iff] at closed ⊢
    obtain ⟨b, e⟩ := closed
    exact ⟨b, by rw [brk_congr chg]; exact e⟩

/-- What touches neither the sequencer nor the roof state, and keeps the law of the demand. -/
theorem Upholds.of_demand {s t : State} (chg : t.chg = s.chg) (roof : t.roofState = s.roofState)
    (law : DemandLaw s → DemandLaw t) : Upholds s t :=
  ⟨fun h => h.of_chg chg roof, law⟩

/-! ### The cab and the converter -/

theorem endDemand_demand (s : State) : (endDemand s).cau.demand = none := by rw [endDemand_eq]; rfl

theorem endDemand_roofState (s : State) : (endDemand s).roofState = s.roofState := by rw [endDemand_eq]; rfl

theorem roofDownRequest_demand (s : State) (x : Reason) (o : Origin) : (roofDownRequest s x o).cau.demand = none := by
  rw [roofDownRequest, calm_cau (calm_roofDownSeq _ _ _), endDemand_demand]

theorem upholds_endDemand (s : State) : Upholds s (endDemand s) :=
  .of_demand (endDemand_chg s) (endDemand_roofState s) fun _ => .of_none (endDemand_demand s)

theorem upholds_roofDownRequest (s : State) (x : Reason) (o : Origin) : Upholds s (roofDownRequest s x o) :=
  (upholds_endDemand s).trans (upholds_roofDownSeq ..)

/-- The holder of the cab goes, with a roof-down request: the demand goes too (R71, R73, R78). -/
theorem upholds_cabEnds (s : State) (v : Option Vcu) (x : Reason) (o : Origin) :
    Upholds s (roofDownRequest (setActive s v) x o) where
  breakers law := (upholds_roofDownRequest ..).breakers (law.of_chg (t := setActive s v) rfl rfl)
  demand _ := .of_none (roofDownRequest_demand ..)

theorem upholds_cabLapse (s : State) : Upholds s (cabLapse s) := by
  unfold cabLapse
  split
  · exact (upholds_offer ..).trans (upholds_cabEnds ..)
  · exact .refl s

theorem upholds_demandExpiry (s : State) : Upholds s (demandExpiry s) := by
  unfold demandExpiry
  split
  · exact upholds_roofDownRequest ..
  · exact .refl s

theorem upholds_examineConverter (s : State) : Upholds s (examineConverter s) := by
  unfold examineConverter
  split
  · exact .refl s
  · exact .ite (fun _ => upholds_offerBrk ..) fun _ => .ite (fun _ => upholds_offerBrk ..) fun _ => .refl s

/-- The converter record is none of the laws' matter. -/
theorem upholds_converter (s : State) (x : Converter) : Upholds s (s.withCau { s.cau with conv := x }) := .of_view rfl

theorem upholds_converterStale (s : State) : Upholds s (converterStale s) :=
  .ite (fun _ => (upholds_converter ..).trans (upholds_examineConverter _)) fun _ => .refl s

theorem upholds_converterRetest (s : State) : Upholds s (converterRetest s) :=
  .ite (fun _ => upholds_converter ..) fun _ => upholds_converterStale s

theorem upholds_takeReport (x : ConvState) (t : Option Sys) (s : State) : Upholds s (takeReport x t s) := by
  have reported : ∀ u, Upholds u (shedReport x u) := fun u => by
    unfold shedReport
    split
    · exact .ite (fun _ => upholds_putSeq ..) fun _ => .refl u
    · exact .refl u
  exact (((upholds_converter ..).trans (reported _)).trans (upholds_progress _)).trans (upholds_examineConverter _)

/-! ### The breakers (R105 to R110) -/

/-- A breaker that completes its close is CLOSED in READY, beside one that is OPEN, and releases SHED (R82, R105). -/
theorem upholds_closes {s : State} {b : Brk} {r : Breaker} {x : Chg} (closing : (brk s b).state = .closing)
    (closed : r.state = .closed) (chg : (x.bka, x.bkd) = ((putBrk s b r).chg.bka, (putBrk s b r).chg.bkd)) :
    Upholds s ((putBrk s b r).withChg x) := by
  have calm : calm ((putBrk s b r).withChg x) = calm s := calm_putBrk s b r
  have same : ∀ d, brk ((putBrk s b r).withChg x) d = brk (putBrk s b r) d := fun d => by
    cases d
    · exact congrArg Prod.fst chg
    · exact congrArg Prod.snd chg
  refine .of_breakers calm fun law => ?_
  have made := brkMade_of_closing closing
  have opened := law.interlock b made
  refine ⟨fun d => ?_, fun _ _ => (calm_roofState calm).trans (law.ready b made), fun _ => ?_⟩
  · rw [same, same]
    rcases eq_or_eq_otherBrk b d with rfl | rfl
    · rw [brk_putBrk_other]
      exact fun _ => opened
    · rw [brk_putBrk_other, brkMade, opened]
      nofun
  · exact (closedBrk_isSome_iff _).mpr ⟨b, by rw [same, brk_putBrk_self, closed]⟩

theorem upholds_closeCompletes {s : State} {b : Brk} (closing : (brk s b).state = .closing) :
    Upholds s (closeCompletes s b) := by
  have done := upholds_closes (s := s) (b := b)
    (r := { brk s b with state := .closed, closeCoil := false, holdCoil := true, opTime := 0 }) closing rfl
    (x := { (putBrk s b { brk s b with state := .closed, closeCoil := false, holdCoil := true, opTime := 0 }).chg with
      inForce := s.chg.target, shed := false }) rfl
  have target : ∀ r, (putBrk s b r).chg.target = s.chg.target := fun _ => by cases b <;> rfl
  rw [← target] at done
  exact (((done.trans (upholds_recordEnd ..)).trans (upholds_forceChanged ..)).trans
    (upholds_examineConverter _)).trans (upholds_automaticStart _)

theorem upholds_trips {s : State} {b : Brk} (closed : (brk s b).state = .closed) : Upholds s (trips s b) :=
  (upholds_unmake (brkMade_of_closed closed) rfl).trans (upholds_offerBrk ..)

/-- An uncommanded closure leaves no breaker made: the other is opened, if it was (Table 6-2). -/
theorem upholds_closesUncommanded {s : State} {b : Brk} (open_ : (brk s b).state = .opened) :
    Upholds s (closesUncommanded s b) := by
  refine Upholds.trans ?_ (upholds_offerBrk ..)
  have failed := brk_putBrk_self s b (restBrk (brk s b) .failed)
  by_cases made : brkMade (brk s (otherBrk b)) = true
  · refine .of_breakers ((calm_openBrk _ _).trans (calm_putBrk ..)) fun law => .of_unmade (fun d => ?_) ?_
    · rcases eq_or_eq_otherBrk b d with rfl | rfl
      · rw [openBrk_eq_opened, if_neg (otherBrk_ne d).symm, failed]
        rfl
      · exact openBrk_open ..
    · rw [openBrk, brk_putBrk_other, if_pos made]
      rfl
  · exact (upholds_putBrk rfl (fun _ => by rw [open_]; nofun) fun _ => .inr (by simpa using made)).trans
      (upholds_openBrk ..)

theorem upholds_feedbackTaken (s : State) (b : Brk) (closed : Bool) : Upholds s (feedbackTaken s b closed) := by
  have opens : (brk s b).state ≠ .closed → Upholds s (putBrk s b (restBrk (brk s b) .opened)) := fun not =>
    upholds_putBrk rfl (fun _ => not) fun _ => .inl rfl
  unfold feedbackTaken
  split
  · exact upholds_closeCompletes ‹_›
  · exact upholds_trips ‹_›
  · exact upholds_closesUncommanded ‹_›
  · exact opens (by simp [*])
  · exact opens (by simp [*])
  all_goals exact .refl s

theorem brkMade_reset (closed : Bool) : brkMade (Breaker.reset closed) = false := by cases closed <;> rfl

/-- During STARTING no breaker is made, and none becomes so (R110). -/
theorem upholds_putBrk_starting {s : State} (start : s.roofState = .starting) {b : Brk} {r : Breaker}
    (unmade : brkMade r = false) : Upholds s (putBrk s b r) := by
  have none : BreakerLaw s → ∀ d, brkMade (brk s d) = false := fun law => law.unmade (by rw [start]; nofun)
  exact upholds_putBrk unmade (fun law closed => by
    have := none law b
    rw [brkMade_of_closed closed] at this
    cases this) fun law => .inr (none law _)

theorem upholds_feedbackChange (b : Brk) (closed : Bool) (s : State) : Upholds s (feedbackChange b closed s) :=
  .ite (fun _ => .refl s) fun _ => .ite (fun start => upholds_putBrk_starting start (brkMade_reset closed)) fun _ =>
    (upholds_feedback ..).trans (upholds_feedbackTaken ..)

theorem upholds_closeExpiry (b : Brk) (closed : Bool) (s : State) : Upholds s (closeExpiry b closed s) := by
  refine .ite (fun due => ?_) fun _ => .refl s
  simp only [closeDue, Bool.and_eq_true, beq_iff_eq] at due
  obtain ⟨closing, -⟩ := due
  refine Upholds.trans (upholds_putBrk (by cases closed <;> rfl) (fun _ => by rw [closing]; nofun) fun law => .inr ?_)
    (upholds_haltThenOffer ..)
  exact law.other_unmade (by rw [closing]; nofun)

theorem upholds_openExpiry (b : Brk) (closed : Bool) (s : State) : Upholds s (openExpiry b closed s) := by
  refine .ite (fun due => ?_) fun _ => .refl s
  simp only [openDue, Bool.and_eq_true, beq_iff_eq] at due
  obtain ⟨⟨opening, -⟩, -⟩ := due
  have stands : ∀ x, x ≠ BrkState.closed → x ≠ .closing → Upholds s (putBrk s b (restBrk (brk s b) x)) :=
    fun x h g => upholds_putBrk (unmade_of_state h g) (fun _ => by rw [opening]; nofun) fun law =>
      .inr (law.other_unmade (by rw [opening]; nofun))
  exact .ite (fun _ => (stands .failed nofun nofun).trans (upholds_offerBrk ..)) fun _ => stands .opened nofun nofun

theorem upholds_shedExpiry (s : State) : Upholds s (shedExpiry s) := by
  unfold shedExpiry
  split
  · exact .ite (fun _ => (upholds_offer ..).trans (upholds_putSeq ..)) fun _ => .refl s
  · exact .refl s

theorem upholds_deadRunExpiry (s : State) : Upholds s (deadRunExpiry s) := by
  unfold deadRunExpiry
  split
  · exact .ite (fun _ => upholds_offer ..) fun _ => .refl s
  · exact .refl s

theorem upholds_identifyExpiry (s : State) : Upholds s (identifyExpiry s) := by
  unfold identifyExpiry
  split
  · exact .ite (fun _ => upholds_offer ..) fun _ => .refl s
  · exact .refl s

theorem upholds_converterExpiry (s : State) : Upholds s (converterExpiry s) := by
  unfold converterExpiry
  split
  · exact .ite (fun _ => (upholds_putSeq ..).trans (upholds_offer ..)) fun _ => .refl s
  · exact .refl s

/-! ### The identifier -/

theorem upholds_withLsi (s : State) (x : Lsi) : Upholds s (s.withLsi x) := .of_view rfl

theorem upholds_takeSample (x : Int) (s : State) : Upholds s (takeSample x s) :=
  .ite (fun _ => .refl s) fun _ => .ite (fun _ => upholds_withLsi ..) fun _ => upholds_withLsi ..

theorem upholds_decideCheck (k : LineClass) (s : State) : Upholds s (decideCheck k s) := by
  unfold decideCheck
  split
  · exact .ite (fun _ => .ite (fun _ => upholds_withLsi ..) fun _ =>
      (upholds_withLsi ..).trans (upholds_offerPlain ..)) fun _ => .refl s
  · exact .refl s

theorem upholds_examineLine (k : LineClass) (s : State) : Upholds s (examineLine k s) := by
  unfold examineLine
  split
  · exact .refl s
  · split
    · exact upholds_offerBrk ..
    · exact upholds_offerBrk ..
    · exact .ite (fun _ => .refl s) fun _ => upholds_offerBrk ..

theorem upholds_identifyResult (k : LineClass) (s : State) : Upholds s (identifyResult k s) := by
  unfold identifyResult
  split
  · exact .refl s
  · split
    · split
      · exact .refl s
      · exact upholds_haltThenOffer ..
      · exact .ite (fun _ => upholds_putSeq ..) fun _ => upholds_offerBrk ..
    · exact .refl s

theorem upholds_handResult (k : LineClass) (s : State) : Upholds s (handResult k s) :=
  ((upholds_decideCheck ..).trans (upholds_examineLine ..)).trans (upholds_identifyResult ..)

theorem upholds_publishWindow (s : State) : Upholds s (publishWindow s) := by
  have shown : ∀ w m, Upholds s (published s w m) := fun w m =>
    .ite (fun _ => (upholds_withLsi ..).trans (upholds_offer ..)) fun _ => upholds_withLsi ..
  cases hw : s.lsi.evaluating with
  | none =>
    unfold publishWindow
    rw [hw]
    exact .refl s
  | some w =>
    by_cases enough : runRequirement s (windowRecord s w).cls
        ≤ nextRun s.lsi.candidate s.lsi.runCount (windowRecord s w).cls
    · rw [publishWindow_qualified hw enough]
      exact (shown _ _).trans (upholds_handResult ..)
    · rw [publishWindow_unqualified hw (Nat.lt_of_not_le enough)]
      exact shown _ _

/-! ### The channels (R25 to R37) -/

theorem upholds_withIce (s : State) (x : Ice) : Upholds s (s.withIce x) := .of_view rfl

theorem upholds_testStrip (s : State) (c : Chan) : Upholds s (testStrip s c) :=
  .of_calm (calm_testStrip s c) (testStrip_chg s c)

theorem upholds_storeForce (c : Chan) (f : Int) (s : State) : Upholds s (storeForce c f s) :=
  .ite (fun _ => (upholds_putChan ..).trans (upholds_offerChan ..)) fun _ => upholds_putChan ..

theorem upholds_storeHeight (c : Chan) (h : Int) (s : State) : Upholds s (storeHeight c h s) :=
  .ite (fun _ => upholds_putChan ..) fun _ => upholds_putChan ..

theorem upholds_storeStrip (c : Chan) (t : Int) (s : State) : Upholds s (storeStrip c t s) :=
  (upholds_withIce ..).trans (upholds_testStrip ..)

theorem upholds_failLower (s : State) (c : Chan) : Upholds s (failLower s c) :=
  ((upholds_putChan ..).trans (upholds_writeValve ..)).trans (upholds_failed ..)

theorem upholds_noWire (s : State) (c : Chan) : Upholds s (noWire s c) :=
  (upholds_failLower ..).trans (upholds_offerChan ..)

theorem upholds_arcEvent (c : Chan) (s : State) : Upholds s (arcEvent c s) := by
  have offered : Upholds s (offerChan (putChan s c { chan s c with arcArmed := false }) .arc c) :=
    (upholds_putChan ..).trans (upholds_offerChan ..)
  exact .ite (fun _ => offered.trans (upholds_withIce ..)) fun _ => offered

theorem upholds_readContact (c : Chan) (s : State) : Upholds s (readContact c s) := by
  have counted : ∀ low, Upholds s (countLowForce c low s) := fun _ => upholds_putChan ..
  have read : ∀ low, Upholds s (readArc c low s) := fun low =>
    .ite (fun _ => (counted low).trans (upholds_arcEvent ..)) fun _ =>
      .ite (fun _ => (counted low).trans (upholds_putChan ..)) fun _ => counted low
  rw [readContact_eq]
  exact .ite (fun _ => (read _).trans (upholds_noWire ..)) fun _ => read _

theorem upholds_reachRest (s : State) (c : Chan) : Upholds s (reachRest s c) := by
  have rests : ∀ r x, Upholds s (giveRole (putChan s c r) c x) := fun _ _ => .of_view rfl
  unfold reachRest
  dsimp only
  split
  · exact rests ..
  · exact rests ..
  · exact .ite (fun _ => rests ..) fun _ => rests ..
  all_goals exact .refl s

theorem upholds_readTransitions (c : Chan) (h : Int) (s : State) : Upholds s (readTransitions c h s) := by
  have rested : ∀ p : Prop, [Decidable p] → Upholds s (if p then reachRest s c else s) := fun _ =>
    .ite (fun _ => upholds_reachRest ..) fun _ => .refl s
  unfold readTransitions
  split
  · exact .ite (fun _ => upholds_putChan ..) fun _ => .ite (fun _ => upholds_noWire ..) fun _ => .refl s
  · exact upholds_readContact ..
  · exact rested _
  · exact rested _
  · exact rested _
  all_goals exact .refl s

theorem upholds_takeReading (c : Chan) (h f t : Int) (s : State) : Upholds s (takeReading c h f t s) := by
  have stored : Upholds s (storeStrip c t (storeHeight c h (storeForce c f s))) :=
    ((upholds_storeForce ..).trans (upholds_storeHeight ..)).trans (upholds_storeStrip ..)
  exact .ite (fun _ => stored) fun _ => stored.trans (upholds_readTransitions ..)

theorem upholds_heightSensor (c : Chan) (s : State) : Upholds s (heightSensor c s) := by
  have fails : ∀ u, Upholds u (heightFails u c) := fun u => by
    unfold heightFails
    dsimp only
    split
    · exact upholds_failInto ..
    · exact upholds_failInto ..
    · exact upholds_putChan ..
    · exact upholds_putChan ..
    · exact upholds_putChan ..
    · exact upholds_putChan ..
    · exact .refl u
    · exact upholds_dumpInService ..
  exact .ite (fun _ => .ite (fun _ => ((upholds_putChan ..).trans (fails _)).trans (upholds_offerChan ..)) fun _ =>
    upholds_putChan ..) fun _ => .refl s

theorem upholds_headLost {s t : State} {c : Chan} (h : headLost s c = some t) : Upholds s t := by
  unfold headLost at h
  dsimp only at h
  split at h <;> cases h
  · exact upholds_failInto ..
  · exact upholds_failInto ..
  · exact upholds_putChan ..
  · exact upholds_putChan ..
  · exact .refl s
  · exact upholds_dumpInService ..

theorem upholds_headokLost (c : Chan) (s : State) : Upholds s (headokLost c s) := by
  refine .ite (fun _ => .ite (fun _ => upholds_putChan ..) fun _ => ?_) fun _ => .refl s
  split
  · exact ((upholds_putChan ..).trans (upholds_headLost ‹_›)).trans (upholds_offer ..)
  · exact upholds_putChan ..

theorem upholds_raiseTimeout (c : Chan) (s : State) : Upholds s (raiseTimeout c s) :=
  .ite (fun _ => (upholds_failLower ..).trans (upholds_offerChan ..)) fun _ => .refl s

theorem upholds_contactLoss (c : Chan) (s : State) : Upholds s (contactLoss c s) :=
  .ite (fun _ => upholds_noWire ..) fun _ => .refl s

theorem upholds_lowerTimeout (c : Chan) (s : State) : Upholds s (lowerTimeout c s) :=
  .ite (fun _ => (upholds_putChan ..).trans (upholds_offerChan ..)) fun _ => .refl s

theorem upholds_forceLoop (s : State) (c : Chan) : Upholds s (forceLoop s c) := by
  unfold forceLoop
  dsimp only
  split
  · exact (upholds_writeValve ..).trans (upholds_putChan ..)
  · exact upholds_writeValve ..
  all_goals exact .refl s

/-! ### Outputs and ICE -/

theorem upholds_putOut (s : State) (x : Output) (o : Out) : Upholds s (putOut s x o) := by cases x <;> exact .of_view rfl

theorem upholds_returnAll (s : State) : Upholds s (returnAll s) := .of_view rfl

theorem upholds_serviceLapse (s : State) : Upholds s (serviceLapse s) := by
  have lapsed : Upholds s (s.withCau { s.cau with serviceLapsed := true }) := .of_view rfl
  exact .ite (fun _ => (lapsed.trans (upholds_offer ..)).trans (upholds_returnAll _)) fun _ => .refl s

theorem leaveService_chg (s : State) (c : Chan) : (leaveService s c).chg = s.chg := by
  unfold leaveService stateFromReadings
  split
  · rw [writeValve_chg, putChan_chg]
  · rfl

theorem upholds_takeEnds (o : Output) (s : State) : Upholds s (takeEnds o s) := by
  refine .ite (fun _ => upholds_putOut ..) fun _ => ?_
  cases o with
  | valve c => exact .ite (fun _ => (upholds_putOut ..).trans (upholds_putChan ..)) fun _ => upholds_putOut ..
  | zone z => exact upholds_putOut ..

theorem upholds_returnEnds (o : Output) (s : State) : Upholds s (returnEnds o s) := by
  cases o with
  | valve c => exact (upholds_putOut ..).trans (.of_calm (calm_leaveService _ c) (leaveService_chg _ c))
  | zone z => exact .of_view rfl

theorem upholds_safePeriodEnd (o : Output) (s : State) : Upholds s (safePeriodEnd o s) := by
  refine .ite (fun _ => ?_) fun _ => .refl s
  split
  · exact .refl s
  · exact upholds_takeEnds o s
  · exact upholds_returnEnds o s

theorem upholds_ambientReading (t : Int) (s : State) : Upholds s (ambientReading t s) :=
  .ite (fun _ => upholds_withIce ..) fun _ =>
    .ite (fun _ => (upholds_withIce ..).trans (upholds_offerPlain ..)) fun _ => .refl s

theorem upholds_auxokLost (s : State) : Upholds s (auxokLost s) := by
  have lost : Upholds s (mapZones (s.withRos { s.ros with auxok := false }) cut) := .of_view rfl
  exact .ite (fun _ => .ite (fun _ => lost) fun _ => (lost.trans (upholds_withIce ..)).trans (upholds_offerPlain ..))
    fun _ => .refl s

theorem upholds_auxokReturn (s : State) : Upholds s (auxokReturn s) := .ite (fun _ => .of_view rfl) fun _ => .of_view rfl

theorem upholds_slotExpiry (s : State) : Upholds s (slotExpiry s) := by
  have view : lawView (heaterBlind (slotStart s)) = lawView (heaterBlind s) := congrArg lawView (slotStart_blind s)
  exact .ite (fun _ => .of_view view) fun _ => .refl s

theorem upholds_withPst (s : State) (p : Pst) : Upholds s (s.withPst p) := .of_view rfl

theorem upholds_winterApply (s : State) : Upholds s (winterApply s) := by
  unfold winterApply
  split
  · refine .ite (fun _ => ?_) fun _ => .refl s
    split
    · exact (upholds_withPst ..).trans (upholds_offerPlain ..)
    · exact upholds_withPst ..
  · exact upholds_withPst ..
  · exact upholds_withPst ..
  all_goals exact .refl s

theorem upholds_winterRemove (s : State) : Upholds s (winterRemove s) := by
  unfold winterRemove
  split
  · exact upholds_withPst ..
  · exact upholds_withPst ..
  · exact upholds_withPst ..
  all_goals exact .refl s

theorem upholds_iceUpdate (s : State) : Upholds s (iceUpdate s) := by
  refine .ite (fun _ => .refl s) fun _ => (upholds_withIce s _).trans (.ite (fun _ => .refl _) fun _ => ?_)
  split
  · exact (upholds_withIce ..).trans (upholds_winterApply _)
  · exact (upholds_withIce ..).trans (upholds_winterRemove _)
  · exact .refl _

/-! ### The position (R95 to R97) -/

theorem upholds_withSmp (s : State) (x : Smp) : Upholds s (s.withSmp x) := .of_view rfl

theorem upholds_takePosition (p track : Nat) (minus : Bool) (v : Nat) (s : State) :
    Upholds s (takePosition p track minus v s) := by
  have offered : Upholds s (if jumps s p then offer s ⟨.positionJump, some (.position p), false⟩ else s) :=
    .ite (fun _ => upholds_offer ..) fun _ => .refl s
  exact (offered.trans (upholds_withSmp ..)).trans (upholds_newOutlook _)

theorem upholds_odometerPulse (s : State) : Upholds s (odometerPulse s) :=
  .ite (fun _ => .ite (fun _ => (upholds_withSmp ..).trans (upholds_newOutlook _)) fun _ => upholds_withSmp ..)
    fun _ => .refl s

theorem upholds_positionLapse (s : State) : Upholds s (positionLapse s) :=
  .ite (fun _ => ((upholds_withSmp ..).trans (upholds_offer ..)).trans (upholds_newOutlook _)) fun _ => .refl s

end Sys2Proof.Machine
end

section
/-!
PROOFS. The profile store and the resets keep the laws of the breakers and of the demand: during STARTING no breaker is
made and no demand is live, and the load leaves STARTING so.
-/

namespace Sys2Proof.Machine

/-! ### The winter overlay and the layers (R47, R183, R185, R186) -/

theorem upholds_takeRecords (carries : Nat → Bool) (rs : List (List Byte)) (s : State) (l : Layer) :
    Upholds s (takeRecords carries s l rs).1 := by
  induction rs generalizing s l with
  | nil => exact .refl s
  | cons r rs ih =>
    unfold takeRecords
    split
    · exact ih ..
    · exact (upholds_offerParam ..).trans (ih ..)

theorem upholds_winterTake (bs : List Byte) (s : State) : Upholds s (winterTake bs s).1 :=
  Upholds.trans (.ite (fun _ => (upholds_withPst ..).trans (upholds_offerPlain ..)) fun _ => upholds_withPst ..)
    (upholds_takeRecords ..)

theorem upholds_winterReadEnd (bs : List Byte) (s : State) : Upholds s (winterReadEnd bs s) := by
  refine .ite (fun _ => ?_) fun _ => .refl s
  split
  · exact (upholds_winterTake bs s).trans (upholds_withPst ..)
  · exact (upholds_winterTake bs s).trans (upholds_withPst ..)
  all_goals exact .refl s

theorem upholds_winterRead (r : ReadResult) (s : State) : Upholds s (winterRead r s) := by
  unfold winterRead
  split
  · exact .refl s
  · exact upholds_winterReadEnd ..
  · unfold winterReadFail
    split
    · exact (upholds_withPst ..).trans (upholds_offerPlain ..)
    · exact upholds_withPst ..
    all_goals exact .refl s

theorem upholds_initialState (s : State) (c : Chan) : Upholds s (initialState s c) :=
  .of_calm (calm_initialState s c) (initialState_chg s c)

theorem upholds_retargetAll (s : State) : Upholds s (retargetAll s) := .of_calm (calm_retargetAll s) (retargetAll_chg s)

theorem upholds_testAllStrips (s : State) : Upholds s (testAllStrips s) :=
  .of_calm (calm_testAllStrips s) (testAllStrips_chg s)

theorem upholds_classChanged (b s : State) (c : Chan) : Upholds s (classChanged b s c) := by
  refine .ite (fun _ => .refl s) fun _ => Upholds.trans ?_ (upholds_putChan ..)
  refine .ite (fun _ => upholds_putChan ..) fun _ => .ite (fun _ => .ite (fun _ => ?_) fun _ => ?_) fun _ => .refl s
  · exact upholds_initialState s c
  · exact (upholds_initialState s c).trans (upholds_offerChan ..)

theorem upholds_applyChange (b s : State) : Upholds s (applyChange b s) := by
  have rest : ∀ u, Upholds u (applyRest b u) := fun u => by
    have forced : Upholds u (if forceParams.any (effChanged b u) then retargetAll u else u) :=
      .ite (fun _ => upholds_retargetAll u) fun _ => .refl u
    exact .ite (fun _ => forced.trans (upholds_testAllStrips _)) fun _ => forced
  rw [applyChange_eq]
  exact (Upholds.foldl (upholds_classChanged b) _ s).trans (rest _)

theorem upholds_winterPeriod (s : State) : Upholds s (winterPeriod s) := by
  have checked : ∀ u g, Upholds u (winterCheck u g) := fun u g => by
    unfold winterCheck
    split
    · exact .refl u
    · exact (upholds_withPst ..).trans (upholds_offerParam ..)
  unfold winterPeriod
  split
  · exact ((Upholds.foldl checked _ s).trans (upholds_withPst ..)).trans (upholds_applyChange ..)
  · exact (upholds_withPst ..).trans (upholds_applyChange ..)
  all_goals exact .refl s

theorem upholds_forcePeriod (s : State) : Upholds s (forcePeriod s) :=
  .ite (fun _ => .refl s) fun _ =>
    ((upholds_retargetAll s).trans (.foldl upholds_forceLoop _ _)).trans (upholds_winterPeriod _)

theorem upholds_generalEffects (n : Nat) (s : State) : Upholds s (generalEffects n s) :=
  .ite (fun _ => upholds_demandExpiry s) fun _ => .ite (fun _ => upholds_cabLapse s) fun _ =>
    .ite (fun _ => upholds_converterRetest s) fun _ => .ite (fun _ => upholds_positionLapse s) fun _ =>
      .ite (fun _ => upholds_newOutlook s) fun _ => .refl s

theorem upholds_takeSet (n : Nat) (v : Int) (s : State) : Upholds s (takeSet n v s) := by
  have written : Upholds s (setWritten n v s) :=
    .ite (fun _ => (upholds_withPst ..).trans (upholds_withLsi ..)) fun _ => upholds_withPst ..
  rw [takeSet_eq]
  exact .ite (fun _ => (written.trans (upholds_applyChange ..)).trans (upholds_generalEffects ..)) fun _ => written

/-! ### The end of STARTING (R110, R179) -/

theorem starting_of_eases {s t : State} (h : Eases s t) (start : s.roofState = .starting) : t.roofState = .starting :=
  h.toLulls.starting.mpr start

theorem upholds_startBrk {s : State} (start : s.roofState = .starting) (b : Brk) : Upholds s (startBrk s b) :=
  .ite (fun _ => (upholds_putBrk_starting start rfl).trans (upholds_offerBrk ..)) fun _ =>
    upholds_putBrk_starting start rfl

theorem upholds_startBlocks {s : State} (start : s.roofState = .starting) : Upholds s (startBlocks s) := by
  have channels : ∀ u, Upholds u (startChannels u) := fun u => .of_calm (calm_startChannels u) (startChannels_chg u)
  have drops : ∀ u, Upholds u (offerDrops u) := fun u => .foldl (fun s c => upholds_offerChan s _ c) _ u
  have both : ∀ u : State, u.roofState = .starting → Upholds u (startBrk (startBrk u .bka) .bkd) := fun u h =>
    (upholds_startBrk h .bka).trans (upholds_startBrk (starting_of_eases (eases_startBrk ..) h) .bkd)
  exact (((upholds_withPst ..).trans (both _ (by exact start))).trans (drops _)).trans (channels _)

/-- The roof leaves STARTING with no breaker made and no demand live. -/
theorem upholds_startEnds {s : State} (start : s.roofState = .starting) : Upholds s (startEnds s) := by
  have still : s.roofState ≠ .ready := by rw [start]; nofun
  exact upholds_leaveRoof rfl (fun law => law.unmade still) fun law => law.notLive still

theorem upholds_endStarting {s : State} (start : s.roofState = .starting) : Upholds s (endStarting s) := by
  rw [endStarting_eq]
  exact (upholds_startBlocks start).trans (upholds_startEnds ((lulls_startBlocks s).starting.mpr start))

/-! ### The load (R174 to R178) -/

theorem upholds_fallBack {s : State} (start : s.roofState = .starting) (x : DefaultsReason) : Upholds s (fallBack s x) :=
  (upholds_withPst ..).trans (upholds_endStarting (by exact start))

theorem upholds_finishLoad {s : State} (start : s.roofState = .starting) : Upholds s (finishLoad s) := by
  have reverted : ∀ (gs : List Group) (u : State), u.roofState = .starting →
      Upholds u (gs.foldl revertGroup u) ∧ (gs.foldl revertGroup u).roofState = .starting := fun gs => by
    induction gs with
    | nil => exact fun u h => ⟨.refl u, h⟩
    | cons g gs ih =>
      intro u h
      have first : Upholds u (revertGroup u g) := by
        unfold revertGroup
        split
        · exact .refl u
        · exact (upholds_withPst ..).trans (upholds_offerParam ..)
      obtain ⟨rest, ends⟩ := ih _ (starting_of_eases (eases_revertGroup h g) h)
      exact ⟨first.trans rest, ends⟩
  obtain ⟨all, ends⟩ := reverted checkedGroups s start
  exact all.trans (upholds_endStarting ends)

theorem upholds_advanceLoad (gs : List Segment) {s : State} (start : s.roofState = .starting) :
    Upholds s (advanceLoad s gs) := by
  induction gs generalizing s with
  | nil => exact upholds_finishLoad start
  | cons g rest ih =>
    unfold advanceLoad
    split
    · refine ((upholds_withPst ..).trans (upholds_offerPlain ..)).trans (ih ?_)
      exact starting_of_eases (eases_offerPlain ..) (by exact start)
    · exact upholds_withPst ..

theorem upholds_headerRead (r : ReadResult) (s : State) : Upholds s (headerRead r s) := by
  refine .ite (fun loading => ?_) fun _ => .refl s
  have falls : ∀ k x, Upholds s (fallBack (offerPlain s k) x) := fun k _ =>
    (upholds_offerPlain s k).trans (upholds_fallBack (starting_of_eases (eases_offerPlain s k) loading.1) _)
  split
  · exact .refl s
  · exact falls ..
  · exact .ite (fun _ => (upholds_withPst ..).trans (upholds_advanceLoad _ (by exact loading.1))) fun _ => falls ..

theorem upholds_takeFixed (s : State) (bs : List Byte) : Upholds s (takeFixed s bs) := by
  unfold takeFixed
  dsimp only
  split
  · exact upholds_offer ..
  · exact .ite (fun _ => upholds_offer ..) fun _ => .ite (fun _ => upholds_offer ..) fun _ => upholds_withSmp ..

theorem upholds_takeSegment (g : Segment) (bs : List Byte) (s : State) : Upholds s (takeSegment g bs s) := by
  have marked : ∀ x, Upholds s (if x = SegLoad.part then offerPlain (s.withPst (setSeg s.pst g x)) .segmentInvalid
      else s.withPst (setSeg s.pst g x)) :=
    fun _ => .ite (fun _ => (upholds_withPst ..).trans (upholds_offerPlain ..)) fun _ => upholds_withPst ..
  exact .ite (fun _ => (marked _).trans (.foldl upholds_takeFixed _ _)) fun _ =>
    ((marked _).trans (upholds_takeRecords ..)).trans (upholds_withPst ..)

theorem upholds_loadNoAnswer {s : State} (start : s.roofState = .starting) : Upholds s (loadNoAnswer s) := by
  have offered := starting_of_eases (eases_offerPlain s .eepromNoAnswer) start
  exact (((upholds_offerPlain ..).trans (upholds_withPst ..)).trans (upholds_withSmp ..)).trans
    (upholds_fallBack (by exact offered) _)

theorem upholds_segmentRead (r : ReadResult) {s : State} (live : s.held = false) : Upholds s (segmentRead r s) := by
  unfold segmentRead
  split
  · refine .ite (fun _ => ?_) fun _ => .refl s
    rename_i g rest bs at_ _
    have load : Loading s := ⟨live, loading_starting at_⟩
    exact (upholds_takeSegment g bs s).trans
      (upholds_advanceLoad _ (load.of_lulls (eases_takeSegment g bs load).toLulls).starting)
  · exact upholds_loadNoAnswer (loading_starting ‹_›)
  · exact .refl s
  · exact .refl s

/-! ### Resets (R171, R187) -/

/-- A held reset leaves no breaker made, sheds, and has no demand. -/
theorem upholds_holdReset (f : Flt) (s : State) : Upholds s (holdReset f s) where
  breakers _ := .of_unmade (fun b => by rw [holdReset_brk]; exact brkMade_reset _) rfl
  demand _ := .of_none rfl

theorem upholds_releaseReset (straps : BitVec 5) {s : State} (start : s.roofState = .starting) :
    Upholds s (releaseReset straps s) := by
  have first : Upholds s (releaseStart straps s) := .of_demand rfl start.symm fun law => law.of_cau rfl start.symm
  rw [releaseReset_eq]
  exact first.trans (.ite (fun _ => upholds_withPst ..) fun _ => upholds_fallBack rfl _)

theorem upholds_softResetAct (straps : BitVec 5) (s : State) : Upholds s (softResetAct straps s) :=
  .ite (fun _ => (upholds_holdReset ..).trans (upholds_releaseReset straps rfl)) fun _ => .refl s

end Sys2Proof.Machine
end

section
/-!
PROOFS. The requests, the link, every command and every step keep the laws of the breakers and of the demand, and that of
a held reset (O53, O54).
-/

namespace Sys2Proof.Machine

/-- A request's own rule, where it decides between two answers. -/
theorem Upholds.answerIte {s : State} {p : Prop} [Decidable p] {a b : State × Reply} (h : p → Upholds s a.1)
    (g : ¬ p → Upholds s b.1) : Upholds s (if p then a else b).1 := by
  split
  · exact h ‹_›
  · exact g ‹_›

/-! ### The requests of the cab -/

/-- A cab that nobody holds has no demand (R74): whoever takes it finds none (R70). -/
theorem upholds_takesFreeCab {s : State} (free : s.cau.active = none) (v : Option Vcu) : Upholds s (setActive s v) := by
  refine .of_demand rfl rfl fun law d e => ?_
  have holder := (law d e).2
  rw [free] at holder
  cases holder

theorem upholds_cabTake (st : Station) (s : State) : Upholds s (cabTake st s).1 := by
  unfold cabTake
  split
  · exact upholds_takesFreeCab ‹_› _
  · exact .answerIte (fun _ => .refl s) fun _ => .refl s

/-- A live demand passes to the new holder (R72). -/
theorem upholds_cabPass (s : State) : Upholds s (cabPass s).1 := by
  unfold cabPass
  split
  · refine .of_demand rfl rfl fun law d e => ?_
    obtain ⟨live, demand, rfl⟩ := Option.map_eq_some_iff.mp e
    exact ⟨(law live demand).1, rfl⟩
  · exact .refl s

/-- A demand is made for the active VCU, in READY (R74, R75). -/
theorem upholds_refreshDemand {s : State} (ready : s.roofState = .ready) : Upholds s (refreshDemand s) := by
  unfold refreshDemand
  split
  · rename_i live
    refine .of_demand rfl rfl fun law d e => ?_
    cases e
    exact (law _ live :)
  · rename_i active
    refine .of_demand rfl rfl fun law d e => ?_
    cases e
    exact ⟨ready, active⟩
  · exact .refl s

theorem upholds_roofUpChoice {s : State} (ready : s.roofState = .ready) (t : Sys) (p : Option Chan) :
    Upholds s (roofUpChoice s t p).1 := by
  have wished : ∀ q, Upholds s (setPreferred (refreshDemand s) q) := fun q =>
    (upholds_refreshDemand ready).trans (.of_view rfl)
  refine .answerIte (fun _ => upholds_refreshDemand ready) fun _ => ?_
  split
  · exact .answerIte (fun _ => .refl s) fun _ => .answerIte (fun _ => .refl s) fun _ => .answerIte (fun _ => .refl s)
      fun _ => wished _
  · exact .answerIte (fun _ => .refl s) fun _ => wished _

/-- A request of Table 4-1 that is taken in neither STARTING nor CHECK. -/
theorem running_of_open {k : ReqKind} {st : Station} {s : State} (taken : refusal k st s = none)
    (running : k ≠ .statusRead) (checks : takenInCheck k = false) :
    s.roofState ≠ .starting ∧ s.roofState ≠ .check := by
  simp only [refusal, ite_eq_iff, reduceCtorEq, and_false, false_or] at taken
  exact ⟨fun e => taken.2.1 ⟨e, running⟩, fun e => taken.2.2.1 ⟨e, checks⟩⟩

theorem upholds_roofUp {st : Station} {s : State} (taken : refusal .roofUp st s = none) (p : List Byte) :
    Upholds s (roofUp p s).1 := by
  obtain ⟨started, unchecked⟩ := running_of_open taken nofun rfl
  refine .answerIte (fun _ => .refl s) fun free => .answerIte (fun _ => .refl s) fun _ =>
    .answerIte (fun _ => .refl s) fun _ => ?_
  have ready : s.roofState = .ready := by
    cases e : s.roofState <;> simp_all
  split
  · exact .refl s
  · exact .answerIte (fun _ => .refl s) fun _ => upholds_roofUpChoice ready _ _

/-! ### The requests of the breakers and of the map -/

theorem upholds_selectSystem (st : Station) (t : Sys) (s : State) : Upholds s (selectSystem st t s).1 := by
  have retargeted : ∀ q, Upholds s (retargetSeq s q t) := fun q =>
    .ite (fun _ => (upholds_putSeq ..).trans (upholds_withChg rfl)) fun _ => upholds_putSeq ..
  unfold selectSystem
  split
  · exact .answerIte (fun _ => .refl s) fun _ => .answerIte (fun _ => retargeted _) fun _ => .refl s
  · exact .answerIte (fun _ => .refl s) fun _ =>
      .answerIte (fun _ => upholds_withChg rfl) fun _ => upholds_startSeq ..

theorem upholds_systemSelect (st : Station) (p : List Byte) (s : State) : Upholds s (systemSelect st p s).1 := by
  unfold systemSelect
  split
  · exact .refl s
  · exact .answerIte (fun _ => .refl s) fun _ => upholds_selectSystem ..

theorem upholds_breakerClose (st : Station) (s : State) : Upholds s (breakerClose st s).1 := by
  refine .answerIte (fun _ => .refl s) fun _ => .answerIte (fun _ => .refl s) fun _ =>
    .answerIte (fun _ => .refl s) fun _ => ?_
  split
  · exact .refl s
  · refine .answerIte (fun _ => .refl s) fun _ => ?_
    split
    · exact .refl s
    · exact upholds_startSeq ..

theorem upholds_breakerOpen (st : Station) (s : State) : Upholds s (breakerOpen st s).1 :=
  .answerIte (fun _ => .refl s) fun _ => (upholds_abortSeq ..).trans (upholds_startSeq ..)

theorem upholds_table (s : State) (t : List Entry) : Upholds s (newOutlook (s.withSmp { s.smp with table := t })) :=
  (upholds_withSmp ..).trans (upholds_newOutlook _)

theorem upholds_sectionLoad (p : List Byte) (s : State) : Upholds s (sectionLoad p s).1 := by
  refine .answerIte (fun _ => .refl s) fun _ => ?_
  split
  · exact .refl s
  · dsimp only
    split
    · exact .refl s
    · exact .answerIte (fun _ => .refl s) fun _ => upholds_table ..

theorem upholds_sectionClear (p : List Byte) (s : State) : Upholds s (sectionClear p s).1 := by
  unfold sectionClear
  split
  · exact upholds_table ..
  · exact .answerIte (fun _ => upholds_table ..) fun _ => .refl s
  · exact .refl s

theorem upholds_converterReport (p : List Byte) (s : State) : Upholds s (converterReport p s).1 := by
  unfold converterReport
  split
  · exact upholds_takeReport ..
  · exact .refl s

theorem upholds_iceModeReq (p : List Byte) (s : State) : Upholds s (iceModeReq p s).1 := by
  unfold iceModeReq
  split
  · exact .refl s
  · exact upholds_withIce ..

/-! ### The requests about parameters, banks and channels -/

theorem upholds_parameterSet (p : List Byte) (s : State) : Upholds s (parameterSet p s).1 := by
  refine .answerIte (fun _ => .refl s) fun _ => .answerIte (fun _ => .refl s) fun _ => ?_
  split
  · exact .refl s
  · exact .answerIte (fun _ => .refl s) fun _ => upholds_takeSet ..

theorem upholds_parameterRead (p : List Byte) (s : State) : Upholds s (parameterRead p s).1 := by
  unfold parameterRead
  split <;> exact .refl s

theorem upholds_faultRead (p : List Byte) (s : State) : Upholds s (faultRead p s).1 := by
  unfold faultRead
  dsimp only
  split <;> exact .refl s

theorem upholds_statusRead (p : List Byte) (s : State) : Upholds s (statusRead p s).1 := by
  unfold statusRead
  dsimp only
  split <;> exact .refl s

/-- SAFE_HELD and CHECK are left with no breaker made and no demand live. -/
theorem upholds_becomesReady {s t : State} (still : s.roofState ≠ .ready) (chg : t.chg = s.chg) (cau : t.cau = s.cau) :
    Upholds s t :=
  upholds_leaveRoof chg (fun law => law.unmade still) fun law => cau ▸ law.notLive still

theorem upholds_withFlt (s : State) (f : Flt) : Upholds s (s.withFlt f) := .of_view rfl

theorem upholds_faultClear (p : List Byte) (s : State) : Upholds s (faultClear p s).1 := by
  have left : ∀ u, Upholds u (leaveSafeHeld u) := fun u =>
    .ite (fun h => upholds_becomesReady (by rw [h.1]; nofun) rfl rfl) fun _ => .refl u
  unfold faultClear
  split
  · exact .refl s
  · exact .answerIte (fun _ => .refl s) fun _ => (upholds_withFlt s _).trans (left _)

theorem upholds_thresholdSet (p : List Byte) (s : State) : Upholds s (thresholdSet p s).1 := by
  unfold thresholdSet
  dsimp only
  split
  · exact .refl s
  · exact .answerIte (fun _ => .refl s) fun _ => upholds_withFlt ..

theorem upholds_lockoutClear (p : List Byte) (s : State) : Upholds s (lockoutClear p s).1 := by
  unfold lockoutClear
  split
  · exact .refl s
  · exact .answerIte (fun _ => .refl s) fun _ => .answerIte (fun _ => .refl s) fun _ =>
      .answerIte (fun _ => .refl s) fun _ => upholds_putChan ..

/-! ### The requests of the Service Tool -/

theorem upholds_outputTake (p : List Byte) (s : State) : Upholds s (outputTake p s).1 := by
  refine .answerIte (fun _ => .refl s) fun _ => .answerIte (fun _ => .refl s) fun _ => ?_
  split
  · exact .refl s
  · refine .answerIte (fun _ => .refl s) fun _ => .answerIte (fun _ => .refl s) fun _ =>
      .answerIte (fun _ => .refl s) fun _ => ?_
    split
    · exact .refl s
    · exact upholds_putOut ..

theorem upholds_outputDrive (p : List Byte) (s : State) : Upholds s (outputDrive p s).1 := by
  unfold outputDrive
  dsimp only
  split
  · exact .refl s
  · split
    · exact .refl s
    · refine .answerIte (fun _ => .refl s) fun _ => .answerIte (fun _ => .refl s) fun _ => ?_
      split
      · exact .refl s
      · exact upholds_putOut ..

theorem upholds_outputReturn (p : List Byte) (s : State) : Upholds s (outputReturn p s).1 := by
  refine .answerIte (fun _ => upholds_returnAll s) fun _ => ?_
  split
  · exact .refl s
  · exact upholds_putOut ..

/-- CHECK is entered from a roof with both breakers OPEN, and ends the demand (R16, R24, R74). -/
theorem upholds_enterCheck {s : State} (quiet : roofQuiet s = true) (x : Fin 4) : Upholds s (enterCheck x s) := by
  simp only [roofQuiet, bothOpen, Bool.and_eq_true, beq_iff_eq] at quiet
  obtain ⟨⟨⟨-, bka, bkd⟩, -⟩, -⟩ := quiet
  have unmade : ∀ b, brkMade (brk s b) = false := fun b => by
    cases b
    · exact unmade_of_state (by rw [brk, bka]; nofun) (by rw [brk, bka]; nofun)
    · exact unmade_of_state (by rw [brk, bkd]; nofun) (by rw [brk, bkd]; nofun)
  rw [enterCheck_eq]
  exact upholds_leaveRoof rfl (fun _ => unmade) fun _ => rfl

theorem upholds_senseCheckStart (p : List Byte) (s : State) : Upholds s (senseCheckStart p s).1 := by
  refine .answerIte (fun _ => .refl s) fun _ => .answerIte (fun _ => .refl s) fun _ =>
    .answerIte (fun _ => .refl s) fun quiet => ?_
  split
  · exact upholds_enterCheck (by simpa using quiet) _
  · exact .refl s

theorem upholds_senseCheckEnd (s : State) : Upholds s (senseCheckEnd s).1 :=
  .answerIte (fun check => upholds_becomesReady (by rw [check]; nofun) rfl rfl) fun _ => .refl s

/-! ### A request taken -/

theorem upholds_withLnk (s : State) (x : Lnk) : Upholds s (s.withLnk x) := .of_view rfl

theorem upholds_requestRule {k : ReqKind} {src : Station} {s : State} (taken : refusal k src s = none) (p : List Byte) :
    Upholds s (requestRule k src p s).1 := by
  cases k with
  | statusRead => exact upholds_statusRead p s
  | cabTake => exact upholds_cabTake src s
  | cabRelease => exact upholds_cabEnds ..
  | cabPass => exact upholds_cabPass s
  | roofUp => exact upholds_roofUp taken p
  | roofDown => exact upholds_roofDownRequest ..
  | systemSelect => exact upholds_systemSelect src p s
  | breakerClose => exact upholds_breakerClose src s
  | breakerOpen => exact upholds_breakerOpen src s
  | position => exact .answerIte (fun _ => .refl s) fun _ => upholds_takePosition ..
  | sectionLoad => exact upholds_sectionLoad p s
  | sectionClear => exact upholds_sectionClear p s
  | sectionRead => exact .answerIte (fun _ => .refl s) fun _ => .refl s
  | converterReport => exact upholds_converterReport p s
  | iceMode => exact upholds_iceModeReq p s
  | parameterSet => exact upholds_parameterSet p s
  | parameterRead => exact upholds_parameterRead p s
  | faultRead => exact upholds_faultRead p s
  | faultClear => exact upholds_faultClear p s
  | thresholdSet => exact upholds_thresholdSet p s
  | lockoutClear => exact upholds_lockoutClear p s
  | outputTake => exact upholds_outputTake p s
  | outputDrive => exact upholds_outputDrive p s
  | outputReturn => exact upholds_outputReturn p s
  | senseCheckStart => exact upholds_senseCheckStart p s
  | senseCheckEnd => exact upholds_senseCheckEnd s
  | softReset => exact upholds_withLnk ..

theorem upholds_refreshActivity (src : Station) (s : State) : Upholds s (refreshActivity src s) := by
  cases src <;> exact .of_view rfl

theorem upholds_heard (src : Station) (s : State) : Upholds s (heard src s) :=
  (upholds_withLnk ..).trans (upholds_refreshActivity ..)

/-- As `takeRequest_cases`, with what the request's own rule may rely on: no test of Table 4-2 refuses it. -/
theorem takeRequest_cases_of_open (k : ReqKind) (src : Station) (p : List Byte) (body : State → State × Reply)
    (s : State) : takeRequest k src p body s = s ∨ takeRequest k src p body s = hearFrame s ∨
      ∃ code r, takeRequest k src p body s = putAnswer src code r ∧
        (refusal k src (heard src s) = none ∧ r = body (heard src s) ∨ r.1 = heard src s) := by
  unfold takeRequest
  split
  · dsimp only
    split
    · exact .inr (.inl rfl)
    · refine .inr (.inr ⟨_, _, rfl, ?_⟩)
      unfold decideRequest
      split
      · exact .inr rfl
      · split
        · exact .inl ⟨‹_›, rfl⟩
        · exact .inr rfl
  · exact .inl rfl

theorem upholds_takeRequest (k : ReqKind) (src : Station) (p : List Byte) (s : State) :
    Upholds s (takeRequest k src p (requestRule k src p) s) := by
  rcases takeRequest_cases_of_open k src p (requestRule k src p) s with e | e | ⟨code, r, e, how⟩ <;> rw [e]
  · exact .refl s
  · exact upholds_withLnk ..
  · refine Upholds.trans (t := r.1) ?_ (upholds_withLnk ..)
    rcases how with ⟨taken, rfl⟩ | how
    · exact (upholds_heard src s).trans (upholds_requestRule taken p)
    · exact how ▸ upholds_heard src s

theorem upholds_takeUnknownKind (src : Station) (x : Byte) (s : State) : Upholds s (takeUnknownKind src x s) :=
  .ite (fun _ => .ite (fun _ => upholds_withLnk ..) fun _ => (upholds_heard src s).trans (upholds_withLnk ..))
    fun _ => .refl s

/-! ### The link (R190 to R194) -/

theorem upholds_discardFate {f : List Byte} {s t : State} (h : discardFate f s = some t) : Upholds s t := by
  unfold discardFate at h
  split at h
  · cases h; exact upholds_offerPlain ..
  · split at h
    · cases h; exact .refl s
    · split at h
      · cases h; exact upholds_offer ..
      · split at h
        · cases h; exact (upholds_refreshActivity ..).trans (upholds_offerPlain ..)
        · cases h

theorem upholds_frameFate (f : List Byte) (s : State) : Upholds s (frameFate f s) := by
  unfold frameFate
  cases h : discardFate f s with
  | some t => exact upholds_discardFate h
  | none =>
    unfold dispatchFrame
    rw [Option.getD_none]
    split
    · exact .refl s
    · split
      · rw [takeKind_eq]
        exact upholds_takeRequest ..
      · exact upholds_takeUnknownKind ..

theorem upholds_breakFrame (x : Receiver) (s : State) : Upholds s (breakFrame x s) :=
  (upholds_withLnk ..).trans (upholds_offerPlain ..)

theorem upholds_receive (c : Byte) (stop : Bool) (s : State) : Upholds s (receive c stop s) := by
  unfold receive
  split
  · exact .refl s
  · exact .ite (fun _ => upholds_withLnk ..) fun _ => .refl s
  · exact .ite (fun _ => upholds_breakFrame ..) fun _ =>
      .ite (fun _ => (upholds_withLnk ..).trans (upholds_frameFate ..)) fun _ => upholds_withLnk ..

theorem upholds_charArrives (c : Byte) (stop : Bool) (s : State) : Upholds s (charArrives c stop s) :=
  .ite (fun _ => .refl s) fun _ => .ite (fun _ => upholds_withLnk ..) fun _ =>
    (upholds_withLnk ..).trans (upholds_receive ..)

theorem upholds_frameDiscarded (f : List Byte) (s : State) : Upholds s (frameDiscarded f s) := by
  refine .ite (fun _ => .ite (fun _ => upholds_withLnk ..) fun _ => ?_) fun _ => .refl s
  cases h : discardFate f (hearFrame s) with
  | none => exact .refl s
  | some t => exact (upholds_withLnk ..).trans (upholds_discardFate h)

theorem upholds_answerSend (s : State) : Upholds s (answerSend s) := by
  unfold answerSend
  split
  · exact upholds_withLnk ..
  · exact .refl s

/-! ### The commands -/

variable {s t : State}

theorem upholds_event {f : State → State} (h : s.held = false → Upholds s (f s)) (e : event f s = .next t) :
    Upholds s t := by
  obtain ⟨u, e', ⟨-, rfl⟩ | ⟨live, rfl⟩⟩ := event_next f s <;> rw [e'] at e <;> cases e
  · exact .refl _
  · exact (h live).trans (upholds_settle s _)

theorem upholds_event_of_any {f : State → State} (h : Upholds s (f s)) (e : event f s = .next t) : Upholds s t :=
  upholds_event (fun _ => h) e

theorem upholds_inputEvent {f : State → State} (h : Upholds s (f s)) (e : inputEvent f s = .next t) : Upholds s t := by
  cases e
  exact h.trans (upholds_settle s _)

theorem upholds_resetRelease (law : HeldLaw s) {straps : BitVec 5} (e : exec (.resetRelease straps) s = .next t) :
    Upholds s t := by
  change (if s.held then .next (settle s (releaseReset straps s)) else .next s) = Host.Outcome.next t at e
  split at e
  · cases e
    exact (upholds_releaseReset straps (law ‹_›)).trans (upholds_settle s _)
  · cases e
    exact .refl _

theorem upholds_exec (law : HeldLaw s) {c : Instr} (e : exec c s = .next t) : Upholds s t := by
  have request : ∀ k src p, exec (requestCmd k src p) s = .next t → Upholds s t := fun k src p e => by
    rw [exec_requestCmd] at e
    exact upholds_event_of_any (upholds_takeRequest k src p s) e
  have here : Upholds s s := .refl s
  cases c with
  | statusRead src p => exact request .statusRead src p e
  | cabTake src p => exact request .cabTake src p e
  | cabRelease src p => exact request .cabRelease src p e
  | cabPass src p => exact request .cabPass src p e
  | roofUp src p => exact request .roofUp src p e
  | roofDown src p => exact request .roofDown src p e
  | systemSelect src p => exact request .systemSelect src p e
  | breakerClose src p => exact request .breakerClose src p e
  | breakerOpen src p => exact request .breakerOpen src p e
  | position src p => exact request .position src p e
  | sectionLoad src p => exact request .sectionLoad src p e
  | sectionClear src p => exact request .sectionClear src p e
  | sectionRead src p => exact request .sectionRead src p e
  | converterReport src p => exact request .converterReport src p e
  | iceMode src p => exact request .iceMode src p e
  | parameterSet src p => exact request .parameterSet src p e
  | parameterRead src p => exact request .parameterRead src p e
  | faultRead src p => exact request .faultRead src p e
  | faultClear src p => exact request .faultClear src p e
  | thresholdSet src p => exact request .thresholdSet src p e
  | lockoutClear src p => exact request .lockoutClear src p e
  | outputTake src p => exact request .outputTake src p e
  | outputDrive src p => exact request .outputDrive src p e
  | outputReturn src p => exact request .outputReturn src p e
  | senseCheckStart src p => exact request .senseCheckStart src p e
  | senseCheckEnd src p => exact request .senseCheckEnd src p e
  | softReset src p => exact request .softReset src p e
  | unknownKind src x => exact upholds_event_of_any (upholds_takeUnknownKind src x s) e
  | frameDiscarded f => exact upholds_event_of_any (upholds_frameDiscarded f s) e
  | frameFormatAbort x stop => exact upholds_event_of_any (.ite (fun _ => upholds_charArrives ..) fun _ => here) e
  | frameGapTimeout => exact upholds_event_of_any (.ite (fun _ => upholds_breakFrame ..) fun _ => here) e
  | silenceEnd => exact upholds_event_of_any (.ite (fun _ => upholds_withLnk ..) fun _ => here) e
  | answerSend => exact upholds_event_of_any (upholds_answerSend s) e
  | answerWithdrawn x => exact upholds_event_of_any (.ite (fun _ => upholds_charArrives ..) fun _ => here) e
  | softResetAction straps => exact upholds_event_of_any (upholds_softResetAct straps s) e
  | powerOnReset => cases e; exact upholds_holdReset ..
  | pinReset => cases e; exact upholds_holdReset ..
  | resetRelease straps => exact upholds_resetRelease law e
  | profileHeaderRead r => exact upholds_event_of_any (upholds_headerRead _ s) e
  | segmentRead a => exact upholds_event (upholds_segmentRead _) e
  | loadEepromNoAnswer => exact upholds_event (upholds_segmentRead _) e
  | winterReadEnd a => exact upholds_event_of_any (upholds_winterRead _ s) e
  | winterReadFail => exact upholds_event_of_any (upholds_winterRead _ s) e
  | windowPublication => exact upholds_event_of_any (upholds_publishWindow s) e
  | channelReading c h f x => exact upholds_event_of_any (upholds_takeReading c h f x s) e
  | ambientReading x => exact upholds_event_of_any (upholds_ambientReading x s) e
  | heightSensor c => exact upholds_event_of_any (upholds_heightSensor c s) e
  | headokLost c => exact upholds_inputEvent (upholds_headokLost c s) e
  | headokRestored c => exact upholds_inputEvent (f := headokRestored c) (upholds_putChan ..) e
  | raiseTimeout c => exact upholds_event_of_any (upholds_raiseTimeout c s) e
  | contactLoss c => exact upholds_event_of_any (upholds_contactLoss c s) e
  | lowerTimeout c => exact upholds_event_of_any (upholds_lowerTimeout c s) e
  | forceControlPeriod => exact upholds_event_of_any (upholds_forcePeriod s) e
  | valvePeriodBoundary => exact upholds_event_of_any (f := (mapValves · atBoundary)) (.of_view rfl) e
  | heaterPeriodBoundary => exact upholds_event_of_any (f := (mapZones · atBoundary)) (.of_view rfl) e
  | safePeriodEnd o => exact upholds_event_of_any (upholds_safePeriodEnd o s) e
  | serviceLapse => exact upholds_event_of_any (upholds_serviceLapse s) e
  | auxokLost => exact upholds_inputEvent (upholds_auxokLost s) e
  | auxokReturn => exact upholds_inputEvent (upholds_auxokReturn s) e
  | cabLapse => exact upholds_event_of_any (upholds_cabLapse s) e
  | demandExpiry => exact upholds_event_of_any (upholds_demandExpiry s) e
  | converterStale => exact upholds_event_of_any (upholds_converterStale s) e
  | odometerPulse => exact upholds_event_of_any (upholds_odometerPulse s) e
  | positionLapse => exact upholds_event_of_any (upholds_positionLapse s) e
  | breakerFeedbackChange b x => exact upholds_inputEvent (upholds_feedbackChange b x s) e
  | closeTimeExpiry b x => exact upholds_event_of_any (upholds_closeExpiry b x s) e
  | openTimeExpiry b x => exact upholds_event_of_any (upholds_openExpiry b x s) e
  | shedTimeout => exact upholds_event_of_any (upholds_shedExpiry s) e
  | deadRun => exact upholds_event_of_any (upholds_deadRunExpiry s) e
  | identifyTimeout => exact upholds_event_of_any (upholds_identifyExpiry s) e
  | converterTimeout => exact upholds_event_of_any (upholds_converterExpiry s) e
  | settleIntervalEnd => exact upholds_event_of_any (.ite (fun _ => upholds_withPst ..) fun _ => here) e
  | iceIndexUpdate => exact upholds_event_of_any (upholds_iceUpdate s) e
  | slotExpiry => exact upholds_event_of_any (upholds_slotExpiry s) e
  | roofVoltageSample x => exact upholds_event_of_any (upholds_takeSample _ s) e
  | characterReceived x => exact upholds_event_of_any (upholds_charArrives x true s) e
  | answerEnd => exact upholds_event_of_any (.ite (fun _ => upholds_withLnk ..) fun _ => here) e

/-! ### A held reset (R171) -/

theorem event_held {f : State → State} (held : s.held = true) : event f s = .next s := if_pos held

/-- While a reset is held a command other than a reset moves nothing, or follows an input. -/
theorem exec_of_held (held : s.held = true) {c : Instr} (plain : isReset c = false) :
    exec c s = .next s ∨ ∃ f, exec c s = inputEvent f s ∧ Eases s (f s) := by
  cases c with
  | softResetAction => cases plain
  | powerOnReset => cases plain
  | pinReset => cases plain
  | resetRelease => cases plain
  | headokLost c => exact .inr ⟨_, rfl, eases_headokLost c s⟩
  | headokRestored c => exact .inr ⟨_, rfl, eases_headokLevel s c true⟩
  | auxokLost => exact .inr ⟨_, rfl, eases_auxokLost s⟩
  | auxokReturn => exact .inr ⟨_, rfl, eases_auxokReturn s⟩
  | breakerFeedbackChange b x => exact .inr ⟨_, rfl, eases_feedbackChange b x s⟩
  | valvePeriodBoundary => exact .inl (event_held (f := (mapValves · atBoundary)) held)
  | heaterPeriodBoundary => exact .inl (event_held (f := (mapZones · atBoundary)) held)
  | _ => exact .inl (event_held held)

theorem endStarting_held (s : State) : (endStarting s).held = s.held := by
  rw [endStarting_eq, (startEnds_frame _).2.1, (startBlocks_frame s).2.1]

theorem releaseReset_held (straps : BitVec 5) (s : State) : (releaseReset straps s).held = false := by
  rw [releaseReset_eq]
  split
  · rfl
  · exact endStarting_held _

theorem settle_keeps_held (b s : State) : (settle b s).held = s.held := kept_held (calm_kept (calm_settle b s))

/-- A reset ends held in STARTING, or released. -/
theorem heldLaw_reset (law : HeldLaw s) {c : Instr} (reset : isReset c = true) (e : exec c s = .next t) : HeldLaw t := by
  have released : ∀ b u straps, HeldLaw (settle b (releaseReset straps u)) := fun b u straps held => by
    rw [settle_keeps_held, releaseReset_held] at held
    cases held
  cases c with
  | softResetAction straps =>
    change event (softResetAct straps) s = .next t at e
    obtain ⟨u, e', ⟨-, rfl⟩ | ⟨live, rfl⟩⟩ := event_next (softResetAct straps) s <;> rw [e'] at e <;> cases e
    · exact law
    · unfold softResetAct
      split
      · exact released _ _ _
      · intro held
        rw [settle_keeps_held, live] at held
        cases held
  | powerOnReset => cases e; exact fun _ => rfl
  | pinReset => cases e; exact fun _ => rfl
  | resetRelease straps =>
    change (if s.held then .next (settle s (releaseReset straps s)) else .next s) = Host.Outcome.next t at e
    split at e <;> cases e
    · exact released _ _ _
    · exact law
  | _ => cases reset

theorem heldLaw_exec (law : HeldLaw s) {c : Instr} (e : exec c s = .next t) : HeldLaw t := by
  cases plain : isReset c with
  | true => exact heldLaw_reset law plain e
  | false =>
    intro held
    obtain ⟨-, before, -⟩ := (guards_exec e).reset (by simp [grants, plain])
    rw [before] at held
    rcases exec_of_held held plain with e' | ⟨f, e', eases⟩ <;> rw [e'] at e <;> cases e
    · exact law held
    · rw [calm_roofState (calm_settle ..)]
      exact starting_of_eases eases (law held)

/-! ### The steps -/

/-- A millisecond writes nothing that the laws read. -/
theorem upholds_tickTime (s : State) : Upholds s (tickTime s) := by
  have ticked : ∀ u : State, Upholds u (tickBlocks u) := fun u => .of_view (by
    simp only [lawView, LawView.mk.injEq]
    have same : ∀ b, (brk (tickBlocks u) b).state = (brk u b).state := fun b => by
      rw [tickBlocks_brk, tickBreaker_eq]
    exact ⟨rfl, same .bka, same .bkd, rfl, rfl, rfl⟩)
  have passed : ∀ n l, Upholds s ((s.withNow n).withLnk l) := fun _ _ => .of_view rfl
  exact .ite (fun _ => passed _ _) fun _ => (passed _ _).trans (ticked _)

theorem upholds_withPending (s : State) (q : List Instr) : Upholds s (s.withPending q) := .of_view rfl

theorem upholds_step (law : HeldLaw s) (e : step s = .next t) : Upholds s t := by
  unfold step at e
  split at e
  · cases e
    exact .ite (fun _ => .refl s) fun _ => (upholds_tickTime s).trans (upholds_withPending ..)
  · exact (upholds_withPending s _).trans (upholds_exec (by exact law) e)

theorem heldLaw_step (law : HeldLaw s) (e : step s = .next t) : HeldLaw t := by
  unfold step at e
  split at e
  · cases e
    intro held
    by_cases before : s.held = true
    · rw [idle_of_held before]
      exact law before
    · obtain ⟨-, kept, -⟩ := tickTime_frame s
      rw [idle_of_live (by simpa using before), State.withPending_held, kept] at held
      exact absurd held before
  · exact heldLaw_exec (by exact law) e

/-- Settles O53: a step keeps the law of a held reset (`heldLaw_step`), and with it those of the breakers
(`upholds_step`). -/
theorem breakersStayInterlocked : Obligations.BreakersStayInterlocked := fun s t holds e => by
  obtain ⟨held, law⟩ := (breakersHold_iff s).mp holds
  exact (breakersHold_iff t).mpr ⟨heldLaw_step held e, (upholds_step held e).breakers law⟩

/-- Settles O54: as O53, with the law of the demand. -/
theorem demandStaysWithTheActiveVcu : Obligations.DemandStaysWithTheActiveVcu := fun s t holds e => by
  obtain ⟨held, law⟩ := (demandHolds_iff s).mp holds
  exact (demandHolds_iff t).mpr ⟨heldLaw_step held e, (upholds_step held e).demand law⟩

end Sys2Proof.Machine
end

section
/-!
PROOFS. The tests of a request in their order (O5), and the requests that need nothing but the cab (O9, O10).
-/

namespace Sys2Proof.Machine

variable {k : ReqKind} {src : Station} {s : State}

/-! ### The refusals of Table 4-2 (R68) -/

/-- A station that needs the cab is a VCU (Table 4-1). -/
theorem vcuOf_isSome_of_active (h : roleTable k src = .active) : (vcuOf src).isSome = true := by
  cases src with
  | vcuA => rfl
  | vcuB => rfl
  | tcc => cases k <;> cases h
  | tool => cases k <;> cases h

theorem refusal_role (h : roleTable k src = .no) (s : State) : refusal k src s = some .role := if_pos h

theorem refusal_starting (role : roleTable k src ≠ .no) (start : s.roofState = .starting) (other : k ≠ .statusRead) :
    refusal k src s = some .starting := by
  rw [refusal, if_neg role, if_pos ⟨start, other⟩]

theorem refusal_check (role : roleTable k src ≠ .no) (check : s.roofState = .check) (out : takenInCheck k = false) :
    refusal k src s = some .checkMode := by
  have started : ¬ (s.roofState = .starting ∧ k ≠ .statusRead) := by rw [check]; exact fun h => nomatch h.1
  rw [refusal, if_neg role, if_neg started, if_pos ⟨check, out⟩]

theorem refusal_notActive (active : roleTable k src = .active) (started : s.roofState ≠ .starting)
    (check : s.roofState = .check → takenInCheck k = true) (other : s.cau.active ≠ vcuOf src) :
    refusal k src s = some .notActive := by
  have role : roleTable k src ≠ .no := by rw [active]; nofun
  have taken : ¬ (s.roofState = .check ∧ takenInCheck k = false) := fun h => by
    rw [check h.1] at h
    cases h.2
  rw [refusal, if_neg role, if_neg fun h => started h.1, if_neg taken,
    if_pos ⟨active, vcuOf_isSome_of_active active, other⟩]

/-- A request that Table 4-2 refuses is answered, and only heard. -/
theorem exec_refused (p : List Byte) (h : Listening s) {c : AnswerCode} (refused : refusal k src (heard src s) = some c) :
    exec (requestCmd k src p) s = .next (settle s (replied src (reqCode k) [answerByte c] (heard src s))) := by
  rw [exec_requestCmd, event_live h.held, takeRequest_refused h refused]

/-- An accepted request of a wrong length is answered RANGE, and only heard (R192, R193). -/
theorem exec_accepted_of_badLength {p : List Byte} (h : Accepted k src s) (bad : reqLengthOk k p.length = false) :
    exec (requestCmd k src p) s = .next (settle s (replied src (reqCode k)
      (if k = .sectionLoad then [0x08#8, 0x00#8] else [0x08#8]) (heard src s))) := by
  have code : BitVec.ofNat 8 (reqCode k) + 0x80#8 = BitVec.ofNat 8 (reqCode k + 0x80) := by cases k <;> rfl
  have answered : takeRequest k src p (requestRule k src p) s = replied src (reqCode k)
      (answerByte (lengthRefusal k).code :: (lengthRefusal k).rest) (heard src s) := by
    have taken := refusal_of_accepted h
    have soft := soft_of_listening h.listening
    rw [heard] at taken
    simp only [takeRequest, hears_of_listening h.listening, if_true, soft, reduceCtorEq, if_false, decideRequest, taken,
      bad, Bool.false_eq_true, putAnswer, code]
    rfl
  rw [exec_requestCmd, event_live h.listening.held, answered, lengthRefusal]
  split <;> rfl

/-- Settles O5: the tests in their order, each answered by `exec_refused`, and the length last; then the columns of
Table 4-1. -/
theorem requestsAreRefusedInOrder : Obligations.RequestsAreRefusedInOrder := by
  refine ⟨fun k src p s h => ?_, fun k => ?_⟩
  · have refused : ∀ c, refusal k src (heard src s) = some c →
      exec (requestCmd k src p) s = .next (settle s (replied src (reqCode k) [answerByte c] (heard src s))) :=
      fun _ => exec_refused p h
    refine ⟨fun role => refused .role (refusal_role role _), fun role start other => refused .starting ?_,
      fun role check out => refused .checkMode ?_, fun active started check other => refused .notActive ?_,
      exec_accepted_of_badLength⟩
    · exact refusal_starting role (by rwa [heard_roofState]) other
    · exact refusal_check role (by rwa [heard_roofState]) out
    · exact refusal_notActive active (by rwa [heard_roofState]) (by rwa [heard_roofState]) (by rwa [heard_active])
  · cases k <;> decide

/-! ### The requests of the cab and the opening of the breakers (R70 to R72, R77, R114) -/

/-- Settles O9: the cab is free, the sender's, or the other VCU's. -/
theorem cabTakeGivesAFreeCab : Obligations.CabTakeGivesAFreeCab := by
  intro v s h
  have answers := exec_accepted_of_rule (p := []) h rfl
  dsimp only
  refine ⟨fun free => answers _ .done [] ?_, ?_, fun mine => answers _ .done [] ?_, fun held => answers _ .cabHeld [] ?_⟩
  · cases v <;> simp [requestRule, cabTake, done, plain, free, setActive, vcuStation, vcuOf]
  · cases v <;> simp [leadingEnd2]
  · cases v <;> simp [requestRule, cabTake, done, plain, mine, vcuStation, vcuOf]
  · cases v <;> simp [requestRule, cabTake, refuse, plain, held, vcuStation, vcuOf, otherVcu]

/-- Who is accepted with a request that needs the cab holds it. -/
theorem active_of_accepted {v : Vcu} (h : Accepted k (vcuStation v) s) (role : roleTable k (vcuStation v) = .active) :
    s.cau.active = some v := by
  rw [h.cab role]
  cases v <;> rfl

theorem opensAlready_eq (s : State) :
    opensAlready s = s.chg.seq.any fun q => q.kind == .open || q.kind == .roofDown := by
  unfold opensAlready
  split <;> simp_all

theorem cabPass_of_active {v : Vcu} (active : s.cau.active = some v) : cabPass s = done (s.withCau { s.cau with
    active := some (otherVcu v), activeSince := s.now
    demand := s.cau.demand.map fun d => { d with origin := otherVcu v } }) := by
  unfold cabPass
  rw [active]
  rfl

/-- Settles O10: each request's own rule, on the state that has heard it. -/
theorem cabReleaseRoofDownAndOpenRequests : Obligations.CabReleaseRoofDownAndOpenRequests := by
  refine ⟨fun v s => ⟨fun h => ?_, fun h => ?_⟩, fun v s h => ?_, fun src s h => ?_⟩
  · refine exec_accepted_of_rule (k := .cabRelease) h rfl _ .done [] ?_
    cases v <;> rfl
  · have active := active_of_accepted h (by cases v <;> rfl)
    refine exec_accepted_of_rule (k := .cabPass) h rfl _ .done [] ?_
    have passed := cabPass_of_active ((heard_active (vcuStation v) s).trans active)
    rw [heard_now, heard_demand] at passed
    exact passed
  · refine exec_accepted_of_rule (k := .roofDown) h rfl _ .done [] ?_
    cases v <;> rfl
  · refine exec_accepted_of_rule (k := .breakerOpen) h rfl _ .done [] ?_
    have opens : opensAlready (heard src s) = s.chg.seq.any fun q => q.kind == .open || q.kind == .roofDown := by
      rw [opensAlready_eq, heard_chg]
    change breakerOpen src (heard src s) = _
    rw [breakerOpen, opens]
    split <;> rfl

end Sys2Proof.Machine
end

section
/-!
PROOFS. A roof-down request (O11): what an abort and a start in SHED make of the sequencer.
-/

namespace Sys2Proof.Machine

variable {s : State}

/-! ### The abort of the running sequence (R116) -/

theorem endDemand_collectorHold (live : s.cau.demand.isSome = true) : (endDemand s).pcu.collectorHold = false := by
  rw [endDemand_eq]
  exact if_pos live

theorem openBrk_inForce (s : State) (b : Brk) : (openBrk s b).chg.inForce = s.chg.inForce := by
  unfold openBrk
  dsimp only
  split
  · cases b <;> rfl
  · rfl

/-- The cancelling of one breaker's close. -/
def cancelBrk (s : State) (c : Brk) : State := if (brk s c).state = .closing then openBrk s c else s

theorem cancelClose_eq (s : State) : cancelClose s = cancelBrk (cancelBrk s .bka) .bkd := rfl

theorem cancelBrk_brk (s : State) (c b : Brk) : brk (cancelBrk s c) b = if b = c ∧ (brk s c).state = .closing
    then { brk s c with state := .opening, closeCoil := false, holdCoil := false, opTime := 0 } else brk s b := by
  by_cases closing : (brk s c).state = .closing
  · rw [cancelBrk, if_pos closing, brk_openBrk, brkMade_of_closing closing]
    simp [closing]
  · rw [cancelBrk, if_neg closing, if_neg fun h => closing h.2]

/-- A close in progress is cancelled: its breaker goes to OPENING, and no other moves (R106). -/
theorem cancelClose_brk (s : State) (b : Brk) : brk (cancelClose s) b = if (brk s b).state = .closing
    then { brk s b with state := .opening, closeCoil := false, holdCoil := false, opTime := 0 } else brk s b := by
  rw [cancelClose_eq, cancelBrk_brk, cancelBrk_brk, cancelBrk_brk]
  cases b <;> simp

theorem cancelClose_inForce (s : State) : (cancelClose s).chg.inForce = s.chg.inForce := by
  unfold cancelClose
  dsimp only
  split <;> split <;> simp [openBrk_inForce]

theorem abortSeq_none (h : s.chg.seq = none) (r : Reason) : abortSeq s r = s := by
  rw [abortSeq, h]
  rfl

/-- The state in which a running sequence has just been recorded. -/
theorem recordEnd_eq {q : Sequence} (h : s.chg.seq = some q) (x : Result) (n : Nat) :
    recordEnd s x n = s.withChg { s.chg with
      seq := none, ended := (⟨q.kind, q.origin, q.target, x, q.stage, n, roofTime s⟩ :: s.chg.ended).take 4 } := by
  rw [recordEnd, h]

theorem abortSeq_some {q : Sequence} (h : s.chg.seq = some q) (r : Reason) :
    abortSeq s r = cancelClose (recordEnd s (.aborted r) 0) := by
  rw [abortSeq, h]
  rfl

theorem abortSeq_inForce (s : State) (r : Reason) : (abortSeq s r).chg.inForce = s.chg.inForce := by
  cases h : s.chg.seq with
  | none => rw [abortSeq_none h]
  | some q =>
    rw [abortSeq_some h, cancelClose_inForce, recordEnd_eq h]
    rfl

/-! ### A start in SHED (R117, R118) -/

/-- The entry to SHED sets shed_request, and may let the stage end at once. -/
theorem enterWork_shed_effect {q : Sequence} (h : s.chg.seq = some q) : ∃ x,
    enterWork .shed s = s.withChg { s.chg with seq := some { q with exit := x }, shed := true } := by
  have entered : enterWork .shed s =
      setShed (if noneClosed s || loadOff s then putSeq s { q with exit := some .next } else s) := by
    unfold enterWork
    rw [h]
  rw [entered]
  split
  · exact ⟨_, rfl⟩
  · exact ⟨q.exit, by rw [← h]; rfl⟩

theorem startReported_collectorHold (s : State) : (startReported s).pcu.collectorHold = s.pcu.collectorHold := by
  unfold startReported
  split
  · rw [(withdrawScraper_effect s).2.1]
  · rfl

theorem startSeq_shed_effect (s : State) (k : SeqKind) (o : Origin) (t : Option Sys) (a : Option Awaited) :
    (∃ x, (startSeq s k o t a .shed).chg =
      { s.chg with seq := some { freshSeq s k o t a .shed with exit := x }, shed := true }) ∧
    (startSeq s k o t a .shed).pcu.collectorHold = s.pcu.collectorHold := by
  have reported := startReported_chg (putSeq s (freshSeq s k o t a .shed))
  obtain ⟨x, entered⟩ := enterWork_shed_effect
    (s := startReported (putSeq s (freshSeq s k o t a .shed))) (q := freshSeq s k o t a .shed) (by rw [reported]; rfl)
  rw [startSeq_eq, entered]
  exact ⟨⟨x, by rw [State.withChg_chg, reported]; rfl⟩, startReported_collectorHold _⟩

theorem startSeq_shed_brk (s : State) (k : SeqKind) (o : Origin) (t : Option Sys) (a : Option Awaited) (b : Brk) :
    brk (startSeq s k o t a .shed) b = brk s b := by
  rw [startSeq_eq, enterWork_shed_brk, brk_congr (startReported_chg _), putSeq_brk]

/-! ### The request (R78, R129) -/

/-- Settles O11: the demand ends, the abort records what ran and cancels its close, and the start is fresh in SHED. -/
theorem roofDownRequestStartsRoofDown : Obligations.RoofDownRequestStartsRoofDown := by
  intro s r o
  have ends := endDemand_chg s
  have aborted := abortSeq_inForce (endDemand s) r
  have time : roofTime (abortSeq (endDemand s) r) = roofTime s := by
    have now : (abortSeq (endDemand s) r).now = (endDemand s).now := kept_now (calm_kept (calm_abortSeq ..))
    rw [roofTime, now, endDemand_eq]
    rfl
  obtain ⟨⟨x, chg⟩, hold⟩ := startSeq_shed_effect (abortSeq (endDemand s) r) .roofDown o none none
  have stands := startSeq_shed_brk (abortSeq (endDemand s) r) .roofDown o none none
  have outcomes : (roofDownRequest s r o).chg.ended = (abortSeq (endDemand s) r).chg.ended := by
    rw [roofDownRequest, roofDownSeq, chg]
  refine ⟨roofDownRequest_demand s r o, fun live => ?_, congrArg Chg.shed chg,
    ⟨_, congrArg Chg.seq chg, rfl, rfl, rfl, ?_, rfl, rfl, rfl, time⟩, fun idle => ?_, fun q running => ?_⟩
  · exact hold.trans ((congrArg Pcu.collectorHold (abortSeq_pcu _ r)).trans (endDemand_collectorHold live))
  · exact aborted.trans (congrArg Chg.inForce ends)
  · have still := abortSeq_none ((congrArg Chg.seq ends).trans idle) r
    rw [outcomes, still, ends]
    exact ⟨rfl, fun b => by rw [roofDownRequest, roofDownSeq, stands, still, brk_congr ends]⟩
  · have was := (congrArg Chg.seq ends).trans running
    have recorded := recordEnd_eq was (.aborted r) 0
    refine ⟨?_, fun b => ?_⟩
    · rw [outcomes, abortSeq_some was, (cancelClose_frame _).2.1, recorded, State.withChg_chg, ends, roofTime, endDemand_eq]
      rfl
    · rw [roofDownRequest, roofDownSeq, stands, abortSeq_some was, cancelClose_brk, recordEnd_brk, brk_congr ends]

end Sys2Proof.Machine
end

section
/-!
PROOFS. CONVERTER REPORT with the examination of the breakers, and ICE MODE (O18).
-/

namespace Sys2Proof.Machine

variable {s : State} {b : Brk}

/-! ### The codes of a report (R79, R196) -/

theorem convStateOfCode_high {n : Nat} (h : 3 < n) : convStateOfCode n = none := by
  unfold convStateOfCode
  split <;> simp_all

theorem convSysOfCode_high {n : Nat} (h : 4 < n) : convSysOfCode n = none := by
  unfold convSysOfCode sysOfCode
  rw [if_neg (by omega)]
  split <;> simp_all

/-- The system of a report is absent for NONE alone. -/
theorem convSysOfCode_low {n : Nat} (h : n ≤ 4) : convSysOfCode n = some (sysOfCode n) := by
  interval_cases n <;> rfl

theorem converterReport_range {p : List Byte} (h : 3 < byteAt p 0 ∨ 4 < byteAt p 1) (s : State) :
    converterReport p s = refuse .range s := by
  unfold converterReport
  rcases h with state | sys
  · rw [convStateOfCode_high state]
  · rw [convSysOfCode_high sys]
    cases convStateOfCode (byteAt p 0) <;> rfl

theorem converterReport_done {p : List Byte} {c : ConvState} (state : convStateOfCode (byteAt p 0) = some c)
    (sys : byteAt p 1 ≤ 4) (s : State) :
    converterReport p s = done (takeReport c (sysOfCode (byteAt p 1)) s) := by
  rw [converterReport, state, convSysOfCode_low sys]

/-! ### The examination of the breakers (Table 4-4) -/

theorem examineConverter_noneClosed (h : closedBrk s = none) : examineConverter s = s := by rw [examineConverter, h]

theorem examineConverter_lost (h : closedBrk s = some b) (lost : s.cau.conv.fresh = false ∨ s.cau.conv.state = .fault) :
    examineConverter s = offer s ⟨.converterLost, some (.breaker b), false⟩ := by
  rw [examineConverter, h]
  exact if_pos lost

theorem examineConverter_mismatch (h : closedBrk s = some b) (fresh : s.cau.conv.fresh = true)
    (run : s.cau.conv.state = .running) (other : s.cau.conv.sys ≠ s.chg.inForce) :
    examineConverter s = offer s ⟨.changeMismatch, some (.breaker b), false⟩ := by
  have here : ¬ (s.cau.conv.fresh = false ∨ s.cau.conv.state = .fault) := by rw [fresh, run]; simp
  rw [examineConverter, h]
  exact (if_neg here).trans (if_pos ⟨run, other⟩)

theorem examineConverter_agrees (fresh : s.cau.conv.fresh = true) (sound : s.cau.conv.state ≠ .fault)
    (agrees : s.cau.conv.state ≠ .running ∨ s.cau.conv.sys = s.chg.inForce) : examineConverter s = s := by
  have here : ¬ (s.cau.conv.fresh = false ∨ s.cau.conv.state = .fault) := by rw [fresh]; simp [sound]
  have same : ¬ (s.cau.conv.state = .running ∧ s.cau.conv.sys ≠ s.chg.inForce) := fun h =>
    agrees.elim (absurd h.1) fun e => h.2 e
  cases h : closedBrk s with
  | none => exact examineConverter_noneClosed h
  | some b =>
    rw [examineConverter, h]
    exact (if_neg here).trans (if_neg same)

/-! ### ICE MODE (R133, R150) -/

theorem iceModeReq_range {p : List Byte} (h : 2 < byteAt p 0) (s : State) : iceModeReq p s = refuse .range s := by
  have high : iceModeOfCode (byteAt p 0) = none := by
    unfold iceModeOfCode
    split <;> simp_all
  rw [iceModeReq, high]

theorem iceModeReq_done {p : List Byte} {m : IceMode} (h : byteAt p 0 = modeCode m) (s : State) :
    iceModeReq p s = done (s.withIce { s.ice with mode := m }) := by
  have code : iceModeOfCode (byteAt p 0) = some m := by
    rw [h]
    cases m <;> rfl
  rw [iceModeReq, code]

/-- In OFF the end of the event leaves no scraper request (R150). -/
theorem settle_request_off (before : State) (run : Running s) (off : s.ice.mode = .off) :
    (settle before s).ice.scraperRequest = false := by
  by_contra asked
  obtain ⟨kept, -⟩ := settle_request before run (by simpa using asked)
  have mode : (settle before s).ice.mode = .off := (kept_ice_mode (calm_kept (calm_settle before s))).trans off
  rcases kept.wanted.level with ⟨auto, -⟩ | ⟨forced, -⟩
  · rw [mode] at auto
    cases auto
  · rw [mode] at forced
    cases forced

/-- An accepted request other than STATUS READ finds the roof running. -/
theorem running_of_accepted {k : ReqKind} {src : Station} (h : Accepted k src s) (other : k ≠ .statusRead) : Running s :=
  ⟨h.listening.held, fun start => other (h.starting start)⟩

/-- Settles O18: the two requests by their codes, the examination row by row, and OFF by the scraper's keep
conditions. -/
theorem converterReportAndIceMode : Obligations.ConverterReportAndIceMode := by
  refine ⟨⟨fun a b s h => ?_, fun s => ⟨examineConverter_noneClosed, fun b closed =>
    ⟨examineConverter_lost closed, fun fresh sound =>
      ⟨examineConverter_mismatch closed fresh, examineConverter_agrees fresh sound⟩⟩⟩⟩, fun v n s h => ?_⟩
  · have answers := exec_accepted_of_rule (p := [a, b]) h rfl
    dsimp only
    refine ⟨fun out => answers _ .range [] (converterReport_range (p := [a, b]) out _), fun c state sys => answers _ .done [] ?_⟩
    have taken := converterReport_done (p := [a, b]) state sys (heard .tcc s)
    rw [takeReport, heard_now] at taken
    exact taken
  · have answers := exec_accepted_of_rule (p := [n]) h rfl
    have moded : ∀ m, n.toNat = modeCode m → exec (.iceMode (vcuStation v) [n]) s = .next (settle s
        (replied (vcuStation v) 0x0E [0x00#8] ((heard (vcuStation v) s).withIce { s.ice with mode := m }))) :=
      fun m code => by
        have done := iceModeReq_done (p := [n]) code (heard (vcuStation v) s)
        rw [heard_ice] at done
        cases v
        · exact answers _ .done [] done
        · exact answers _ .done [] done
    dsimp only
    refine ⟨fun high => ?_, moded, fun off t e => ?_⟩
    · have refused := iceModeReq_range (p := [n]) high (heard (vcuStation v) s)
      cases v
      · exact answers _ .range [] refused
      · exact answers _ .range [] refused
    · rw [moded .off (by rw [off]; rfl)] at e
      cases e
      have run := running_of_accepted h nofun
      generalize hu : replied (vcuStation v) 0x0E [0x00#8]
        ((heard (vcuStation v) s).withIce { s.ice with mode := .off }) = u
      have ice : u.ice = { s.ice with mode := .off } := by rw [← hu]; rfl
      have live : Running u := by
        rw [← hu]
        exact ⟨(heard_held _ s).trans run.held, (heard_roofState _ s).symm ▸ run.roof⟩
      have same := calm_kept (calm_settle s u)
      exact ⟨by rw [kept_ice_mode same, ice], settle_request_off s live (by rw [ice]),
        by rw [kept_ice_index same, ice], by rw [kept_ice_level same, ice]⟩

end Sys2Proof.Machine
end

section
/-!
PROOFS. What lapses in the cab unit, and the position between its reports (O44).
-/

namespace Sys2Proof.Machine

variable {s : State} {v : Vcu} {m : Nat}

/-! ### The lapses of the cab, the demand and the converter record (R73, R76, R80) -/

theorem lapseFrom_of_activity (heard : activityOf s.cau v = some m) : lapseFrom s.cau v = max m s.cau.activeSince := by
  rw [lapseFrom, heard]

theorem cabLapse_due (active : s.cau.active = some v) (due : effNat s Par.cabLapseMs ≤ s.now - lapseFrom s.cau v) :
    cabLapse s = roofDownRequest
      (setActive (offer s ⟨.cabLapse, some (.station (stationAddress (vcuStation v))), false⟩) none)
      .cabLapse (vcuOrigin v) := by
  rw [cabLapse, cabLapseDue, active]
  dsimp only
  rw [if_pos due]

theorem cabLapse_early (active : s.cau.active = some v) (early : s.now - lapseFrom s.cau v < effNat s Par.cabLapseMs) :
    cabLapse s = s := by
  rw [cabLapse, cabLapseDue, active]
  dsimp only
  rw [if_neg (Nat.not_le.mpr early)]

theorem demandExpiry_due {d : Demand} (live : s.cau.demand = some d)
    (due : effNat s Par.demandLifetimeMs ≤ s.now - d.refresh) :
    demandExpiry s = roofDownRequest s .demandExpiry (vcuOrigin d.origin) := by
  rw [demandExpiry, demandDue, live]
  dsimp only
  rw [if_pos due]

theorem converterStale_due (fresh : s.cau.conv.fresh = true) (report : s.cau.conv.reportTime = some m)
    (due : effNat s Par.converterLapseMs ≤ s.now - m) :
    converterStale s = examineConverter (s.withCau { s.cau with conv := { s.cau.conv with fresh := false } }) := by
  have old : converterDue s = true := by simp [converterDue, fresh, report, due]
  rw [converterStale, if_pos old]

/-! ### A change of converter_lapse_ms (R80) -/

theorem kept_examineConverter (s : State) : kept (examineConverter s) = kept s := by
  unfold examineConverter
  split
  · rfl
  · split
    · exact kept_offerBrk ..
    · split
      · exact kept_offerBrk ..
      · rfl

/-- The test of the record after a change: fresh exactly while it is younger than the new value, and otherwise as it
was. -/
theorem converterRetest_conv (report : s.cau.conv.reportTime = some m) : (converterRetest s).cau.conv =
    { s.cau.conv with fresh := decide (s.now - m < effNat s Par.converterLapseMs) } := by
  have young : converterYoung s = decide (s.now - m < effNat s Par.converterLapseMs) := by rw [converterYoung, report]
  unfold converterRetest
  rw [young]
  by_cases h : s.now - m < effNat s Par.converterLapseMs
  · rw [if_pos (decide_eq_true h), decide_eq_true h]
    rfl
  · rw [if_neg (by simpa using h), decide_eq_false h]
    cases fresh : s.cau.conv.fresh with
    | true =>
      rw [converterStale_due fresh report (Nat.not_lt.mp h), kept_conv (kept_examineConverter _)]
      rfl
    | false =>
      have stands : converterDue s = false := by rw [converterDue, fresh]; rfl
      rw [converterStale, if_neg (by simp [stands]), ← fresh]

theorem takeSet_converterLapse {w : Int} (changed : eff (takeSet Par.converterLapseMs w s) Par.converterLapseMs ≠
      eff s Par.converterLapseMs) : takeSet Par.converterLapseMs w s =
    converterRetest (applyChange s (setWritten Par.converterLapseMs w s)) := by
  have moved : effChanged s (setWritten Par.converterLapseMs w s) Par.converterLapseMs = true := by
    rw [effChanged, bne_iff_ne]
    rw [eff, takeSet_pst, ← setWritten_pst, ← eff] at changed
    exact changed.symm
  rw [takeSet_eq, if_pos moved]
  rfl

theorem setWritten_cau (n : Nat) (w : Int) (s : State) : (setWritten n w s).cau = s.cau := by
  unfold setWritten
  split <;> rfl

theorem setWritten_now (n : Nat) (w : Int) (s : State) : (setWritten n w s).now = s.now := by
  unfold setWritten
  split <;> rfl

theorem takeSet_conv {w : Int} (report : s.cau.conv.reportTime = some m)
    (changed : eff (takeSet Par.converterLapseMs w s) Par.converterLapseMs ≠ eff s Par.converterLapseMs) :
    (takeSet Par.converterLapseMs w s).cau.conv = { s.cau.conv with
      fresh := decide (s.now - m < effNat (takeSet Par.converterLapseMs w s) Par.converterLapseMs) } := by
  have applied := kept_applyChange s (setWritten Par.converterLapseMs w s)
  have conv : (applyChange s (setWritten Par.converterLapseMs w s)).cau.conv = s.cau.conv := by
    rw [kept_conv applied, setWritten_cau]
  have now : (applyChange s (setWritten Par.converterLapseMs w s)).now = s.now := by
    rw [kept_now applied, setWritten_now]
  have value : effNat (takeSet Par.converterLapseMs w s) Par.converterLapseMs =
      effNat (applyChange s (setWritten Par.converterLapseMs w s)) Par.converterLapseMs := by
    rw [effNat, effNat, eff, eff, takeSet_pst, kept_pst applied, setWritten_pst]
  rw [value, takeSet_converterLapse changed, converterRetest_conv (by rw [conv]; exact report), conv, now]

/-! ### The position (R96, R97, R101) -/

theorem odometerPulse_invalid (invalid : s.smp.pos.valid = false) : odometerPulse s = s :=
  if_neg (by simp [invalid])

theorem odometerPulse_short (valid : s.smp.pos.valid = true)
    (short : (movePosition s.smp.pos (effNat s Par.odometerMm)).travelMm < 10000) : odometerPulse s =
      s.withSmp { s.smp with pos := movePosition s.smp.pos (effNat s Par.odometerMm) } :=
  (if_pos valid).trans (if_neg (Nat.not_le.mpr short))

theorem odometerPulse_long (valid : s.smp.pos.valid = true)
    (long : 10000 ≤ (movePosition s.smp.pos (effNat s Par.odometerMm)).travelMm) : odometerPulse s =
      newOutlook (s.withSmp { s.smp with pos := { movePosition s.smp.pos (effNat s Par.odometerMm) with
        travelMm := (movePosition s.smp.pos (effNat s Par.odometerMm)).travelMm - 10000 } }) :=
  (if_pos valid).trans (if_pos long)

theorem positionDue_eq (valid : s.smp.pos.valid = true) (current : s.smp.pos.stale = false)
    (report : s.smp.pos.reportTime = some m) :
    positionDue s = decide (effNat s Par.positionLapseS * 1000 ≤ s.now - m) := by
  simp [positionDue, valid, current, report]

theorem positionLapse_due (due : positionDue s = true) : positionLapse s = newOutlook
    (offer (s.withSmp { s.smp with pos := { s.smp.pos with stale := true } })
      ⟨.positionLapse, some (.position s.smp.pos.positionM), false⟩) := if_pos due

theorem positionLapse_early (early : positionDue s = false) : positionLapse s = s := if_neg (by simp [early])

/-- Settles O44: each event by what its test finds due, and the change of converter_lapse_ms by the test of the
record. -/
theorem timesOfTheCabAndThePosition : Obligations.TimesOfTheCabAndThePosition := by
  have completes : ∀ {f : State → State} {s u : State}, s.held = false → f s = u → event f s = .next (settle s u) :=
    fun live e => by rw [event_live live, e]
  refine ⟨fun s live => ⟨fun v active => ⟨fun m heard due => ?_, fun m heard early => ?_⟩, fun d demand due => ?_,
    fun m fresh report due => ?_⟩, fun w m s report => ?_, fun s live => ⟨fun invalid => ?_, fun valid => ?_,
      fun m valid current report => ⟨fun due => ?_, fun early => ?_⟩⟩⟩
  · exact completes (f := cabLapse) live (cabLapse_due active (by rwa [lapseFrom_of_activity heard]))
  · exact completes (f := cabLapse) live (cabLapse_early active (by rwa [lapseFrom_of_activity heard]))
  · exact completes (f := demandExpiry) live (demandExpiry_due demand due)
  · exact completes (f := converterStale) live (converterStale_due fresh report due)
  · intro u changed
    have conv : u.cau.conv = _ := takeSet_conv report changed
    rw [conv]
    exact ⟨decide_eq_true_iff, rfl⟩
  · exact completes (f := odometerPulse) live (odometerPulse_invalid invalid)
  · exact ⟨fun short => completes (f := odometerPulse) live (odometerPulse_short valid short),
      fun long => completes (f := odometerPulse) live (odometerPulse_long valid long)⟩
  · exact completes (f := positionLapse) live
      (positionLapse_due ((positionDue_eq valid current report).trans (decide_eq_true due)))
  · exact completes (f := positionLapse) live
      (positionLapse_early ((positionDue_eq valid current report).trans (decide_eq_false (Nat.not_le.mpr early))))

end Sys2Proof.Machine
end

section
/-!
PROOFS. The section table (R85): what its operations do to a table that is in order, distinct and bounded, and the
commands that may change it, each keeping its law (O56).
-/

namespace Sys2Proof.Machine

/-! ### Placing and removing entries (R85, R89) -/

theorem sameEntry_comm (a b : Entry) : sameEntry a b = sameEntry b a := by
  simp only [sameEntry, beq_eq_decide, eq_comm]

theorem placeEntry_perm (t : List Entry) (e : Entry) : (placeEntry t e).Perm (e :: t) := by
  induction t with
  | nil => exact .refl _
  | cons f rest ih =>
    unfold placeEntry
    split
    · exact (ih.cons f).trans (.swap e f rest)
    · exact .refl _

theorem placeEntry_sorted {t : List Entry} (h : t.Pairwise fun a b => a.startM ≤ b.startM) (e : Entry) :
    (placeEntry t e).Pairwise fun a b => a.startM ≤ b.startM := by
  induction t with
  | nil => exact List.pairwise_singleton _ _
  | cons f rest ih =>
    obtain ⟨first, sorted⟩ := List.pairwise_cons.mp h
    unfold placeEntry
    split
    · rename_i before
      refine List.pairwise_cons.mpr ⟨fun x hx => ?_, ih sorted⟩
      rcases List.mem_cons.mp ((placeEntry_perm rest e).mem_iff.mp hx) with rfl | old
      · exact before
      · exact first x old
    · rename_i after
      have above : e.startM ≤ f.startM := Nat.le_of_lt (Nat.not_le.mp after)
      refine List.pairwise_cons.mpr ⟨fun x hx => ?_, h⟩
      rcases List.mem_cons.mp hx with rfl | old
      · exact above
      · exact above.trans (first x old)

theorem fixedCount_placeEntry (t : List Entry) (e : Entry) :
    fixedCount (placeEntry t e) = fixedCount t + bitOf e.isFixed := by
  rw [fixedCount, ((placeEntry_perm t e).filter _).length_eq, List.filter_cons]
  cases e.isFixed <;> rfl

theorem routeCount_placeEntry (t : List Entry) (e : Entry) :
    routeCount (placeEntry t e) = routeCount t + bitOf (!e.isFixed) := by
  rw [routeCount, ((placeEntry_perm t e).filter _).length_eq, List.filter_cons]
  cases e.isFixed <;> rfl

/-- Whether an entry is held already does not depend on the order of the table. -/
theorem any_placeEntry (t : List Entry) (e : Entry) (p : Entry → Bool) : (placeEntry t e).any p = (e :: t).any p :=
  (placeEntry_perm t e).any_eq

theorem TableHolds.nil : TableHolds [] := ⟨.nil, .nil, Nat.zero_le _, Nat.zero_le _⟩

/-- Taking entries out keeps the law. -/
theorem TableHolds.sublist {t u : List Entry} (h : TableHolds t) (sub : u.Sublist t) : TableHolds u where
  sorted := h.sorted.sublist sub
  distinct := h.distinct.sublist sub
  fixed := (sub.filter _).length_le.trans h.fixed
  routes := (sub.filter _).length_le.trans h.routes

/-- Placing a new entry for which there is room keeps the law. -/
theorem TableHolds.place {t : List Entry} {e : Entry} (h : TableHolds t) (new : t.any (sameEntry e) = false)
    (fixed : fixedCount t + bitOf e.isFixed ≤ 16) (routes : routeCount t + bitOf (!e.isFixed) ≤ 48) :
    TableHolds (placeEntry t e) where
  sorted := placeEntry_sorted h.sorted e
  distinct := by
    have symm : ∀ {a b}, sameEntry a b = false → sameEntry b a = false := fun {a b} => (sameEntry_comm a b ▸ ·)
    refine ((placeEntry_perm t e).pairwise_iff symm).mpr (List.pairwise_cons.mpr ⟨fun x hx => ?_, h.distinct⟩)
    simpa using List.any_eq_false.mp new x hx
  fixed := fixedCount_placeEntry t e ▸ fixed
  routes := routeCount_placeEntry t e ▸ routes

/-! ### SECTION LOAD's entries (R87, R88) -/

/-- The search for a duplicate looks at the entries held, not at their order. -/
theorem firstDuplicate_congr {t u : List Entry} (same : ∀ p, t.any p = u.any p) (n : Nat) (es : List Entry) :
    firstDuplicate t n es = firstDuplicate u n es := by
  induction es generalizing t u n with
  | nil => rfl
  | cons e rest ih =>
    have next := ih (t := e :: t) (u := e :: u) (fun p => by rw [List.any_cons, List.any_cons, same]) (n + 1)
    rw [firstDuplicate, firstDuplicate, same, next]

/-- Where no entry of a request is a duplicate, the first is new, and the others are none beside it. -/
theorem firstDuplicate_cons_none {t : List Entry} {e : Entry} {n : Nat} {rest : List Entry}
    (h : firstDuplicate t n (e :: rest) = none) :
    t.any (sameEntry e) = false ∧ firstDuplicate (placeEntry t e) (n + 1) rest = none := by
  unfold firstDuplicate at h
  split at h
  · cases h
  · rename_i new
    exact ⟨by simpa using new, (firstDuplicate_congr (any_placeEntry t e) _ _).trans h⟩

theorem routeCount_placeAll (es : List Entry) (t : List Entry) (route : ∀ e ∈ es, e.isFixed = false) :
    routeCount (es.foldl placeEntry t) = routeCount t + es.length := by
  induction es generalizing t with
  | nil => rfl
  | cons e rest ih =>
    obtain ⟨first, others⟩ := List.forall_mem_cons.mp route
    rw [List.foldl_cons, ih _ others, routeCount_placeEntry, first, List.length_cons]
    exact Nat.add_right_comm _ _ _

theorem TableHolds.placeAll {t : List Entry} {es : List Entry} {n : Nat} (h : TableHolds t)
    (route : ∀ e ∈ es, e.isFixed = false) (new : firstDuplicate t n es = none)
    (room : routeCount t + es.length ≤ 48) : TableHolds (es.foldl placeEntry t) := by
  induction es generalizing t n with
  | nil => exact h
  | cons e rest ih =>
    obtain ⟨first, others⟩ := List.forall_mem_cons.mp route
    obtain ⟨fresh, restNew⟩ := firstDuplicate_cons_none new
    rw [List.length_cons] at room
    have counted : routeCount (placeEntry t e) = routeCount t + 1 := by rw [routeCount_placeEntry, first]; rfl
    have placed : TableHolds (placeEntry t e) :=
      h.place fresh (by rw [first]; exact h.fixed) (by rw [first]; simp only [Bool.not_false, bitOf, if_true]; omega)
    exact ih placed others restNew (by omega)

/-- An entry read from the link is a route entry. -/
theorem entryOfBytes_isFixed {fixed : Bool} {bs : List Byte} {e : Entry} (h : entryOfBytes fixed bs = some e) :
    e.isFixed = fixed := by
  unfold entryOfBytes at h
  dsimp only at h
  split at h
  · split at h <;> cases h
    rfl
  · cases h

theorem newOutlook_table (s : State) : (newOutlook s).smp.table = s.smp.table :=
  kept_table (calm_kept (calm_newOutlook s))

theorem tableHolds_sectionLoad {s : State} (h : TableHolds s.smp.table) (p : List Byte) :
    TableHolds (sectionLoad p s).1.smp.table := by
  unfold sectionLoad
  dsimp only
  split
  · exact h
  · split
    · exact h
    · split
      · exact h
      · rename_i new
        split
        · exact h
        · rename_i room
          rw [placeAll, newOutlook_table]
          refine h.placeAll (fun e he => ?_) new (Nat.not_lt.mp room)
          obtain ⟨x, hx, rfl⟩ := List.mem_filterMap.mp he
          obtain ⟨bs, -, read⟩ := List.mem_map.mp hx
          exact entryOfBytes_isFixed read

theorem tableHolds_clearRoutes {s : State} (h : TableHolds s.smp.table) (gone : Entry → Bool) :
    TableHolds (clearRoutes gone s).1.smp.table := by
  change TableHolds (newOutlook _).smp.table
  rw [newOutlook_table]
  exact h.sublist List.filter_sublist

theorem tableHolds_sectionClear {s : State} (h : TableHolds s.smp.table) (p : List Byte) :
    TableHolds (sectionClear p s).1.smp.table := by
  unfold sectionClear
  split
  · exact tableHolds_clearRoutes h _
  · split
    · exact tableHolds_clearRoutes h _
    · exact h
  · exact h

/-! ### Requests and frames -/

variable {s t : State}

/-- Whatever is not granted the table keeps its law. -/
theorem Guards.tableHolds (g : Guards (· ≠ .table) s t) (h : TableHolds s.smp.table) : TableHolds t.smp.table :=
  (g.table fun n => n rfl) ▸ h

theorem tableHolds_requestRule (k : ReqKind) (src : Station) (p : List Byte) (h : TableHolds s.smp.table) :
    TableHolds (requestRule k src p s).1.smp.table := by
  by_cases load : k = .sectionLoad
  · subst load; exact tableHolds_sectionLoad h p
  by_cases clear : k = .sectionClear
  · subst clear; exact tableHolds_sectionClear h p
  have granted : Granted (· ≠ .table) k := ⟨fun e => (e.elim load clear).elim, fun _ => nofun, fun _ => nofun⟩
  exact (guards_requestRule granted src p (.refl s)).tableHolds h

theorem tableHolds_takeRequest (k : ReqKind) (src : Station) (p : List Byte) (h : TableHolds s.smp.table) :
    TableHolds (takeRequest k src p (requestRule k src p) s).smp.table := by
  have listened : TableHolds (heard src s).smp.table := by rwa [heard_smp]
  rcases takeRequest_cases k src p (requestRule k src p) s with e | e | ⟨code, r, e, rfl | how⟩ <;> rw [e]
  · exact h
  · exact h
  · exact tableHolds_requestRule k src p listened
  · change TableHolds r.1.smp.table
    rwa [how]

theorem tableHolds_frameFate (f : List Byte) (h : TableHolds s.smp.table) : TableHolds (frameFate f s).smp.table := by
  unfold frameFate
  cases e : discardFate f s with
  | some v => exact (guards_discardFate (.refl s) e).tableHolds h
  | none =>
    unfold dispatchFrame
    rw [Option.getD_none]
    split
    · exact h
    · split
      · rw [takeKind_eq]
        exact tableHolds_takeRequest _ _ _ h
      · exact (guards_takeUnknownKind (.refl s) _ _).tableHolds h

theorem tableHolds_ite {p : Prop} [Decidable p] (ht : TableHolds s.smp.table) (he : TableHolds t.smp.table) :
    TableHolds (if p then s else t).smp.table := by
  split
  · exact ht
  · exact he

theorem tableHolds_charArrives (c : Byte) (stop : Bool) (h : TableHolds s.smp.table) :
    TableHolds (charArrives c stop s).smp.table := by
  have received : ∀ u : State, TableHolds u.smp.table → TableHolds (receive c stop u).smp.table := fun u hu => by
    have broken := (guards_breakFrame (may := (· ≠ .table)) (.refl u) .silenceWait).tableHolds hu
    unfold receive
    split
    · exact hu
    · exact tableHolds_ite hu hu
    · exact tableHolds_ite broken (tableHolds_ite (tableHolds_frameFate _ hu) hu)
  exact tableHolds_ite h (tableHolds_ite h (received _ h))

/-! ### The load and the resets (R86, R171, R175, R177) -/

theorem tableHolds_takeFixed (bs : List Byte) (h : TableHolds s.smp.table) :
    TableHolds (takeFixed s bs).smp.table := by
  have skipped : ∀ o, TableHolds (offer s o).smp.table := fun o => kept_table (kept_offer s o) ▸ h
  unfold takeFixed
  dsimp only
  split
  · exact skipped _
  · rename_i e read
    split
    · exact skipped _
    · rename_i new
      split
      · exact skipped _
      · rename_i room
        have fixed := entryOfBytes_isFixed read
        refine h.place (by simpa using new) ?_ ?_ <;> rw [fixed]
        · exact Nat.not_le.mp room
        · exact h.routes

theorem tableHolds_fixedEntries (rs : List (List Byte)) (h : TableHolds s.smp.table) :
    TableHolds (rs.foldl takeFixed s).smp.table := by
  induction rs generalizing s with
  | nil => exact h
  | cons r rs ih => exact ih (tableHolds_takeFixed r h)

theorem tableHolds_takeSegment (g : Segment) (bs : List Byte) (h : TableHolds s.smp.table) :
    TableHolds (takeSegment g bs s).smp.table := by
  have marked : ∀ x, TableHolds (if x = SegLoad.part then offerPlain (s.withPst (setSeg s.pst g x)) .segmentInvalid
      else s.withPst (setSeg s.pst g x)).smp.table := fun x =>
    tableHolds_ite (kept_table (kept_offerPlain (s.withPst (setSeg s.pst g x)) .segmentInvalid) ▸ h) h
  have valued : ∀ rs l (u : State), TableHolds u.smp.table →
      TableHolds (takeRecords (fun _ => true) u l rs).1.smp.table := fun rs l u hu =>
    (guards_takeRecords (may := (· ≠ .table)) (fun _ => true) rs (.refl u) l).tableHolds hu
  exact tableHolds_ite (tableHolds_fixedEntries _ (marked _)) (valued _ _ _ (marked _))

theorem tableHolds_loadNoAnswer (h : TableHolds s.smp.table) : TableHolds (loadNoAnswer s).smp.table := by
  have offered : TableHolds (offerPlain s .eepromNoAnswer).smp.table :=
    kept_table (kept_offerPlain s .eepromNoAnswer) ▸ h
  unfold loadNoAnswer
  exact (guards_fallBack (.refl _) _).tableHolds (offered.sublist List.filter_sublist)

theorem tableHolds_segmentRead (r : ReadResult) (h : TableHolds s.smp.table) :
    TableHolds (segmentRead r s).smp.table := by
  unfold segmentRead
  split
  · exact tableHolds_ite ((guards_advanceLoad _ (.refl _)).tableHolds (tableHolds_takeSegment _ _ h)) h
  · exact tableHolds_loadNoAnswer h
  · exact h
  · exact h

theorem tableHolds_releaseReset (straps : BitVec 5) (h : TableHolds s.smp.table) :
    TableHolds (releaseReset straps s).smp.table := by
  rw [releaseReset_eq]
  exact tableHolds_ite h ((guards_fallBack (.refl _) _).tableHolds h)

/-! ### Commands and steps -/

theorem tableHolds_event {f : State → State} (h : TableHolds s.smp.table)
    (hf : TableHolds (f s).smp.table) (e : event f s = .next t) : TableHolds t.smp.table := by
  obtain ⟨u, eu, ⟨-, rfl⟩ | ⟨-, rfl⟩⟩ := event_next f s <;> rw [eu] at e <;> cases e
  · exact h
  · rwa [kept_table (calm_kept (calm_settle s (f s)))]

theorem tableHolds_resetRelease {straps : BitVec 5} (h : TableHolds s.smp.table)
    (e : exec (.resetRelease straps) s = .next t) : TableHolds t.smp.table := by
  change (if s.held then .next (settle s (releaseReset straps s)) else .next s) = Host.Outcome.next t at e
  split at e <;> cases e
  · rw [kept_table (calm_kept (calm_settle s _))]
    exact tableHolds_releaseReset straps h
  · exact h

/-- Only the requests for the table, a frame, the load and the resets can change it, and each keeps its law. -/
theorem tableHolds_exec {c : Instr} (h : TableHolds s.smp.table) (e : exec c s = .next t) : TableHolds t.smp.table := by
  have request : ∀ k src p, exec (requestCmd k src p) s = .next t → TableHolds t.smp.table := fun k src p e => by
    rw [exec_requestCmd] at e
    exact tableHolds_event h (tableHolds_takeRequest k src p h) e
  by_cases granted : grants c .table
  · rcases granted with reset | frame | ⟨src, p, rfl | rfl⟩ | ⟨bs, rfl⟩ | rfl
    · cases c with
      | softResetAction straps =>
        exact tableHolds_event h (tableHolds_ite (tableHolds_releaseReset straps .nil) h) e
      | powerOnReset => cases e; exact .nil
      | pinReset => cases e; exact .nil
      | resetRelease straps => exact tableHolds_resetRelease h e
      | _ => cases reset
    · cases c with
      | characterReceived x => exact tableHolds_event h (tableHolds_charArrives x true h) e
      | answerWithdrawn x => exact tableHolds_event h (tableHolds_ite (tableHolds_charArrives x true h) h) e
      | _ => cases frame
    · exact request .sectionLoad src p e
    · exact request .sectionClear src p e
    · exact tableHolds_event h (tableHolds_segmentRead _ h) e
    · exact tableHolds_event h (tableHolds_segmentRead _ h) e
  · exact (guards_exec e).table granted ▸ h

theorem idle_table (s : State) : (idle s).smp.table = s.smp.table := by
  have passed : (tickTime s).smp.table = s.smp.table :=
    (guards_tickTime (may := (· = .reset)) rfl (.refl s)).table nofun
  unfold idle
  split
  · rfl
  · exact passed

/-- Settles O56: a millisecond leaves the table alone, and every command keeps its law (`tableHolds_exec`). -/
theorem sectionTableStaysOrdered : Obligations.SectionTableStaysOrdered := by
  intro s t h e
  unfold step at e
  split at e
  · cases e
    rwa [idle_table]
  · exact tableHolds_exec (by exact h) e

end Sys2Proof.Machine
end

section
/-!
PROOFS. The requests that read: what SECTION READ, PARAMETER READ and FAULT READ answer (O7).
-/

namespace Sys2Proof.Machine

/-! ### The rule of each (R90, R164, R181) -/

theorem sectionRead_done {n : Byte} (low : n.toNat ≤ 63) (s : State) : sectionRead [n] s = (s, ⟨.done,
    [BitVec.ofNat 8 (fixedCount s.smp.table), BitVec.ofNat 8 (routeCount s.smp.table)]
      ++ ((s.smp.table.drop n.toNat).take 4).flatMap entryBytes⟩) :=
  if_neg (Nat.not_lt.mpr low)

theorem sectionRead_range {n : Byte} (high : ¬ n.toNat ≤ 63) (s : State) : sectionRead [n] s = refuse .range s :=
  if_pos (Nat.not_le.mp high)

theorem paramRow_number {n : Nat} {r : ParamRow} (h : paramRow n = some r) : r.number = n :=
  beq_iff_eq.mp (List.find?_some (p := fun r : ParamRow => r.number == n) h)

theorem parameterRead_done {n : Byte} {r : ParamRow} (row : paramRow n.toNat = some r) (s : State) :
    parameterRead [n] s = (s, ⟨.done, [n] ++ leBytesInt 3 (eff s n.toNat)
      ++ [BitVec.ofNat 8 (layerOf s.pst n.toNat)] ++ leBytesInt 3 r.low ++ leBytesInt 3 r.high⟩) := by
  have named : paramRow (byteAt [n] 0) = some r := row
  rw [parameterRead, named]
  dsimp only
  rw [valueBytes, paramRow_number row, BitVec.ofNat_toNat, BitVec.setWidth_eq]

theorem parameterRead_range {n : Byte} (row : paramRow n.toNat = none) (s : State) :
    parameterRead [n] s = refuse .range s := by
  have unnamed : paramRow (byteAt [n] 0) = none := row
  rw [parameterRead, unnamed]

theorem faultRead_done {n : Byte} {b : BankId} (code : bankOfCode n.toNat = some b) (s : State) :
    faultRead [n] s = (s, ⟨.done, n :: faultBytes (900 + 20 * n.toNat) (bank s.flt b)⟩) := by
  have named : bankOfCode (byteAt [n] 0) = some b := code
  have same : codeByte (byteAt [n] 0) = n := (BitVec.ofNat_toNat ..).trans (BitVec.setWidth_eq n)
  rw [faultRead, named, same]
  rfl

theorem faultRead_range {n : Byte} (code : bankOfCode n.toNat = none) (s : State) :
    faultRead [n] s = refuse .range s := by
  have unnamed : bankOfCode (byteAt [n] 0) = none := code
  rw [faultRead, unnamed]

/-- Settles O7: each rule's answer, on a state that has done no more than hear the request. -/
theorem readsAnswerTheRecords : Obligations.ReadsAnswerTheRecords := by
  intro src n s
  refine ⟨fun h => ?_, fun h => ?_, fun h => ?_⟩
  · have answers := exec_accepted_of_rule (p := [n]) h rfl (heard src s)
    split
    · rename_i low
      refine answers .done _ ((sectionRead_done low _).trans ?_)
      rw [heard_smp]
      rfl
    · rename_i high
      exact answers .range [] (sectionRead_range high _)
  · have answers := exec_accepted_of_rule (p := [n]) h rfl (heard src s)
    cases row : paramRow n.toNat with
    | some r =>
      refine answers .done _ ((parameterRead_done row _).trans ?_)
      rw [heard_eff, heard_pst]
      rfl
    | none => exact answers .range [] (parameterRead_range row _)
  · have answers := exec_accepted_of_rule (p := [n]) h rfl (heard src s)
    cases code : bankOfCode n.toNat with
    | some b =>
      refine answers .done _ ((faultRead_done code _).trans ?_)
      rw [heard_flt]
    | none => exact answers .range [] (faultRead_range code _)

end Sys2Proof.Machine
end

section
/-!
PROOFS. POSITION, SECTION LOAD and SECTION CLEAR (O16).
-/

namespace Sys2Proof.Machine

/-! ### Section entries on the link (Table 10-10) -/

/-- A number that fits its bytes is read back. -/
theorem leNat_leBytes (k : Nat) {n : Nat} (h : n < 256 ^ k) : leNat (leBytes k n) = n := by
  induction k generalizing n with
  | zero => exact (Nat.lt_one_iff.mp h).symm
  | succ k ih =>
    have high : n / 256 < 256 ^ k := Nat.div_lt_of_lt_mul (by rwa [← Nat.pow_succ'])
    rw [leBytes, leNat, ih high, BitVec.toNat_ofNat]
    exact Nat.mod_add_div n 256

theorem secKindOfCode_secKindCode (k : SecKind) : secKindOfCode (secKindCode k) = some k := by
  cases k with
  | sys g => cases g <;> rfl
  | _ => rfl

/-- The origin in bit 7 of the kind byte is not read (R87). -/
theorem secKindCode_of_byte (k : SecKind) (route : Bool) :
    (BitVec.ofNat 8 (secKindCode k + 128 * bitOf route)).toNat % 128 = secKindCode k := by
  have code : secKindCode k ≤ 8 := by
    cases k with
    | sys g => cases g <;> decide
    | _ => decide
  rw [BitVec.toNat_ofNat]
  cases route <;> simp only [bitOf, if_true, Bool.false_eq_true, if_false] <;> omega

theorem entryBytes_length (e : Entry) : (entryBytes e).length = 8 := rfl

/-- An entry as Table 10-10 carries it is read back, with the origin of who reads it. -/
theorem entryOfBytes_entryBytes {e : Entry} {fixed : Bool} (origin : e.isFixed = fixed) (order : e.startM < e.stopM)
    (stop : e.stopM < 16777216) (track : e.track ≤ 15) : entryOfBytes fixed (entryBytes e) = some e := by
  have starts : leNat ((entryBytes e).take 3) = e.startM := leNat_leBytes 3 (order.trans stop)
  have stops : leNat (((entryBytes e).drop 3).take 3) = e.stopM := leNat_leBytes 3 stop
  have kind : secKindOfCode (((entryBytes e).getD 6 0).toNat % 128) = some e.kind :=
    (congrArg secKindOfCode (secKindCode_of_byte e.kind (!e.isFixed))).trans (secKindOfCode_secKindCode e.kind)
  have tracks : ((entryBytes e).getD 7 0).toNat = e.track := by
    change (BitVec.ofNat 8 e.track).toNat = e.track
    rw [BitVec.toNat_ofNat]
    omega
  rw [entryOfBytes, starts, stops, kind, tracks]
  dsimp only
  rw [if_pos ⟨order, track⟩, ← origin]

/-- Pieces of equal length, set one after the other, are cut apart again. -/
theorem pieces_flatMap {α β : Type} {f : α → List β} {k : Nat} (size : ∀ x, (f x).length = k) (pos : 0 < k)
    (xs : List α) (fuel : Nat) (enough : xs.length ≤ fuel) : pieces k fuel (xs.flatMap f) = xs.map f := by
  induction xs generalizing fuel with
  | nil => cases fuel <;> rfl
  | cons x xs ih =>
    cases fuel with
    | zero => cases enough
    | succ fuel =>
      obtain ⟨b, bs, first⟩ := List.exists_cons_of_length_pos (size x ▸ pos)
      have cut : pieces k (fuel + 1) (f x ++ xs.flatMap f) =
          (f x ++ xs.flatMap f).take k :: pieces k fuel ((f x ++ xs.flatMap f).drop k) := by
        rw [first]
        rfl
      rw [List.flatMap_cons, cut, List.take_left' (size x), List.drop_left' (size x), ih fuel (by simpa using enough)]
      rfl

theorem entries_length (es : List Entry) : (es.flatMap entryBytes).length = 8 * es.length := by
  induction es with
  | nil => rfl
  | cons e rest ih => rw [List.flatMap_cons, List.length_append, entryBytes_length, ih, List.length_cons]; omega

/-! ### SECTION LOAD (R87, R88) -/

theorem firstBad_of_read (es : List Entry) (n : Nat) : firstBad n (es.map some) = none := by
  induction es generalizing n with
  | nil => rfl
  | cons e rest ih => exact ih (n + 1)

theorem sectionLoad_rangeZero {p : List Byte} (h : p.length = 0 ∨ 32 < p.length) (s : State) :
    sectionLoad p s = (s, ⟨.range, [0x00#8]⟩) := if_pos h

/-- Entries that SECTION LOAD can carry (Table 5-2, row 2; Table 10-10). -/
def Loadable (e : Entry) : Prop := e.isFixed = false ∧ e.startM < e.stopM ∧ e.stopM < 16777216 ∧ e.track ≤ 15

theorem loadable_read {es : List Entry} (ok : ∀ e ∈ es, Loadable e) :
    (pieces 8 (es.flatMap entryBytes).length (es.flatMap entryBytes)).map (entryOfBytes false) = es.map some := by
  rw [pieces_flatMap entryBytes_length (by decide) es _ (by rw [entries_length]; omega), List.map_map]
  refine List.map_congr_left fun e he => ?_
  obtain ⟨route, order, stop, track⟩ := ok e he
  exact entryOfBytes_entryBytes route order stop track

/-- One to four entries that can be read are tested for duplicates, then for room, and placed. -/
theorem sectionLoad_entries {es : List Entry} (many : 1 ≤ es.length) (few : es.length ≤ 4)
    (ok : ∀ e ∈ es, Loadable e) (s : State) :
    (∀ n, firstDuplicate s.smp.table 1 es = some n →
      sectionLoad (es.flatMap entryBytes) s = (s, ⟨.duplicate, [BitVec.ofNat 8 n]⟩)) ∧
    (firstDuplicate s.smp.table 1 es = none → sectionLoad (es.flatMap entryBytes) s =
      if 48 < routeCount s.smp.table + es.length then refuse .tableFull s
      else (placeAll es s, ⟨.done, [BitVec.ofNat 8 (routeCount (placeAll es s).smp.table)]⟩)) := by
  have length := entries_length es
  have fits : ¬ ((es.flatMap entryBytes).length = 0 ∨ 32 < (es.flatMap entryBytes).length) := by omega
  have all : (es.map some).filterMap id = es := by rw [List.filterMap_map]; exact List.filterMap_some
  unfold sectionLoad
  dsimp only
  rw [loadable_read ok, if_neg fits, firstBad_of_read, all]
  refine ⟨fun n dup => ?_, fun new => ?_⟩
  · rw [dup]
  · rw [new]

theorem placeAll_routeCount {es : List Entry} (route : ∀ e ∈ es, e.isFixed = false) (s : State) :
    routeCount (placeAll es s).smp.table = routeCount s.smp.table + es.length := by
  rw [placeAll, newOutlook_table]
  exact routeCount_placeAll es _ route

/-! ### POSITION (R95) -/

theorem positionReq_range {p0 p1 p2 track dir v0 v1 : Byte} (h : 14 < track.toNat ∨ 1 < dir.toNat) (s : State) :
    positionReq [p0, p1, p2, track, dir, v0, v1] s = refuse .range s := if_pos (.inr h)

theorem leNat_two (b0 b1 : Byte) : leNat [b0, b1] = b0.toNat + 256 * b1.toNat := by simp [leNat]

theorem leNat_three (b0 b1 b2 : Byte) : leNat [b0, b1, b2] = b0.toNat + 256 * b1.toNat + 65536 * b2.toNat := by
  simp only [leNat]
  omega

theorem positionReq_done {p0 p1 p2 track dir v0 v1 : Byte} (ht : track.toNat ≤ 14) (hd : dir.toNat ≤ 1) (s : State) :
    positionReq [p0, p1, p2, track, dir, v0, v1] s =
      done (takePosition (p0.toNat + 256 * p1.toNat + 65536 * p2.toNat) track.toNat (dir == 1#8)
        (v0.toNat + 256 * v1.toNat) s) := by
  have inRange : ¬ (16777215 < leNat [p0, p1, p2] ∨ 14 < track.toNat ∨ 1 < dir.toNat) := by
    rw [leNat_three]
    omega
  have minus : (dir.toNat == 1) = (dir == 1#8) := by
    rw [Bool.eq_iff_iff, beq_iff_eq, beq_iff_eq, BitVec.toNat_eq]
    rfl
  rw [← leNat_three, ← leNat_two, ← minus]
  exact if_neg inRange

/-- The position record made anew, and the outlook with it. -/
def placedAt (p track : Nat) (minus : Bool) (speed : Nat) (u : State) : State :=
  newOutlook (u.withSmp { u.smp with pos :=
    { valid := true, positionM := p, remainderMm := 0, track := track, minus := minus, speed := min 400 speed,
      speedClamped := decide (400 < speed), reportTime := some u.now, stale := false, travelMm := 0 } })

theorem takePosition_jump {p : Nat} (track : Nat) (minus : Bool) (speed : Nat) {s : State} (jump : jumps s p = true) :
    takePosition p track minus speed s =
      placedAt p track minus speed (offer s ⟨.positionJump, some (.position p), false⟩) := by
  rw [takePosition, if_pos jump]
  rfl

theorem takePosition_still {p : Nat} (track : Nat) (minus : Bool) (speed : Nat) {s : State}
    (still : ¬ jumps s p = true) :
    takePosition p track minus speed s = placedAt p track minus speed s := by
  rw [takePosition, if_neg still]
  rfl

theorem jumps_heard_iff (src : Station) (s : State) (p : Nat) : jumps (heard src s) p = true ↔
    s.smp.pos.valid = true ∧
      effNat s Par.jumpToleranceM < (p - s.smp.pos.positionM) + (s.smp.pos.positionM - p) := by
  rw [jumps, heard_smp, effNat, heard_eff, ← effNat, Bool.and_eq_true, decide_eq_true_iff]

/-! ### SECTION CLEAR (R89) -/

theorem sectionClear_range {scope : Byte} (h : 1 < scope.toNat) (s : State) :
    sectionClear [scope] s = refuse .range s := by
  have code : byteAt [scope] 0 = scope.toNat := rfl
  unfold sectionClear
  rw [code]
  split
  · omega
  · omega
  · rfl

theorem sectionClear_behind {s : State} (valid : s.smp.pos.valid = true) :
    sectionClear [0x01#8] s = clearRoutes (behind s.smp.pos) s := if_pos valid

theorem sectionClear_noPosition {s : State} (invalid : s.smp.pos.valid = false) :
    sectionClear [0x01#8] s = (s, conditionOf subNoPosition) := if_neg (by simp [invalid])

/-! ### The three requests -/

theorem exec_sectionLoad {src : Station} {s : State} (h : Accepted .sectionLoad src s) {p : List Byte}
    (whole : p.length % 8 = 0) {u : State} {c : AnswerCode} {rest : List Byte}
    (rule : sectionLoad p (heard src s) = (u, ⟨c, rest⟩)) :
    exec (.sectionLoad src p) s = .next (settle s (replied src 0x0B (answerByte c :: rest) u)) :=
  exec_accepted_of_rule h (beq_iff_eq.mpr whole) u c rest rule

/-- What a clear removes is counted, and the others stay (R89). -/
theorem clearRoutes_heard (gone : Entry → Bool) (src : Station) (s : State) :
    let kept := s.smp.table.filter fun e => e.isFixed || !gone e
    clearRoutes gone (heard src s) = (newOutlook ((heard src s).withSmp { s.smp with table := kept }),
      ⟨.done, [BitVec.ofNat 8 (s.smp.table.length - kept.length), BitVec.ofNat 8 (routeCount kept)]⟩) := by
  dsimp only
  rw [clearRoutes, heard_smp]

/-- Settles O16: each request by its rule's cases, on the state that has heard it. -/
theorem positionAndSectionRequests : Obligations.PositionAndSectionRequests := by
  refine ⟨fun v p0 p1 p2 track dir v0 v1 s h => ?_, fun src s h => ⟨fun p whole out => ?_,
    fun es many few ok => ?_⟩, fun src scope s h => ?_⟩
  · have answers := exec_accepted_of_rule (p := [p0, p1, p2, track, dir, v0, v1]) h rfl
    have jumped := jumps_heard_iff (vcuStation v) s (p0.toNat + 256 * p1.toNat + 65536 * p2.toNat)
    dsimp only
    refine ⟨fun out => answers _ .range [] (positionReq_range out _), fun ht hd => ⟨fun jump => ?_, fun still => ?_⟩⟩
    · refine answers _ .done [] ((positionReq_done ht hd _).trans ?_)
      rw [takePosition_jump _ _ _ (jumped.mpr jump)]
      rfl
    · refine answers _ .done [] ((positionReq_done ht hd _).trans ?_)
      rw [takePosition_still _ _ _ (mt jumped.mp still)]
      rfl
  · exact exec_sectionLoad (c := .range) h whole (sectionLoad_rangeZero out _)
  · have whole : (es.flatMap entryBytes).length % 8 = 0 := by rw [entries_length]; exact Nat.mul_mod_right 8 _
    obtain ⟨duplicate, distinct⟩ := sectionLoad_entries many few ok (heard src s)
    rw [placeAll_routeCount fun e he => (ok e he).1, placeAll, heard_smp] at distinct
    rw [heard_smp] at duplicate
    refine ⟨fun n dup => ?_, fun new => ⟨fun full => ?_, fun room => ?_⟩⟩
    · exact exec_sectionLoad (c := .duplicate) h whole (duplicate n dup)
    · exact exec_sectionLoad (c := .tableFull) h whole ((distinct new).trans (if_pos full))
    · exact exec_sectionLoad (c := .done) h whole ((distinct new).trans (if_neg (Nat.not_lt.mpr room)))
  · have answers := exec_accepted_of_rule (p := [scope]) h rfl
    dsimp only
    refine ⟨fun all => ?_, fun behind_ invalid => ?_, fun behind_ valid => ?_, fun high => ?_⟩
    · subst all
      exact answers _ .done _ (clearRoutes_heard (fun _ => true) src s)
    · subst behind_
      exact answers _ .condition _ (sectionClear_noPosition (by rwa [heard_smp]))
    · subst behind_
      have cleared := sectionClear_behind (s := heard src s) (by rwa [heard_smp])
      rw [heard_smp] at cleared
      exact answers _ .done _ (cleared.trans (clearRoutes_heard (behind s.smp.pos) src s))
    · exact answers _ .range [] (sectionClear_range high _)

end Sys2Proof.Machine
end

section
/-!
PROOFS. The combined kind of the entries that decide, the Section Outlook with the next change ahead, and the automatic
starts that follow from it (O17).
-/

namespace Sys2Proof.Machine

/-! ### The combined kind (Table 5-3) -/

/-- Some entry is of a kind. -/
def HasKind (es : List Entry) (k : SecKind) : Prop := ∃ e ∈ es, e.kind = k

theorem any_kind_iff (es : List Entry) (k : SecKind) : (es.any fun e => e.kind == k) = true ↔ HasKind es k := by
  simp [HasKind]

theorem mem_energizedSystems (es : List Entry) (t : Sys) : t ∈ energizedSystems es ↔ HasKind es (.sys t) := by
  rw [energizedSystems, List.mem_filterMap, HasKind]
  refine exists_congr fun e => and_congr_right fun _ => ?_
  cases e.kind <;> simp

section Combine

variable {dflt : CombKind} {es fs : List Entry}

theorem combine_lowerZone (h : HasKind es .lowerZone) : combine dflt es = (.lowerZone, false) :=
  if_pos ((any_kind_iff es _).mpr h)

theorem combine_separation (lower : ¬ HasKind es .lowerZone) (h : HasKind es .separation) :
    combine dflt es = (.separation, false) := by
  rw [combine, if_neg (mt (any_kind_iff es _).mp lower), if_pos ((any_kind_iff es _).mpr h)]

theorem combine_neutral (lower : ¬ HasKind es .lowerZone) (separation : ¬ HasKind es .separation)
    (h : HasKind es .neutral) : combine dflt es = (.neutral, false) := by
  rw [combine, if_neg (mt (any_kind_iff es _).mp lower), if_neg (mt (any_kind_iff es _).mp separation),
    if_pos ((any_kind_iff es _).mpr h)]

/-- None of the kinds that decide before the energized ones is there. -/
structure Energized (es : List Entry) : Prop where
  lower : ¬ HasKind es .lowerZone
  separation : ¬ HasKind es .separation
  neutral : ¬ HasKind es .neutral

theorem combine_default (h : Energized es) (none_ : ∀ t, ¬ HasKind es (.sys t)) : combine dflt es = (dflt, false) := by
  have empty : energizedSystems es = [] :=
    List.eq_nil_iff_forall_not_mem.mpr fun t => mt (mem_energizedSystems es t).mp (none_ t)
  rw [combine, if_neg (mt (any_kind_iff es _).mp h.lower), if_neg (mt (any_kind_iff es _).mp h.separation),
    if_neg (mt (any_kind_iff es _).mp h.neutral), empty]

/-- Where systems are there, the first decides if all others are the same. -/
theorem combine_systems (h : Energized es) {t : Sys} {rest : List Sys} (systems : energizedSystems es = t :: rest) :
    combine dflt es = if rest.all fun u => u == t then (.sys t, false) else (.separation, true) := by
  rw [combine, if_neg (mt (any_kind_iff es _).mp h.lower), if_neg (mt (any_kind_iff es _).mp h.separation),
    if_neg (mt (any_kind_iff es _).mp h.neutral), systems]

theorem systems_of_has {t : Sys} (h : HasKind es (.sys t)) : ∃ u rest, energizedSystems es = u :: rest :=
  List.exists_cons_of_ne_nil (List.ne_nil_of_mem ((mem_energizedSystems es t).mpr h))

theorem combine_one (h : Energized es) {t : Sys} (has : HasKind es (.sys t))
    (one : ∀ u, HasKind es (.sys u) → u = t) : combine dflt es = (.sys t, false) := by
  obtain ⟨u, rest, systems⟩ := systems_of_has has
  have same : ∀ v ∈ u :: rest, v = t := fun v hv => one v ((mem_energizedSystems es v).mp (systems ▸ hv))
  obtain ⟨rfl, others⟩ := List.forall_mem_cons.mp same
  rw [combine_systems h systems, if_pos]
  exact List.all_eq_true.mpr fun v hv => beq_iff_eq.mpr (others v hv)

theorem combine_conflict (h : Energized es) {t u : Sys} (has : HasKind es (.sys t)) (other : HasKind es (.sys u))
    (ne : t ≠ u) : combine dflt es = (.separation, true) := by
  obtain ⟨v, rest, systems⟩ := systems_of_has has
  rw [combine_systems h systems, if_neg]
  intro all
  have same : ∀ w, HasKind es (.sys w) → w = v := fun w hw => by
    rcases List.mem_cons.mp (systems ▸ (mem_energizedSystems es w).mpr hw) with rfl | there
    · rfl
    · exact beq_iff_eq.mp (List.all_eq_true.mp all w there)
  exact ne ((same t has).trans (same u other).symm)

/-- The combined kind depends on nothing but the kinds that are there. -/
theorem combine_congr (same : ∀ k, HasKind es k ↔ HasKind fs k) : combine dflt es = combine dflt fs := by
  by_cases lower : HasKind es .lowerZone
  · rw [combine_lowerZone lower, combine_lowerZone ((same _).mp lower)]
  have lower' := mt (same _).mpr lower
  by_cases separation : HasKind es .separation
  · rw [combine_separation lower separation, combine_separation lower' ((same _).mp separation)]
  have separation' := mt (same _).mpr separation
  by_cases neutral : HasKind es .neutral
  · rw [combine_neutral lower separation neutral, combine_neutral lower' separation' ((same _).mp neutral)]
  have here : Energized es := ⟨lower, separation, neutral⟩
  have there : Energized fs := ⟨lower', separation', mt (same _).mpr neutral⟩
  by_cases systems : ∃ t, HasKind es (.sys t)
  · obtain ⟨t, has⟩ := systems
    by_cases one : ∀ u, HasKind es (.sys u) → u = t
    · rw [combine_one here has one, combine_one there ((same _).mp has) fun u hu => one u ((same _).mpr hu)]
    · obtain ⟨u, other, ne⟩ : ∃ u, HasKind es (.sys u) ∧ u ≠ t := by simpa using one
      rw [combine_conflict here other has ne, combine_conflict there ((same _).mp other) ((same _).mp has) ne]
  · have none_ : ∀ t, ¬ HasKind es (.sys t) := not_exists.mp systems
    rw [combine_default here none_, combine_default there fun t => mt (same _).mpr (none_ t)]

theorem HasKind.perm (h : es.Perm fs) (k : SecKind) : HasKind es k ↔ HasKind fs k :=
  exists_congr fun _ => and_congr_left fun _ => h.mem_iff

end Combine

/-! ### The kind along the track (R91) -/

variable {s : State}

/-- Between two points of the table the lookup stays the same. -/
theorem lookup_succ {q : Nat} (track : Nat) (h : ∀ e ∈ considered s, e.startM ≠ q + 1 ∧ e.stopM ≠ q + 1) :
    lookup s (q + 1) track = lookup s q track := by
  have same : covering s (q + 1) track = covering s q track := by
    refine List.filter_congr fun e he => ?_
    obtain ⟨start, stop⟩ := h e he
    have starts : decide (e.startM ≤ q + 1) = decide (e.startM ≤ q) := decide_eq_decide.mpr (by omega)
    have stops : decide (q + 1 < e.stopM) = decide (q < e.stopM) := decide_eq_decide.mpr (by omega)
    rw [starts, stops]
  rw [lookup, lookup, same]

/-- The kind at a place of the present track. -/
def kindAt (s : State) (x : Nat) : CombKind := (lookup s x s.smp.pos.track).kind

/-- A point of the table lies x metres ahead; with MINUS, of those beyond metre 0 (Table 5-8). -/
def PointAhead (s : State) (x : Nat) : Prop := ∃ e ∈ considered s,
  if s.smp.pos.minus = true then x < s.smp.pos.positionM ∧
    (e.startM + x = s.smp.pos.positionM ∨ e.stopM + x = s.smp.pos.positionM)
  else e.startM = s.smp.pos.positionM + x ∨ e.stopM = s.smp.pos.positionM + x

/-- The kind that begins x metres ahead. -/
def kindBeyond (s : State) (x : Nat) : CombKind :=
  if s.smp.pos.minus = true then kindAt s (s.smp.pos.positionM - x - 1) else kindAt s (s.smp.pos.positionM + x)

theorem kindAt_plus_succ {x : Nat} (plus : s.smp.pos.minus = false) (clear : ¬ PointAhead s (x + 1)) :
    kindAt s (s.smp.pos.positionM + (x + 1)) = kindAt s (s.smp.pos.positionM + x) := by
  refine congrArg Lookup.kind (lookup_succ _ fun e he => not_or.mp fun edge => clear ⟨e, he, ?_⟩)
  rwa [plus, if_neg Bool.false_ne_true]

theorem kindAt_minus_succ {x : Nat} (minus : s.smp.pos.minus = true) (short : x < s.smp.pos.positionM)
    (clear : ¬ PointAhead s x) :
    kindAt s (s.smp.pos.positionM - (x + 1)) = kindAt s (s.smp.pos.positionM - x) := by
  have before : s.smp.pos.positionM - x = s.smp.pos.positionM - (x + 1) + 1 := by omega
  rw [before]
  refine (congrArg Lookup.kind (lookup_succ _ fun e he => not_or.mp fun edge => clear ⟨e, he, ?_⟩)).symm
  rw [if_pos minus]
  omega

/-- Up to a distance at every point before which the kind stays, the kind is the one here. -/
theorem kindAt_plus_stays {n : Nat} {k : CombKind} (plus : s.smp.pos.minus = false)
    (here : kindAt s s.smp.pos.positionM = k)
    (stays : ∀ x, 0 < x → x < n → PointAhead s x → kindBeyond s x = k) (x : Nat) (hx : x < n) :
    kindAt s (s.smp.pos.positionM + x) = k := by
  induction x with
  | zero => exact here
  | succ x ih =>
    by_cases point : PointAhead s (x + 1)
    · have beyond := stays (x + 1) (Nat.succ_pos x) hx point
      rwa [kindBeyond, plus, if_neg Bool.false_ne_true] at beyond
    · rw [kindAt_plus_succ plus point]
      exact ih (Nat.lt_of_succ_lt hx)

/-- The same with MINUS, where the kind of the metre next ahead is the one here. -/
theorem kindAt_minus_stays {n : Nat} {k : CombKind} (minus : s.smp.pos.minus = true)
    (here : kindAt s s.smp.pos.positionM = k) (next : kindAt s (s.smp.pos.positionM - 1) = k)
    (stays : ∀ x, 0 < x → x < n → PointAhead s x → kindBeyond s x = k) (x : Nat) (hx : x ≤ n)
    (hp : x ≤ s.smp.pos.positionM) : kindAt s (s.smp.pos.positionM - x) = k := by
  induction x with
  | zero => exact here
  | succ x ih =>
    by_cases first : x = 0
    · subst first
      exact next
    by_cases point : PointAhead s x
    · have beyond := stays x (Nat.pos_of_ne_zero first) hx point
      rwa [kindBeyond, if_pos minus] at beyond
    · rw [kindAt_minus_succ minus hp point]
      exact ih (Nat.le_of_succ_le hx) (Nat.le_of_succ_le hp)

/-! ### The points ahead (Table 5-8) -/

theorem pointAhead_minus_iff {range b d : Nat} {k : CombKind} (minus : s.smp.pos.minus = true) :
    pointAhead s range b = some (d, k) ↔ 0 < d ∧ d ≤ range ∧ d < s.smp.pos.positionM ∧
      b + d = s.smp.pos.positionM ∧ k = kindBeyond s d := by
  unfold pointAhead kindBeyond
  dsimp only
  rw [if_pos minus, if_pos minus]
  constructor
  · intro h
    split at h
    · cases h
      refine ⟨by omega, by omega, by omega, by omega, ?_⟩
      rw [kindAt, show s.smp.pos.positionM - (s.smp.pos.positionM - b) - 1 = b - 1 by omega]
    · cases h
  · rintro ⟨pos, near, beyond, there, rfl⟩
    rw [if_pos (by omega), kindAt, show s.smp.pos.positionM - b = d by omega,
      show s.smp.pos.positionM - d - 1 = b - 1 by omega]

theorem pointAhead_plus_iff {range b d : Nat} {k : CombKind} (plus : s.smp.pos.minus = false) :
    pointAhead s range b = some (d, k) ↔ 0 < d ∧ d ≤ range ∧ b = s.smp.pos.positionM + d ∧ k = kindBeyond s d := by
  unfold pointAhead kindBeyond
  dsimp only
  have ahead : ¬ s.smp.pos.minus = true := by simp [plus]
  rw [if_neg ahead, if_neg ahead]
  constructor
  · intro h
    split at h
    · cases h
      refine ⟨by omega, by omega, by omega, ?_⟩
      rw [kindAt, show s.smp.pos.positionM + (b - s.smp.pos.positionM) = b by omega]
    · cases h
  · rintro ⟨pos, near, rfl, rfl⟩
    rw [if_pos (by omega), kindAt, Nat.add_sub_cancel_left]

/-- The points ahead within a range, each with the kind that begins there. -/
theorem mem_pointsAhead {range d : Nat} {k : CombKind} :
    (d, k) ∈ pointsAhead s range ↔ 0 < d ∧ d ≤ range ∧ PointAhead s d ∧ k = kindBeyond s d := by
  have edges : (d, k) ∈ pointsAhead s range ↔ ∃ e ∈ considered s,
      pointAhead s range e.startM = some (d, k) ∨ pointAhead s range e.stopM = some (d, k) := by
    simp only [pointsAhead, List.filterMap_append, List.mem_append, List.mem_filterMap, List.mem_map,
      exists_exists_and_eq_and, and_or_left, exists_or]
  rw [edges, PointAhead]
  cases direction : s.smp.pos.minus with
  | true =>
    simp only [pointAhead_minus_iff direction, if_true]
    constructor
    · rintro ⟨e, he, ⟨pos, near, beyond, edge, kind⟩ | ⟨pos, near, beyond, edge, kind⟩⟩
      · exact ⟨pos, near, ⟨e, he, beyond, .inl edge⟩, kind⟩
      · exact ⟨pos, near, ⟨e, he, beyond, .inr edge⟩, kind⟩
    · rintro ⟨pos, near, ⟨e, he, beyond, edge⟩, kind⟩
      exact ⟨e, he, edge.imp (⟨pos, near, beyond, ·, kind⟩) (⟨pos, near, beyond, ·, kind⟩)⟩
  | false =>
    simp only [pointAhead_plus_iff direction, Bool.false_eq_true, if_false]
    constructor
    · rintro ⟨e, he, ⟨pos, near, edge, kind⟩ | ⟨pos, near, edge, kind⟩⟩
      · exact ⟨pos, near, ⟨e, he, .inl edge⟩, kind⟩
      · exact ⟨pos, near, ⟨e, he, .inr edge⟩, kind⟩
    · rintro ⟨pos, near, ⟨e, he, edge⟩, kind⟩
      exact ⟨e, he, edge.imp (⟨pos, near, ·, kind⟩) (⟨pos, near, ·, kind⟩)⟩

/-! ### The nearest of the points -/

theorem nearestPoint_none {ok : Nat × CombKind → Bool} {l : List (Nat × CombKind)} (h : nearestPoint ok l = none) :
    ∀ x ∈ l, ok x = false := by
  induction l with
  | nil => nofun
  | cons x xs ih =>
    unfold nearestPoint at h
    split at h
    · split at h <;> cases h
    · rename_i rest
      split at h
      · cases h
      · rename_i no
        exact List.forall_mem_cons.mpr ⟨by simpa using no, ih rest⟩

theorem nearestPoint_some {ok : Nat × CombKind → Bool} {l : List (Nat × CombKind)} {y : Nat × CombKind}
    (h : nearestPoint ok l = some y) : y ∈ l ∧ ok y = true ∧ ∀ x ∈ l, ok x = true → y.1 ≤ x.1 := by
  induction l generalizing y with
  | nil => cases h
  | cons x xs ih =>
    unfold nearestPoint at h
    split at h
    · rename_i z rest
      obtain ⟨mem, fits, least⟩ := ih rest
      split at h
      · rename_i nearer
        cases h
        obtain ⟨here, le⟩ := Bool.and_eq_true_iff.mp nearer
        exact ⟨List.mem_cons_self, here, List.forall_mem_cons.mpr
          ⟨fun _ => le_rfl, fun w hw okw => (of_decide_eq_true le).trans (least w hw okw)⟩⟩
      · rename_i farther
        cases h
        refine ⟨List.mem_cons_of_mem _ mem, fits, List.forall_mem_cons.mpr ⟨fun okx => ?_, least⟩⟩
        have beyond : ¬ x.1 ≤ y.1 := by simpa [okx] using farther
        exact Nat.le_of_not_le beyond
    · rename_i rest
      split at h
      · rename_i here
        cases h
        exact ⟨List.mem_cons_self, here, List.forall_mem_cons.mpr
          ⟨fun _ => le_rfl, fun w hw okw => by simp [nearestPoint_none rest w hw] at okw⟩⟩
      · cases h

/-! ### The outlook (R98 to R100) -/

/-- The outlook can be formed: the map is in use, and the position valid and not stale (R98). -/
structure MapKnown (s : State) : Prop where
  enable : eff s Par.mapEnable = 1
  valid : s.smp.pos.valid = true
  fresh : s.smp.pos.stale = false

theorem computeOutlook_unknown (h : ¬ MapKnown s) : computeOutlook s = Outlook.invalid :=
  if_neg fun ⟨enable, valid, fresh⟩ => h ⟨enable, valid, fresh⟩

theorem computeOutlook_here (h : MapKnown s) : (computeOutlook s).valid = true ∧
    (computeOutlook s).kind = kindAt s s.smp.pos.positionM ∧
    (computeOutlook s).conflict = (lookup s s.smp.pos.positionM s.smp.pos.track).conflict ∧
    (computeOutlook s).iceHere = (lookup s s.smp.pos.positionM s.smp.pos.track).ice ∧
    (computeOutlook s).lookaheadM = lookahead s := by
  unfold computeOutlook
  rw [if_pos ⟨h.enable, h.valid, h.fresh⟩]
  dsimp only
  split <;> exact ⟨rfl, rfl, rfl, rfl, rfl⟩

/-- No next change is shown: at every point ahead the kind stays. -/
theorem computeOutlook_next_none (h : MapKnown s) (none_ : (computeOutlook s).next = none) :
    (computeOutlook s).distance = none ∧ (computeOutlook s).following = none ∧
    ∀ x, 0 < x → x ≤ lookahead s → PointAhead s x → kindBeyond s x = kindAt s s.smp.pos.positionM := by
  unfold computeOutlook at none_ ⊢
  rw [if_pos ⟨h.enable, h.valid, h.fresh⟩] at none_ ⊢
  dsimp only at none_ ⊢
  split at none_
  · cases none_
  · rename_i nearest
    refine ⟨rfl, rfl, fun x pos near point => ?_⟩
    exact bne_eq_false_iff_eq.mp (nearestPoint_none nearest _ (mem_pointsAhead.mpr ⟨pos, near, point, rfl⟩))

/-- A next change is shown: it is the first point ahead at which the kind does not stay. -/
theorem computeOutlook_next_some (h : MapKnown s) {k : CombKind} (next : (computeOutlook s).next = some k) :
    ∃ d, (computeOutlook s).distance = some d ∧
      (computeOutlook s).following = followingSystem s (lookahead s) d k ∧
      0 < d ∧ d ≤ lookahead s ∧ PointAhead s d ∧ k = kindBeyond s d ∧ k ≠ kindAt s s.smp.pos.positionM ∧
      ∀ x, 0 < x → x < d → PointAhead s x → kindBeyond s x = kindAt s s.smp.pos.positionM := by
  unfold computeOutlook at next ⊢
  rw [if_pos ⟨h.enable, h.valid, h.fresh⟩] at next ⊢
  dsimp only at next ⊢
  split at next
  · rename_i y nearest
    obtain ⟨d, l⟩ := y
    cases next
    obtain ⟨mem, changes, least⟩ := nearestPoint_some nearest
    obtain ⟨pos, near, point, kind⟩ := mem_pointsAhead.mp mem
    refine ⟨d, rfl, rfl, pos, near, point, kind, bne_iff_ne.mp changes, fun x hx before at_ => ?_⟩
    have inRange := mem_pointsAhead.mpr ⟨hx, before.le.trans near, at_, rfl⟩
    by_contra other
    exact absurd (least _ inRange (bne_iff_ne.mpr other)) (Nat.not_le.mpr before)
  · cases next

theorem kindBeyond_plus (plus : s.smp.pos.minus = false) (x : Nat) :
    kindBeyond s x = kindAt s (s.smp.pos.positionM + x) := if_neg (by simp [plus])

theorem kindBeyond_minus (minus : s.smp.pos.minus = true) (x : Nat) :
    kindBeyond s x = kindAt s (s.smp.pos.positionM - x - 1) := if_pos minus

/-- With PLUS the next change is the nearest place whose kind is not the one here, within the lookahead distance. -/
theorem computeOutlook_plus (h : MapKnown s) (plus : s.smp.pos.minus = false) :
    (∀ k, (computeOutlook s).next = some k → ∃ d, (computeOutlook s).distance = some d ∧ 0 < d ∧ d ≤ lookahead s ∧
      k = kindAt s (s.smp.pos.positionM + d) ∧ k ≠ kindAt s s.smp.pos.positionM ∧
      ∀ x, x < d → kindAt s (s.smp.pos.positionM + x) = kindAt s s.smp.pos.positionM) ∧
    ((computeOutlook s).next = none → ∀ x, x ≤ lookahead s →
      kindAt s (s.smp.pos.positionM + x) = kindAt s s.smp.pos.positionM) := by
  refine ⟨fun k next => ?_, fun none_ x near => ?_⟩
  · obtain ⟨d, dist, -, pos, near, -, kind, other, stays⟩ := computeOutlook_next_some h next
    exact ⟨d, dist, pos, near, kind.trans (kindBeyond_plus plus d), other, kindAt_plus_stays plus rfl stays⟩
  · obtain ⟨-, -, stays⟩ := computeOutlook_next_none h none_
    exact kindAt_plus_stays plus rfl (fun y pos before => stays y pos (Nat.le_of_lt_succ before)) x
      (Nat.lt_succ_of_le near)

/-- With MINUS the same, where the kind of the metre next ahead is the one here. -/
theorem computeOutlook_minus (h : MapKnown s) (minus : s.smp.pos.minus = true) :
    (∀ k, (computeOutlook s).next = some k → ∃ d, (computeOutlook s).distance = some d ∧ 0 < d ∧
      d < s.smp.pos.positionM ∧ d ≤ lookahead s ∧ k = kindAt s (s.smp.pos.positionM - d - 1) ∧
      k ≠ kindAt s s.smp.pos.positionM ∧
      (kindAt s (s.smp.pos.positionM - 1) = kindAt s s.smp.pos.positionM →
        ∀ x, x ≤ d → kindAt s (s.smp.pos.positionM - x) = kindAt s s.smp.pos.positionM)) ∧
    ((computeOutlook s).next = none → kindAt s (s.smp.pos.positionM - 1) = kindAt s s.smp.pos.positionM →
      ∀ x, x ≤ lookahead s → x ≤ s.smp.pos.positionM →
        kindAt s (s.smp.pos.positionM - x) = kindAt s s.smp.pos.positionM) := by
  refine ⟨fun k next => ?_, fun none_ first => ?_⟩
  · obtain ⟨d, dist, -, pos, near, ⟨e, -, point⟩, kind, other, stays⟩ := computeOutlook_next_some h next
    rw [if_pos minus] at point
    obtain ⟨short, -⟩ := point
    exact ⟨d, dist, pos, short, near, kind.trans (kindBeyond_minus minus d), other,
      fun first x hx => kindAt_minus_stays minus rfl first stays x hx (hx.trans short.le)⟩
  · obtain ⟨-, -, stays⟩ := computeOutlook_next_none h none_
    exact kindAt_minus_stays minus rfl first fun x pos before => stays x pos before.le

/-! ### following_system (R100) -/

section Following

variable {d dist : Nat} {k : CombKind}

theorem kindSystem_eq_none (off : ∀ g, k ≠ .sys g) : kindSystem k = none :=
  Option.eq_none_iff_forall_not_mem.mpr fun g hg => off g ((kindSystem_eq_some k g).mp hg)

theorem followingSystem_none (off : ∀ g, k ≠ .sys g) (h : followingSystem s d dist k = none) (x : Nat)
    (after : dist < x) (near : x ≤ 2 * d) (point : PointAhead s x) (g : Sys) : kindBeyond s x ≠ .sys g := by
  unfold followingSystem at h
  rw [kindSystem_eq_none off] at h
  dsimp only at h
  intro live
  have mem := mem_pointsAhead.mpr ⟨Nat.zero_lt_of_lt after, near, point, rfl⟩
  split at h
  · rename_i y nearest
    obtain ⟨-, energized, -⟩ := nearestPoint_some nearest
    simp [h] at energized
  · rename_i nearest
    simpa [after, live, kindSystem] using nearestPoint_none nearest _ mem

theorem followingSystem_some (off : ∀ g, k ≠ .sys g) {g : Sys} (h : followingSystem s d dist k = some g) :
    ∃ x, dist < x ∧ x ≤ 2 * d ∧ PointAhead s x ∧ kindBeyond s x = .sys g ∧
      ∀ y, dist < y → y < x → PointAhead s y → ∀ h, kindBeyond s y ≠ .sys h := by
  unfold followingSystem at h
  rw [kindSystem_eq_none off] at h
  dsimp only at h
  split at h
  · rename_i z nearest
    obtain ⟨x, l⟩ := z
    obtain ⟨mem, fits, least⟩ := nearestPoint_some nearest
    obtain ⟨-, near, point, rfl⟩ := mem_pointsAhead.mp mem
    have after : dist < x := by simpa using (Bool.and_eq_true_iff.mp fits).1
    refine ⟨x, after, near, point, (kindSystem_eq_some _ g).mp h, fun y hy before there f live => ?_⟩
    have inRange := mem_pointsAhead.mpr ⟨Nat.zero_lt_of_lt hy, before.le.trans near, there, rfl⟩
    exact absurd (least _ inRange (by simp [hy, live, kindSystem])) (Nat.not_le.mpr before)
  · cases h

/-- Where the next change is not energized, following_system is that of the first energized point beyond it, within
twice the lookahead distance. -/
theorem computeOutlook_following (h : MapKnown s) (next : (computeOutlook s).next = some k)
    (dist_ : (computeOutlook s).distance = some dist) (off : ∀ g, k ≠ .sys g) :
    (∀ g, (computeOutlook s).following = some g → ∃ x, dist < x ∧ x ≤ 2 * lookahead s ∧ PointAhead s x ∧
      kindBeyond s x = .sys g ∧ ∀ y, dist < y → y < x → PointAhead s y → ∀ h, kindBeyond s y ≠ .sys h) ∧
    ((computeOutlook s).following = none → ∀ x, dist < x → x ≤ 2 * lookahead s → PointAhead s x →
      ∀ h, kindBeyond s x ≠ .sys h) := by
  obtain ⟨d, at_, following, -⟩ := computeOutlook_next_some h next
  cases at_.symm.trans dist_
  rw [following]
  exact ⟨fun _ => followingSystem_some off, followingSystem_none off⟩

end Following

/-! ### The automatic starts (Table 6-8, R117, R127) -/

/-- An automatic start may be made (R127). -/
def MayStart (s : State) : Prop := eff s Par.autoChangeover = 1 ∧ s.smp.outlook.valid = true ∧
  (closedBrk s).isSome = true ∧ s.chg.seq = none ∧ s.roofState = .ready

theorem noneClosed_eq_false (s : State) : noneClosed s = false ↔ (closedBrk s).isSome = true := by simp [noneClosed]

theorem automaticStart_not (h : ¬ MayStart s) : automaticStart s = s := by
  rw [MayStart, ← noneClosed_eq_false] at h
  exact if_neg h

theorem automaticStart_row (h : MayStart s) {k : SeqKind} {t : Option Sys} {a : Option Awaited}
    (row : automaticRow s.smp.outlook s.chg.inForce = some (k, t, a)) :
    automaticStart s = startSeq s k .outlook t a .shed := by
  rw [MayStart, ← noneClosed_eq_false] at h
  unfold automaticStart
  rw [if_pos h, row]

theorem automaticStart_noRow (h : MayStart s) (row : automaticRow s.smp.outlook s.chg.inForce = none) :
    automaticStart s = s := by
  rw [MayStart, ← noneClosed_eq_false] at h
  unfold automaticStart
  rw [if_pos h, row]

section Rows

variable {o : Outlook} {sys : Option Sys} {g : Sys}

/-- Row 1 of Table 6-8. -/
def LowerShown (o : Outlook) : Prop := o.kind = .lowerZone ∨ o.next = some .lowerZone

/-- The section here is of the system in force, or unknown: the next change decides. -/
def HereKept (o : Outlook) (sys : Option Sys) : Prop := o.kind = .unknown ∨ ∃ g, o.kind = .sys g ∧ sys = some g

theorem lowerZoneShown_iff (o : Outlook) : lowerZoneShown o = true ↔ LowerShown o := by
  simp [lowerZoneShown, LowerShown]

theorem automaticRow_lower (sys : Option Sys) (lower : LowerShown o) :
    automaticRow o sys = some (.lowerPass, sys, some .lowerZone) := if_pos ((lowerZoneShown_iff o).mpr lower)

variable (clear : ¬ LowerShown o)

include clear

theorem automaticRow_neutral (kind : o.kind = .neutral) :
    automaticRow o sys = some (.neutralPass, sys, some .neutral) := by
  rw [automaticRow, if_neg (mt (lowerZoneShown_iff o).mp clear), kind]

theorem automaticRow_separation (kind : o.kind = .separation) :
    automaticRow o sys = some (.changeover, o.following, none) := by
  rw [automaticRow, if_neg (mt (lowerZoneShown_iff o).mp clear), kind]

theorem automaticRow_otherSystem (kind : o.kind = .sys g) (other : sys ≠ some g) :
    automaticRow o sys = some (.changeover, some g, none) := by
  rw [automaticRow, if_neg (mt (lowerZoneShown_iff o).mp clear), kind]
  exact if_pos other.symm

variable (here : HereKept o sys)

include here

theorem automaticRow_next : automaticRow o sys = automaticRow.automaticNext o sys := by
  rw [automaticRow, if_neg (mt (lowerZoneShown_iff o).mp clear)]
  rcases here with kind | ⟨g, kind, rfl⟩
  · rw [kind]
  · rw [kind]
    exact if_neg fun other => other rfl

theorem automaticRow_nextNeutral (next : o.next = some .neutral) :
    automaticRow o sys = some (.neutralPass, sys, some .neutral) := by
  rw [automaticRow_next clear here, automaticRow.automaticNext, next]

/-- The same system follows the separation section: it is passed. -/
theorem automaticRow_nextPassed (next : o.next = some .separation) (force : sys = some g)
    (follows : o.following = some g) : automaticRow o sys = some (.neutralPass, sys, some .separation) := by
  rw [automaticRow_next clear here, automaticRow.automaticNext, next]
  refine if_pos ⟨?_, follows.trans force.symm⟩
  rw [follows]
  rfl

theorem automaticRow_nextSeparation (next : o.next = some .separation)
    (follows : o.following = none ∨ o.following ≠ sys) :
    automaticRow o sys = some (.changeover, o.following, none) := by
  rw [automaticRow_next clear here, automaticRow.automaticNext, next]
  refine if_neg fun ⟨known, same⟩ => ?_
  rcases follows with unknown | other
  · rw [unknown] at known
    cases known
  · exact other same

theorem automaticRow_nextSystem (next : o.next = some (.sys g)) (other : sys ≠ some g) :
    automaticRow o sys = some (.changeover, some g, none) := by
  rw [automaticRow_next clear here, automaticRow.automaticNext, next]
  exact if_pos other.symm

theorem automaticRow_none
    (stays : o.next = none ∨ o.next = some .unknown ∨ ∃ g, o.next = some (.sys g) ∧ sys = some g) :
    automaticRow o sys = none := by
  rw [automaticRow_next clear here, automaticRow.automaticNext]
  rcases stays with next | next | ⟨g, next, force⟩ <;> rw [next]
  exact if_neg fun other => other force.symm

end Rows

/-- The entry to SHED: the stage ends at once where no breaker is CLOSED or the load is off (R118). -/
theorem enterWork_shed_eq {q : Sequence} (h : s.chg.seq = some q) : enterWork .shed s = s.withChg { s.chg with
    seq := some { q with exit := if noneClosed s || loadOff s then some .next else q.exit }, shed := true } := by
  have entered : enterWork .shed s =
      setShed (if noneClosed s || loadOff s then putSeq s { q with exit := some .next } else s) := by
    unfold enterWork
    rw [h]
  rw [entered]
  split
  · rfl
  · rw [← h]
    rfl

theorem startSeq_shed_chg (s : State) (k : SeqKind) (o : Origin) (t : Option Sys) (a : Option Awaited) :
    (startSeq s k o t a .shed).chg = { s.chg with
      seq := some { freshSeq s k o t a .shed with exit := if noneClosed s || loadOff s then some .next else none },
      shed := true } := by
  have reported := startReported_chg (putSeq s (freshSeq s k o t a .shed))
  have cab := calm_cau (calm_startReported (putSeq s (freshSeq s k o t a .shed)))
  rw [startSeq_eq, enterWork_shed_eq (q := freshSeq s k o t a .shed) (by rw [reported]; rfl), State.withChg_chg,
    noneClosed, closedBrk, loadOff, reported, cab]
  rfl

/-- Settles O17: Table 5-3, the outlook from the points ahead, Table 6-8 row by row, and the record of a start. -/
theorem outlookShowsTheNextChange : Obligations.OutlookShowsTheNextChange := by
  refine ⟨fun dflt es fs => ⟨combine_lowerZone, combine_separation, combine_neutral,
      fun lower separation neutral => ?_, fun perm => combine_congr (HasKind.perm perm)⟩,
    fun s => ⟨fun unknown => computeOutlook_unknown fun ⟨enable, valid, fresh⟩ => ?_,
      fun enable valid fresh => ?_⟩,
    fun s => ⟨automaticStart_not, fun may lower => automaticStart_row may (automaticRow_lower _ lower),
      fun may clear => ?_⟩, fun s k o g a => ?_⟩
  · have energized : Energized es := ⟨lower, separation, neutral⟩
    exact ⟨combine_default energized, fun _ => combine_one energized, fun _ _ => combine_conflict energized⟩
  · rcases unknown with off | invalid | stale
    · exact off enable
    · rw [valid] at invalid
      cases invalid
    · rw [fresh] at stale
      cases stale
  · have known : MapKnown s := ⟨enable, valid, fresh⟩
    obtain ⟨valid_, kind, conflict, ice, range⟩ := computeOutlook_here known
    refine ⟨valid_, kind, conflict, ice, range, fun none_ => ?_, fun g next => ?_, fun k d next dist off => ?_,
      fun plus => ?_, fun minus => ?_⟩
    · obtain ⟨distance, following, -⟩ := computeOutlook_next_none known none_
      exact ⟨distance, following⟩
    · obtain ⟨d, -, following, -⟩ := computeOutlook_next_some known next
      exact following
    · rw [range]
      exact computeOutlook_following known next dist off
    · rw [range, kind]
      exact computeOutlook_plus known plus
    · rw [range, kind]
      exact computeOutlook_minus known minus
  · exact ⟨fun kind => automaticStart_row may (automaticRow_neutral clear kind),
      fun kind => automaticStart_row may (automaticRow_separation clear kind),
      fun g kind other => automaticStart_row may (automaticRow_otherSystem clear kind other),
      fun here => ⟨fun next => automaticStart_row may (automaticRow_nextNeutral clear here next),
        fun g next force follows => automaticStart_row may (automaticRow_nextPassed clear here next force follows),
        fun next follows => automaticStart_row may (automaticRow_nextSeparation clear here next follows),
        fun g next other => automaticStart_row may (automaticRow_nextSystem clear here next other),
        fun stays => automaticStart_noRow may (automaticRow_none clear here stays)⟩⟩
  · refine ⟨_, startSeq_shed_chg s k o g a, rfl, rfl, rfl, rfl, rfl, rfl, rfl, rfl, rfl, ?_, ?_⟩
    · simp [freshSeq]
    · simp [noneClosed, or_iff_not_imp_left]

end Sys2Proof.Machine
end

section
/-!
PROOFS. What the end of an event does reads neither the link record nor the activity times: `settle` commutes with their
replacement (`reheard`). So a request that only reads leaves a settled state as it is, but for them (O8).
-/

namespace Sys2Proof.Machine

/-! ### Another hearing -/

/-- What the hearing and the answering of a request write: the link record and the cab unit's activity (R61, R66). -/
structure Hearing where
  lnk : Lnk
  actA : Option Nat
  actB : Option Nat
  actTool : Option Nat
  serviceLapseMs : Nat
  serviceLapsed : Bool

/-- The state with another hearing. -/
def reheard (x : Hearing) (s : State) : State := (s.withLnk x.lnk).withCau { s.cau with
  actA := x.actA, actB := x.actB, actTool := x.actTool, serviceLapseMs := x.serviceLapseMs
  serviceLapsed := x.serviceLapsed }

/-- The hearing of a state. -/
def hearing (s : State) : Hearing :=
  ⟨s.lnk, s.cau.actA, s.cau.actB, s.cau.actTool, s.cau.serviceLapseMs, s.cau.serviceLapsed⟩

section Reheard

variable {x : Hearing} {s : State}

theorem reheard_ite {p q : Prop} [Decidable p] [Decidable q] {a b c d : State} (same : p ↔ q) (ha : a = reheard x c)
    (hb : b = reheard x d) : (if p then a else b) = reheard x (if q then c else d) := by
  by_cases h : q
  · rw [if_pos h, if_pos (same.mpr h), ha]
  · rw [if_neg h, if_neg (mt same.mp h), hb]

theorem reheard_foldl {α : Type} {f : State → α → State} (hf : ∀ s a, f (reheard x s) a = reheard x (f s a))
    (l : List α) (s : State) : l.foldl f (reheard x s) = reheard x (l.foldl f s) := by
  induction l generalizing s with
  | nil => rfl
  | cons a l ih => rw [List.foldl_cons, List.foldl_cons, hf, ih]

/-! ### Single writes -/

theorem reheard_putSeq (q : Sequence) : putSeq (reheard x s) q = reheard x (putSeq s q) := rfl

theorem reheard_withIce (i : Ice) : (reheard x s).withIce i = reheard x (s.withIce i) := rfl

theorem reheard_writeValve (c : Chan) (d : Nat) : writeValve (reheard x s) c d = reheard x (writeValve s c d) :=
  reheard_ite .rfl rfl rfl

theorem reheard_writeZone (z : Fin 16) (d : Nat) : writeZone (reheard x s) z d = reheard x (writeZone s z d) :=
  reheard_ite .rfl rfl rfl

theorem reheard_openBrk (b : Brk) : openBrk (reheard x s) b = reheard x (openBrk s b) := by
  cases b <;> exact reheard_ite .rfl rfl rfl

theorem reheard_closeBrk (b : Brk) : closeBrk (reheard x s) b = reheard x (closeBrk s b) := by cases b <;> rfl

/-! ### Channels lowered and raised -/

theorem reheard_ordinaryLower (c : Chan) : ordinaryLower (reheard x s) c = reheard x (ordinaryLower s c) :=
  reheard_ite .rfl (reheard_writeValve (s := putChan s c { inState (chan s c) .lowering with dumpOn := false }) c 0) rfl

theorem reheard_lowerAllFitted : lowerAllFitted (reheard x s) = reheard x (lowerAllFitted s) := by
  refine reheard_foldl (fun u c => ?_) _ s
  exact reheard_ite .rfl (reheard_ordinaryLower c) rfl

theorem reheard_lowerScraper : lowerScraper (reheard x s) = reheard x (lowerScraper s) := by
  refine reheard_foldl (fun u c => ?_) _ s
  exact reheard_ite .rfl (reheard_ordinaryLower c) rfl

theorem reheard_dropScraper : dropScraper (reheard x s) = reheard x (dropScraper s) :=
  reheard_ite .rfl reheard_lowerScraper rfl

theorem reheard_withdrawScraper : withdrawScraper (reheard x s) = reheard x (withdrawScraper s) := by
  have lowered := reheard_lowerScraper (x := x) (s := s.withIce { s.ice with scraperRequest := false })
  change (lowerScraper (reheard x (s.withIce { s.ice with scraperRequest := false }))).withPcu
    { (lowerScraper (reheard x (s.withIce { s.ice with scraperRequest := false }))).pcu with scraperHold := false } = _
  rw [lowered]
  rfl

theorem reheard_startRaise (c : Chan) (r : Role) : startRaise (reheard x s) c r = reheard x (startRaise s c r) :=
  reheard_writeValve
    (s := giveRole (putChan s c { inState (chan s c) .raising with dumpOn := false }) c r) c (effNat s Par.raiseDuty)

theorem reheard_collectorRaise : collectorRaise (reheard x s) = reheard x (collectorRaise s) := by
  have same : raiseCandidate (reheard x s) = raiseCandidate s := rfl
  unfold collectorRaise
  rw [same]
  cases raiseCandidate s with
  | none => rfl
  | some c =>
    dsimp only
    rw [reheard_startRaise]
    rfl

theorem reheard_scraperRaise : scraperRaise (reheard x s) = reheard x (scraperRaise s) := by
  have same : scraperCandidate (reheard x s) = scraperCandidate s := rfl
  unfold scraperRaise
  rw [same]
  cases scraperCandidate s with
  | none => rfl
  | some c => exact reheard_startRaise c .scraper

theorem reheard_scraperTest : scraperTest (reheard x s) = reheard x (scraperTest s) :=
  reheard_ite .rfl (reheard_ite .rfl rfl reheard_withdrawScraper) (reheard_ite .rfl rfl rfl)

/-! ### Sequences -/

theorem reheard_recompute : recompute (reheard x s) = reheard x (recompute s) := reheard_ite .rfl rfl rfl

theorem reheard_forceChanged (b : Option Sys) : forceChanged b (reheard x s) = reheard x (forceChanged b s) :=
  reheard_ite .rfl reheard_recompute rfl

theorem reheard_startReported : startReported (reheard x s) = reheard x (startReported s) :=
  reheard_ite .rfl reheard_withdrawScraper rfl

theorem reheard_recordEnd (r : Result) (n : Nat) : recordEnd (reheard x s) r n = reheard x (recordEnd s r n) := by
  have same : (reheard x s).chg = s.chg := rfl
  unfold recordEnd
  rw [same]
  cases s.chg.seq <;> rfl

theorem reheard_waitTest : waitTest (reheard x s) = reheard x (waitTest s) := by
  have same : (reheard x s).chg = s.chg := rfl
  unfold waitTest
  rw [same]
  cases s.chg.seq with
  | none => rfl
  | some q => exact reheard_ite .rfl (reheard_ite .rfl (reheard_ite .rfl rfl rfl) rfl) rfl

theorem reheard_enterWork (st : Stage) : enterWork st (reheard x s) = reheard x (enterWork st s) := by
  have same : (reheard x s).chg = s.chg := rfl
  unfold enterWork
  rw [same]
  cases s.chg.seq with
  | none => rfl
  | some q =>
    cases st with
    | shed =>
      exact congrArg setShed (reheard_ite (x := x) (q := (noneClosed s || loadOff s) = true)
        (c := putSeq s { q with exit := some .next }) (d := s) .rfl rfl rfl)
    | opening =>
      dsimp only
      rw [reheard_openBrk, reheard_openBrk]
    | lowering =>
      dsimp only
      rw [reheard_putSeq, reheard_lowerAllFitted]
      exact reheard_ite .rfl rfl rfl
    | waitSection =>
      dsimp only
      rw [reheard_putSeq, reheard_waitTest]
    | raising => rfl
    | identify => exact reheard_ite .rfl rfl rfl
    | converter => rfl
    | closing =>
      have failing : closeFailing (reheard x s) = closeFailing s := rfl
      dsimp only
      rw [failing]
      cases closeFailing s with
      | some n => rfl
      | none =>
        cases s.chg.target with
        | none => rfl
        | some t => exact reheard_closeBrk _

theorem reheard_enterStage (st : Stage) : enterStage st (reheard x s) = reheard x (enterStage st s) := by
  have same : (reheard x s).chg = s.chg := rfl
  unfold enterStage
  rw [same]
  cases s.chg.seq with
  | none => rfl
  | some q => exact reheard_enterWork (s := putSeq s _) st

theorem reheard_startSeq (k : SeqKind) (o : Origin) (t : Option Sys) (a : Option Awaited) (st : Stage) :
    startSeq (reheard x s) k o t a st = reheard x (startSeq s k o t a st) := by
  change enterStage st (startReported (reheard x (putSeq s (freshSeq s k o t a st)))) = _
  rw [reheard_startReported, reheard_enterStage]
  rfl

theorem reheard_automaticStart : automaticStart (reheard x s) = reheard x (automaticStart s) := by
  have row : automaticRow (reheard x s).smp.outlook (reheard x s).chg.inForce =
      automaticRow s.smp.outlook s.chg.inForce := rfl
  refine reheard_ite .rfl ?_ rfl
  rw [row]
  cases automaticRow s.smp.outlook s.chg.inForce with
  | none => rfl
  | some r => exact reheard_startSeq ..

theorem reheard_endSeq (r : Result) (n : Nat) : endSeq (reheard x s) r n = reheard x (endSeq s r n) := by
  refine reheard_ite .rfl ?_ rfl
  rw [reheard_recordEnd, reheard_automaticStart]

theorem reheard_openingEnds (q : Sequence) : openingEnds (reheard x s) q = reheard x (openingEnds s q) :=
  reheard_ite .rfl (reheard_forceChanged (s := s.withChg { s.chg with inForce := none, target := q.target }) _) rfl

theorem reheard_leaveStage (q : Sequence) : leaveStage (reheard x s) q = reheard x (leaveStage s q) := by
  unfold leaveStage
  dsimp only
  rw [reheard_openingEnds]
  cases nextStage q.kind q.origin q.stage with
  | none => exact reheard_endSeq ..
  | some st => exact reheard_enterStage st

theorem reheard_stageStep : stageStep (reheard x s) = (stageStep s).map (reheard x) := by
  have same : (reheard x s).chg = s.chg := rfl
  unfold stageStep
  rw [same]
  cases s.chg.seq with
  | none => rfl
  | some q =>
    have done : stageDone (reheard x s) q = stageDone s q := rfl
    dsimp only
    rw [done, reheard_leaveStage, reheard_enterStage]
    cases q.exit with
    | none => dsimp only; split <;> rfl
    | some e =>
      cases e with
      | halt r n => exact congrArg some (reheard_endSeq ..)
      | _ => rfl

theorem reheard_progressFuel (n : Nat) (s : State) :
    progressFuel n (reheard x s) = reheard x (progressFuel n s) := by
  induction n generalizing s with
  | zero => rfl
  | succ n ih =>
    unfold progressFuel
    rw [reheard_stageStep]
    cases stageStep s with
    | none => rfl
    | some t => exact ih t

/-! ### The heaters -/

theorem reheard_resetRotation (b : State) : resetRotation b (reheard x s) = reheard x (resetRotation b s) :=
  reheard_ite .rfl rfl rfl

theorem reheard_budgetCut : budgetCut (reheard x s) = reheard x (budgetCut s) :=
  reheard_foldl (f := fun s z => putZone s z (cut (zoneOut s z))) (fun _ _ => rfl) _ s

theorem reheard_writeSlot (zs : List (Fin 16)) (d : Nat) :
    writeSlot (reheard x s) zs d = reheard x (writeSlot s zs d) := by
  unfold writeSlot
  dsimp only
  rw [reheard_foldl fun u z => ?_, reheard_foldl fun u z => ?_]
  · exact reheard_writeZone z d
  · exact reheard_ite .rfl rfl (reheard_writeZone z 0)

theorem reheard_slotStart : slotStart (reheard x s) = reheard x (slotStart s) := by
  have same : chosenGroup (reheard x s) = chosenGroup s := rfl
  refine reheard_ite .rfl rfl ?_
  rw [same]
  cases chosenGroup s with
  | none =>
    dsimp only
    rw [reheard_withIce, reheard_writeSlot]
    rfl
  | some g =>
    dsimp only
    rw [reheard_withIce, reheard_writeSlot]
    rfl

theorem reheard_heaterTest (b : State) : heaterTest b (reheard x s) = reheard x (heaterTest b s) := by
  unfold heaterTest
  dsimp only
  rw [reheard_resetRotation, reheard_budgetCut]
  exact reheard_ite .rfl reheard_slotStart rfl

/-- What follows an event does not depend on what has been heard. -/
theorem reheard_settle (b : State) : settle b (reheard x s) = reheard x (settle b s) := by
  refine reheard_ite .rfl rfl ?_
  rw [progress, reheard_progressFuel, reheard_dropScraper, reheard_collectorRaise, reheard_scraperTest,
    reheard_scraperRaise, reheard_heaterTest]
  rfl

end Reheard

/-! ### Requests that read -/

/-- A rule that changes nothing. -/
theorem reads_change_nothing {k : ReqKind}
    (h : k ∈ ([.statusRead, .sectionRead, .parameterRead, .faultRead] : List ReqKind)) (src : Station) (p : List Byte)
    (s : State) : (requestRule k src p s).1 = s := by
  have cases : k = .statusRead ∨ k = .sectionRead ∨ k = .parameterRead ∨ k = .faultRead := by simpa using h
  rcases cases with rfl | rfl | rfl | rfl
  · change (statusRead p s).1 = s
    unfold statusRead
    dsimp only
    split <;> rfl
  · change (sectionRead p s).1 = s
    unfold sectionRead
    dsimp only
    split <;> rfl
  · change (parameterRead p s).1 = s
    unfold parameterRead
    split <;> rfl
  · change (faultRead p s).1 = s
    unfold faultRead
    dsimp only
    split <;> rfl

/-- A request that reads, accepted, refused, lost or not heard, leaves nothing but another hearing. -/
theorem takeRequest_reads {k : ReqKind}
    (h : k ∈ ([.statusRead, .sectionRead, .parameterRead, .faultRead] : List ReqKind)) (src : Station) (p : List Byte)
    (s : State) : ∃ x, takeRequest k src p (requestRule k src p) s = reheard x s := by
  rcases takeRequest_cases k src p (requestRule k src p) s with e | e | ⟨code, r, e, how⟩ <;> rw [e]
  · exact ⟨hearing s, rfl⟩
  · exact ⟨hearing (hearFrame s), rfl⟩
  · have body : r.1 = heard src s := by
      rcases how with rfl | how
      · exact reads_change_nothing h src p _
      · exact how
    refine ⟨hearing (putAnswer src code r), ?_⟩
    rw [putAnswer, body]
    cases src <;> rfl

/-- Settles O8: the request changes the hearing alone, and what settles a state settles it with any other hearing. -/
theorem readsDisturbNothing : Obligations.ReadsDisturbNothing := by
  intro k src p s t reads settled e
  have rehears : ∃ x, t = reheard x s := by
    rw [exec_requestCmd] at e
    obtain ⟨u, eu, ⟨-, rfl⟩ | ⟨-, rfl⟩⟩ := event_next (takeRequest k src p (requestRule k src p)) s <;>
      rw [eu] at e <;> cases e
    · exact ⟨hearing t, rfl⟩
    · obtain ⟨x, taken⟩ := takeRequest_reads reads src p s
      exact ⟨x, by rw [taken, reheard_settle, settled]⟩
  obtain ⟨x, rfl⟩ := rehears
  rfl

end Sys2Proof.Machine
end

section
/-!
PROOFS. The feedback changes and the operating times of the breakers (O45).
-/

namespace Sys2Proof.Machine

@[simp] theorem putBrk_putBrk (s : State) (b : Brk) (r x : Breaker) : putBrk (putBrk s b r) b x = putBrk s b x := by
  cases b <;> rfl

section
variable {s : State} {b : Brk} {level : Bool}

/-! ### Feedback changes (R105, R107, R108, R110) -/

theorem feedbackChange_same : feedbackChange b (brk s b).feedback s = s := if_pos rfl

theorem feedbackChange_starting (start : s.roofState = .starting) (change : (brk s b).feedback ≠ level) :
    feedbackChange b level s = putBrk s b (.reset level) := by
  rw [feedbackChange, if_neg change, if_pos start]

theorem feedbackTaken_closing (state : (brk s b).state = .closing) : feedbackTaken s b true = closeCompletes s b := by
  unfold feedbackTaken
  rw [state]

theorem feedbackTaken_opened (state : (brk s b).state = .opened) : feedbackTaken s b true = closesUncommanded s b := by
  unfold feedbackTaken
  rw [state]

theorem feedbackTaken_closed (state : (brk s b).state = .closed) : feedbackTaken s b false = trips s b := by
  unfold feedbackTaken
  rw [state]

/-- The feedback of a breaker that comes open, or is found so after all (R107 (1), R108). -/
theorem feedbackTaken_opens (state : (brk s b).state = .opening ∨ (brk s b).state = .failed) :
    feedbackTaken s b false = putBrk s b (restBrk (brk s b) .opened) := by
  unfold feedbackTaken
  rcases state with state | state <;> rw [state]

/-- In a running roof a change is recorded, and then taken by the breaker's state. -/
theorem feedbackChange_running (run : s.roofState ≠ .starting) (change : (brk s b).feedback ≠ level) {u : State}
    (taken : ∀ t, (brk t b).state = (brk s b).state → t = putBrk s b { brk s b with feedback := level } →
      feedbackTaken t b level = u) : feedbackChange b level s = u := by
  rw [feedbackChange, if_neg change, if_neg run]
  exact taken _ (by rw [brk_putBrk_self]) rfl

/-- The completing of a close, from the state before its feedback was taken (R105). -/
theorem closeCompletes_putBrk (x : Breaker) : closeCompletes (putBrk s b x) b =
    automaticStart (examineConverter (forceChanged s.chg.inForce (recordEnd
      ((putBrk s b ⟨.closed, false, true, x.feedback, 0⟩).withChg
        { (putBrk s b ⟨.closed, false, true, x.feedback, 0⟩).chg with inForce := s.chg.target, shed := false })
      .complete 0))) := by
  cases b <;> rfl

theorem closesUncommanded_putBrk (x : Breaker) : closesUncommanded (putBrk s b x) b =
    offer (openBrk (putBrk s b ⟨.failed, false, false, x.feedback, 0⟩) (otherBrk b))
      ⟨.breakerUncommanded, some (.breaker b), false⟩ := by
  cases b <;> rfl

theorem trips_putBrk (x : Breaker) : trips (putBrk s b x) b =
    offer (setShed (putBrk s b ⟨.opened, false, false, x.feedback, 0⟩)) ⟨.breakerTripped, some (.breaker b), false⟩ := by
  cases b <;> rfl

/-! ### The operating times (R106, R107) -/

/-- The end of close_time: the sequence is HALTED, and then the fault is offered. -/
theorem closeExpiry_due (state : (brk s b).state = .closing) (due : effNat s Par.closeTime ≤ (brk s b).opTime) :
    closeExpiry b level s = offer
      (endSeq (putBrk s b ⟨if level then .failed else .opened, false, false, (brk s b).feedback, 0⟩)
        (.halted .closeFailed) 0)
      ⟨.breakerCloseFail, some (.breaker b), false⟩ :=
  if_pos (by simp [closeDue, state, due])

theorem openExpiry_due (run : s.roofState ≠ .starting) (state : (brk s b).state = .opening)
    (due : effNat s Par.openTime ≤ (brk s b).opTime) : openExpiry b level s =
      if level then offer (putBrk s b ⟨.failed, false, false, (brk s b).feedback, 0⟩)
        ⟨.breakerOpenFail, some (.breaker b), false⟩
      else putBrk s b ⟨.opened, false, false, (brk s b).feedback, 0⟩ :=
  if_pos (by simp [openDue, run, state, due])

end

/-- Settles O45: the rows of Table 6-2 by the breaker's state, and the two expiries. -/
theorem breakersFollowTheirFeedback : Obligations.BreakersFollowTheirFeedback := by
  intro b s
  have change : ∀ {level u}, feedbackChange b level s = u →
      exec (.breakerFeedbackChange b level) s = .next (settle s u) := fun e => by
    rw [← e]; rfl
  refine ⟨change feedbackChange_same, fun start off => change ?_, fun start on => change ?_,
    fun run off => ⟨fun closing => change ?_, fun open_ => change ?_⟩,
    fun run on => ⟨fun closed => change ?_, fun opens => change ?_⟩,
    fun live closing due level => ?_, fun live run opening due => ⟨?_, ?_⟩⟩
  · exact feedbackChange_starting start (by simp [off])
  · exact feedbackChange_starting start (by simp [on])
  · refine feedbackChange_running run (by simp [off]) fun t same recorded => ?_
    rw [feedbackTaken_closing (same.trans closing), recorded, closeCompletes_putBrk]
  · refine feedbackChange_running run (by simp [off]) fun t same recorded => ?_
    rw [feedbackTaken_opened (same.trans open_), recorded, closesUncommanded_putBrk]
  · refine feedbackChange_running run (by simp [on]) fun t same recorded => ?_
    rw [feedbackTaken_closed (same.trans closed), recorded, trips_putBrk]
    rfl
  · refine feedbackChange_running run (by simp [on]) fun t same recorded => ?_
    rw [feedbackTaken_opens (same ▸ opens), recorded, putBrk_putBrk, brk_putBrk_self, restBrk]
  · exact (event_live live).trans (by rw [closeExpiry_due closing due])
  · exact (event_live live).trans (by rw [openExpiry_due run opening due, if_pos rfl])
  · exact (event_live live).trans (by rw [openExpiry_due run opening due, if_neg Bool.false_ne_true])

end Sys2Proof.Machine
end

section
/-!
PROOFS. The stage timers, the tests of an outlook in WAIT_SECTION, and the end of the settle interval (O46).
-/

namespace Sys2Proof.Machine

section
variable {s : State} {q : Sequence}

/-! ### The stage timers (R118, R121, R122, R124, R125) -/

/-- The breaker that a stage timer's fault names. -/
theorem deadRunCtx_eq (q : Sequence) : deadRunCtx q =
    (if q.target.isSome = true then q.target else q.fromSys).map fun t => .breaker (brkOf (classOf t)) := by
  unfold deadRunCtx
  cases q.target <;> cases q.fromSys <;> rfl

theorem shedExpiry_due (runs : s.chg.seq = some q) (stage : q.stage = .shed)
    (due : effNat s Par.shedTimeout ≤ q.stageTime) : shedExpiry s =
      putSeq (offer s ⟨.shedTimeout, (closedBrk s).map .breaker, false⟩) { q with exit := some .next } := by
  simp [shedExpiry, runs, shedDue, stage, due]

theorem deadRunExpiry_due (runs : s.chg.seq = some q) (stage : q.stage = .waitSection ∨ q.stage = .identify)
    (due : effNat s Par.deadRunS * 1000 ≤ q.stageTime) :
    deadRunExpiry s = offer s ⟨.deadRun, deadRunCtx q, false⟩ := by
  simp [deadRunExpiry, runs, deadRunDue, stage, due]

theorem identifyExpiry_due (runs : s.chg.seq = some q) (stage : q.stage = .identify) {m : Nat}
    (time : q.identifyTime = some m) (due : effNat s Par.identifyTimeout ≤ m) :
    identifyExpiry s = offer s ⟨.deadRun, deadRunCtx q, false⟩ := by
  simp [identifyExpiry, runs, identifyDue, stage, time, due]

theorem converterExpiry_due (runs : s.chg.seq = some q) (stage : q.stage = .converter)
    (timed : q.convTimerDone = false) (due : effNat s Par.converterTimeout ≤ q.stageTime) : converterExpiry s =
      offer (putSeq s { q with convTimerDone := true }) ⟨.converterTimeout, deadRunCtx q, false⟩ := by
  simp [converterExpiry, runs, converterTimeoutDue, stage, timed, due]

/-! ### An outlook in WAIT_SECTION (R121, R122) -/

theorem sectionLeft_iff (k : SeqKind) (c : CombKind) : sectionLeft k c = true ↔
    if k = .lowerPass then c ≠ .lowerZone else c ≠ .neutral ∧ c ≠ .separation := by
  unfold sectionLeft
  split <;> simp

/-- A kind is the awaited one. -/
theorem awaits_iff (q : Sequence) (c : CombKind) :
    some c = q.awaited.map awaitedKind ↔ ∃ a, q.awaited = some a ∧ c = awaitedKind a := by
  cases q.awaited <;> simp

theorem awaitsNext_iff (q : Sequence) (n : Option CombKind) :
    (n = q.awaited.map awaitedKind ∧ (q.awaited.map awaitedKind).isSome = true) ↔
      ∃ a, q.awaited = some a ∧ n = some (awaitedKind a) := by
  cases q.awaited <;> simp

theorem waitTest_pass (runs : s.chg.seq = some q) (stage : q.stage = .waitSection) (kind : q.kind ≠ .changeover) :
    waitTest s = putSeq s (waitPass q s.smp.outlook) := by
  simp [waitTest, runs, stage, kind]

theorem waitTest_changeover (runs : s.chg.seq = some q) (stage : q.stage = .waitSection)
    (kind : q.kind = .changeover) (same : (waitChangeover s q s.smp.outlook).target = q.target) :
    waitTest s = putSeq s (waitChangeover s q s.smp.outlook) := by
  simp [waitTest, runs, stage, kind, same]

/-- The target that a CHANGEOVER's stage fixes is system_target too (R111, R122). -/
theorem waitTest_fixes (runs : s.chg.seq = some q) (stage : q.stage = .waitSection) (kind : q.kind = .changeover)
    {r : Sequence} (fixed : waitChangeover s q s.smp.outlook = r) (differ : r.target ≠ q.target) :
    waitTest s = s.withChg { s.chg with target := r.target, seq := some r } := by
  simp [waitTest, runs, stage, kind, fixed, differ]
  rfl

variable {o : Outlook}

theorem waitPass_invalid (invalid : o.valid = false) : waitPass q o = { q with exit := some .next } := by
  simp [waitPass, invalid]

theorem waitPass_meetsLowerZone (valid : o.valid = true) (kind : q.kind = .neutralPass)
    (lower : LowerShown o) : waitPass q o =
      { q with kind := .lowerPass, awaited := some .lowerZone, lowerAll := true, exit := some .lowering } := by
  simp [waitPass, valid, kind, (lowerZoneShown_iff o).mpr lower]

/-- Past the meeting of a lower zone: within the awaited section until it is left, and else short of it (R121). -/
theorem waitPass_valid (valid : o.valid = true) (plain : q.kind = .neutralPass → ¬ LowerShown o) :
    waitPass q o =
      if q.phase = some .inside ∨ ∃ a, q.awaited = some a ∧ o.kind = awaitedKind a then
        { q with phase := some .inside, exit := if sectionLeft q.kind o.kind then some .next else q.exit }
      else if ∃ a, q.awaited = some a ∧ o.next = some (awaitedKind a) then q
      else { q with exit := some .next } := by
  have meets : ¬ (q.kind = .neutralPass ∧ lowerZoneShown o = true) := fun h =>
    plain h.1 ((lowerZoneShown_iff o).mp h.2)
  simp only [← awaits_iff, ← awaitsNext_iff, waitPass, valid, Bool.not_true, Bool.false_eq_true, if_false, if_neg meets]
  split
  · split <;> rfl
  · rfl

theorem waitChangeover_invalid (invalid : o.valid = false) : waitChangeover s q o =
    { q with exit := if q.target.isSome then some .next else some (.halt .noTarget 0) } := by
  simp [waitChangeover, invalid]

theorem waitChangeover_meetsLowerZone (valid : o.valid = true) (lower : LowerShown o)
    (up : roofDown s = false) : waitChangeover s q o = { q with lowerAll := true, exit := some .lowering } := by
  simp [waitChangeover, valid, (lowerZoneShown_iff o).mpr lower, up]

section
variable (valid : o.valid = true) (plain : LowerShown o → roofDown s = true)
include plain

/-- No lower zone is met with a channel up. -/
theorem meets_no_lowerZone : ¬ (lowerZoneShown o = true ∧ roofDown s = false) := fun h => by
  simp [plain ((lowerZoneShown_iff o).mp h.1)] at h

include valid

theorem waitChangeover_target {g : Sys} (target : q.target = some g) :
    waitChangeover s q o = if o.kind = .sys g then { q with exit := some .next } else q := by
  simp [waitChangeover, valid, if_neg (meets_no_lowerZone plain), target]

/-- Without a target and without a system the stage is within the section that separates the systems. -/
theorem waitChangeover_between (target : q.target = none) (between : ∀ g, o.kind ≠ .sys g) :
    waitChangeover s q o = { q with phase := some .inside } := by
  have none_ : kindSystem o.kind = none := Option.eq_none_iff_forall_ne_some.mpr fun g => by simpa using between g
  simp [waitChangeover, valid, if_neg (meets_no_lowerZone plain), target, none_]

theorem waitChangeover_fixes {g : Sys} (target : q.target = none) (kind : o.kind = .sys g) : waitChangeover s q o =
    if q.phase = some .inside ∨ q.fromSys ≠ some g then { q with target := some g, exit := some .next } else q := by
  simp [waitChangeover, valid, if_neg (meets_no_lowerZone plain), target, kind, kindSystem]

end

/-! ### How a stage is left (R115, R117) -/

theorem stageStep_next (runs : s.chg.seq = some q) (exit : q.exit = some .next) :
    stageStep s = some (leaveStage s q) := by
  simp [stageStep, runs, exit]

theorem stageStep_lowering (runs : s.chg.seq = some q) (exit : q.exit = some .lowering) :
    stageStep s = some (enterStage .lowering s) := by
  simp [stageStep, runs, exit]

theorem stageStep_halt (runs : s.chg.seq = some q) {r : Reason} {n : Nat} (exit : q.exit = some (.halt r n)) :
    stageStep s = some (endSeq s (.halted r) n) := by
  simp [stageStep, runs, exit]

/-- A stage that no event ends goes by the roof as it stands. -/
theorem stageStep_stands (runs : s.chg.seq = some q) (exit : q.exit = none) :
    stageStep s = if stageDone s q then some (leaveStage s q) else none := by
  simp [stageStep, runs, exit]

/-- A stage other than OPENING ends without a change of the systems (R111). -/
theorem leaveStage_enters {st : Stage} (stage : q.stage ≠ .opening) (next : nextStage q.kind q.origin q.stage = some st) :
    leaveStage s q = enterStage st s := by
  simp [leaveStage, openingEnds, stage, next]

/-- Only a NEUTRAL_PASS keeps its collector up over WAIT_SECTION (Table 6-6). -/
theorem nextStage_waitSection (k : SeqKind) (x : Origin) :
    nextStage k x .waitSection = some (if k = .neutralPass then .identify else .raising) := by
  cases k <;> rfl

/-! ### The settle interval (R184) -/

theorem settleDue_eq (settles : s.pst.settle = true) {m : Nat} (last : s.pst.lastSet = some m) :
    settleDue s = decide (100 ≤ s.now - m) := by
  simp [settleDue, settles, last]

end

/-- Settles O46: the timers that are due; the test of an outlook, of a pass and of a CHANGEOVER, and how its stage is left;
the settle interval. -/
theorem stageTimersAndSettleInterval : Obligations.StageTimersAndSettleInterval := by
  refine ⟨fun q s live runs => ?_, fun q s runs stage => ?_, fun m s live settles last => ⟨fun due => ?_, fun early => ?_⟩⟩
  · rw [← deadRunCtx_eq]
    refine ⟨fun stage due => ?_, fun stage due => ?_, fun m stage time due => ?_, fun stage timed due => ?_⟩
    · exact (event_live live).trans (by rw [shedExpiry_due runs stage due])
    · exact (event_live live).trans (by rw [deadRunExpiry_due runs stage due])
    · exact (event_live live).trans (by rw [identifyExpiry_due runs stage time due])
    · exact (event_live live).trans (by rw [converterExpiry_due runs stage timed due])
  · dsimp only
    generalize outlook : s.smp.outlook = o
    have pass : ∀ {r}, q.kind ≠ .changeover → waitPass q o = r → waitTest s = putSeq s r := fun kind e => by
      rw [waitTest_pass runs stage kind, outlook, e]
    have changeover : ∀ {r}, q.kind = .changeover → waitChangeover s q o = r → r.target = q.target →
        waitTest s = putSeq s r := fun kind e same => by
      rw [waitTest_changeover runs stage kind (by rw [outlook, e, same]), outlook, e]
    simp only [← sectionLeft_iff]
    refine ⟨fun kind invalid => pass kind (waitPass_invalid invalid), fun kind valid lower =>
      pass (by simp [kind]) (waitPass_meetsLowerZone valid kind lower), fun kind valid plain => ?_, fun kind => ?_,
      fun exit => ?_, stageStep_lowering runs, fun _ _ => stageStep_halt runs, fun exit => ?_⟩
    · have tested := waitPass_valid valid plain
      refine ⟨fun inside gone => pass kind ?_, fun inside here => pass kind ?_, fun outside ahead => pass kind ?_,
        fun outside past => pass kind ?_⟩
      · rw [tested, if_pos inside, if_pos gone]
      · rw [tested, if_pos inside, if_neg here]
      · rw [tested, if_neg outside, if_pos ahead]
      · rw [tested, if_neg outside, if_neg past]
    · refine ⟨fun invalid target => changeover kind ?_ rfl, fun invalid target => changeover kind ?_ rfl,
        fun valid lower up => changeover kind (waitChangeover_meetsLowerZone valid lower up) rfl, fun valid plain =>
        ⟨fun g target => ⟨fun here => changeover kind ?_ rfl, fun other => changeover kind ?_ rfl⟩, fun target =>
        ⟨fun between => changeover kind (waitChangeover_between valid plain target between) rfl, fun g here =>
        ⟨fun new => ?_, fun outside left => changeover kind ?_ rfl⟩⟩⟩⟩
      · rw [waitChangeover_invalid invalid, if_pos target]
      · rw [waitChangeover_invalid invalid, target]
        rfl
      · rw [waitChangeover_target valid plain target, if_pos here]
      · rw [waitChangeover_target valid plain target, if_neg other]
      · refine waitTest_fixes (r := { q with target := some g, exit := some .next }) runs stage kind ?_ (by simp [target])
        rw [outlook, waitChangeover_fixes valid plain target here, if_pos new]
      · rw [waitChangeover_fixes valid plain target here, if_neg (by simp [outside, left])]
    · simp [stageStep_stands runs exit, stageDone, stage]
    · have next := nextStage_waitSection q.kind q.origin
      rw [← stage] at next
      rw [stageStep_next runs exit, leaveStage_enters (by simp [stage]) next]
      split <;> rfl
  · exact (event_live live).trans (by rw [settleEnd, settleDue_eq settles last, if_pos (by simpa using due)])
  · exact (event_live live).trans (by rw [settleEnd, settleDue_eq settles last, if_neg (by simpa using early)])

end Sys2Proof.Machine
end

section
/-!
PROOFS. SYSTEM SELECT and BREAKER CLOSE, row by row (O13, O14).
-/

namespace Sys2Proof.Machine

/-- The origin of a VCU's request (R112, R128). -/
theorem stationOrigin_vcuStation (v : Vcu) : stationOrigin (vcuStation v) = vcuOrigin v := by cases v <;> rfl

/-! ### SYSTEM SELECT (Table 6-9) -/

theorem sysOfCode_sysCode (t : Sys) : sysOfCode (sysCode t) = some t := by cases t <;> rfl

theorem sysOfCode_of_not_mem {n : Nat} (h : n ∉ [1, 2, 3, 4]) : sysOfCode n = none := by
  unfold sysOfCode
  split <;> simp_all

theorem beforeRaising_iff (x : Stage) :
    beforeRaising x = true ↔ x ∈ ([.shed, .opening, .lowering, .waitSection] : List Stage) := by
  cases x <;> decide

theorem not_beforeRaising_of_mem {x : Stage} (h : x ∈ ([.raising, .identify, .converter, .closing] : List Stage)) :
    beforeRaising x = false := by
  revert h
  cases x <;> decide

@[simp] theorem retargetSeq_target (s : State) (q : Sequence) (t : Sys) :
    (retargetSeq s q t).chg.seq.bind (·.target) = some t := by
  unfold retargetSeq
  dsimp only
  split <;> split <;> rfl

section
variable {s : State} {st : Station} {t : Sys} {n : Byte} {q : Sequence}

theorem systemSelect_unknown (h : n.toNat ∉ [1, 2, 3, 4]) : systemSelect st [n] s = (s, ⟨.range, []⟩) := by
  have none_ : sysOfCode (byteAt [n] 0) = none := sysOfCode_of_not_mem h
  rw [systemSelect, none_]
  rfl

theorem systemSelect_known (h : n.toNat = sysCode t) : systemSelect st [n] s =
    if s.roofState = .safeHeld then (s, ⟨.safeHeld, []⟩) else selectSystem st t s := by
  have known : sysOfCode (byteAt [n] 0) = some t := (congrArg sysOfCode h).trans (sysOfCode_sysCode t)
  rw [systemSelect, known]
  rfl

/-- Rows 3 to 5 of Table 6-9. -/
theorem selectSystem_running (runs : s.chg.seq = some q) : selectSystem st t s =
    if q.kind = .changeover ∧ q.target = some t then (s, ⟨.done, []⟩)
    else if q.kind = .changeover ∧ beforeRaising q.stage = true then (retargetSeq s q t, ⟨.done, []⟩)
    else (s, ⟨.busy, []⟩) := by
  rw [selectSystem, runs]
  rfl

/-- Rows 6 to 8 of Table 6-9. -/
theorem selectSystem_idle (runs : s.chg.seq = none) : selectSystem st t s =
    if s.chg.target = some t then (s, ⟨.done, []⟩)
    else if roofDown s = true ∧ bothOpen s = true then (s.withChg { s.chg with target := some t }, ⟨.done, []⟩)
    else (startSeq s .changeover (stationOrigin st) (some t) none .shed, ⟨.done, []⟩) := by
  rw [selectSystem, runs]
  rfl

end

/-- Settles O13, by the rows of Table 6-9 in their order. -/
theorem systemSelectRows : Obligations.SystemSelectRows := by
  intro v n s accepted
  have answers := exec_accepted_of_rule (p := [n]) accepted rfl
  have roof := heard_roofState (vcuStation v) s
  have chg := heard_chg (vcuStation v) s
  have down : roofDown (heard (vcuStation v) s) = roofDown s := by cases v <;> rfl
  have open_ : bothOpen (heard (vcuStation v) s) = bothOpen s := by rw [bothOpen, chg, bothOpen]
  dsimp only
  generalize heard (vcuStation v) s = h at *
  have rule : requestRule .systemSelect (vcuStation v) [n] h = systemSelect (vcuStation v) [n] h := rfl
  rw [rule] at answers
  refine ⟨fun unknown => answers _ .range [] (systemSelect_unknown unknown), fun t known => ?_⟩
  rw [systemSelect_known known, roof] at answers
  refine ⟨fun held => answers _ .safeHeld [] (if_pos held), fun free => ?_⟩
  rw [if_neg free] at answers
  refine ⟨fun q runs => ?_, fun idle => ?_⟩
  · rw [selectSystem_running (chg ▸ runs)] at answers
    refine ⟨fun kind same => answers _ .done [] (if_pos ⟨kind, same⟩), fun kind other early =>
      ⟨answers _ .done [] ?_, retargetSeq_target h q t⟩, fun late => answers _ .busy [] ?_⟩
    · rw [if_neg fun same => other same.2, if_pos ⟨kind, (beforeRaising_iff _).mpr early⟩]
    · rcases late with kind | ⟨other, late⟩
      · rw [if_neg fun same => kind same.1, if_neg fun early => kind early.1]
      · rw [if_neg fun same => other same.2, if_neg (by simp [not_beforeRaising_of_mem late])]
  · rw [selectSystem_idle (chg ▸ idle), chg, down, open_, stationOrigin_vcuStation] at answers
    refine ⟨fun same => answers _ .done [] (if_pos same), fun other low opened => answers _ .done [] ?_,
      fun other up => answers _ .done [] ?_⟩
    · rw [if_neg other, if_pos ⟨low, opened⟩]
    · rw [if_neg other, if_neg (by rintro ⟨low, opened⟩; simp [low, opened] at up)]

/-! ### The close preconditions (Table 6-5) -/

section
variable {s : State} {t : Sys}

theorem closeFailing_untargeted (h : s.chg.target = none) : closeFailing s = some 1 := by rw [closeFailing, h]

/-- The COLLECTOR is IN_CONTACT and of a class (precondition 2). -/
def ContactOf (s : State) (k : Cls) : Prop := ∃ c, collectorInContact s = some c ∧ chanClass s c = some k

theorem closeFailing_without_contact (target : s.chg.target = some t) (h : ¬ ContactOf s (classOf t)) :
    closeFailing s = some 2 := by
  rw [closeFailing, target]
  cases contact : collectorInContact s with
  | none => rfl
  | some c =>
    have other : chanClass s c ≠ some (classOf t) := fun e => h ⟨c, contact, e⟩
    simp [other]

/-- The preconditions 3 to 6, in their order. -/
theorem closeFailing_with_contact (target : s.chg.target = some t) (h : ContactOf s (classOf t)) : closeFailing s =
    if s.lsi.measured ≠ .sys t then some 3 else if converterReady s t = false then some 4
    else if bothOpen s = false then some 5 else if s.roofState ≠ .ready then some 6 else none := by
  obtain ⟨c, contact, class_⟩ := h
  simp [closeFailing, target, contact, class_]

end

/-! ### BREAKER CLOSE (Table 6-4) -/

section
variable {s : State} {st : Station}

theorem breakerClose_safeHeld (roof : s.roofState = .safeHeld) : breakerClose st s = (s, ⟨.safeHeld, []⟩) := if_pos roof

/-- Past row 1. -/
theorem breakerClose_ready (roof : s.roofState = .ready) : breakerClose st s =
    if s.pst.settle = true then (s, ⟨.settling, []⟩) else if s.chg.seq.isSome = true then (s, ⟨.busy, []⟩)
    else match s.chg.target with
      | none => (s, conditionOf 1)
      | some t =>
        if (brk s (brkOf (classOf t))).state = .closed then done s
        else match closeFailing s with
          | some n => (s, conditionOf n)
          | none => done (startSeq s .close (stationOrigin st) (some t) none .closing) := by
  rw [breakerClose, if_neg (by rw [roof]; nofun)]
  rfl

end

/-- Settles O14: the rows of Table 6-4 in their order, and then the preconditions of Table 6-5 in theirs. -/
theorem breakerCloseRows : Obligations.BreakerCloseRows := by
  refine ⟨fun v s accepted => ?_, fun s => ⟨closeFailing_untargeted, fun t target => ⟨fun apart => ?_, fun contact => ?_⟩⟩⟩
  · have answers := exec_accepted_of_rule (p := []) accepted rfl
    have roof := heard_roofState (vcuStation v) s
    have chg := heard_chg (vcuStation v) s
    have params := heard_pst (vcuStation v) s
    have breakers := heard_brk (vcuStation v) s
    have failing := heard_closeFailing (vcuStation v) s
    dsimp only
    generalize heard (vcuStation v) s = h at *
    have rule : requestRule .breakerClose (vcuStation v) [] h = breakerClose (vcuStation v) h := rfl
    rw [rule] at answers
    refine ⟨fun held => answers _ .safeHeld [] (breakerClose_safeHeld (roof.trans held)), fun ready settling => ?_,
      fun ready settled busy => ?_, fun ready settled idle => ?_⟩
    all_goals rw [breakerClose_ready (roof.trans ready), params, chg, failing] at answers
    · exact answers _ .settling [] (if_pos settling)
    · exact answers _ .busy [] (by rw [if_neg (by simp [settled]), if_pos busy])
    · rw [if_neg (by simp [settled]), if_neg (by simp [idle])] at answers
      refine ⟨fun none => answers _ .condition [0x01#8] (by rw [none]; rfl), fun t target => ?_⟩
      rw [target] at answers
      dsimp only at answers
      rw [breakers] at answers
      refine ⟨fun closed => answers _ .done [] (if_pos closed), fun open_ => ⟨fun i fails => ?_, fun none => ?_⟩⟩
      · exact answers _ .condition [BitVec.ofNat 8 i] (by rw [if_neg open_, fails]; rfl)
      · exact answers _ .done [] (by rw [if_neg open_, none, stationOrigin_vcuStation]; rfl)
  · refine closeFailing_without_contact target fun ⟨c, contact, class_⟩ => ?_
    obtain ⟨role, state⟩ := collectorInContact_some contact
    exact apart c role state class_
  · rw [closeFailing_with_contact target contact]
    refine ⟨fun other => if_pos other, fun same stale => ?_, fun same ready =>
      ⟨fun closed => ?_, fun opened roof => ?_, fun opened roof => ?_⟩⟩
    · rw [if_neg (not_not.mpr same), if_pos stale]
    · simp [same, ready, closed]
    · simp [same, ready, opened, roof]
    · simp [same, ready, opened, roof]

end Sys2Proof.Machine
end

section
/-!
PROOFS. A breaker is closed at entry to CLOSING alone (R105, R126): what a right closing is (`ClosedRightly`), that the stages
of a sequence close in no other way, and that the end of an event leaves a right closing as it is.
-/

namespace Sys2Proof.Machine

/-! ### A right closing -/

/-- A breaker CLOSING in the CLOSING stage, both coils ON with op_time at 0, and every close precondition holding (R105,
Table 6-5). -/
structure ClosedRightly (s : State) (b : Brk) : Prop where
  state : (brk s b).state = .closing
  stage : ∃ q, s.chg.seq = some q ∧ q.stage = .closing ∧ q.exit = none
  coils : (brk s b).closeCoil = true ∧ (brk s b).holdCoil = true ∧ (brk s b).opTime = 0
  other : (brk s (otherBrk b)).state = .opened
  ready : s.roofState = .ready
  target : ∃ g c, s.chg.target = some g ∧ b = brkOf (classOf g) ∧ collectorInContact s = some c ∧
    chanClass s c = some (classOf g) ∧ s.lsi.measured = .sys g ∧ converterReady s g = true

/-- From one state to another no breaker begins to close. -/
structure Unclosed (s t : State) : Prop where
  from_closing : ∀ b, (brk t b).state = .closing → (brk s b).state = .closing

/-- From one state to another a breaker begins to close rightly or not at all. -/
structure Closes (s t : State) : Prop where
  rightly : ∀ b, (brk t b).state = .closing → (brk s b).state = .closing ∨ ClosedRightly t b

theorem Unclosed.of_brk {s t : State} (h : ∀ b, brk t b = brk s b) : Unclosed s t :=
  ⟨fun b => by rw [h b]; exact id⟩

theorem Unclosed.of_chg {s t : State} (h : t.chg = s.chg) : Unclosed s t := .of_brk (brk_congr h)

theorem Unclosed.refl (s : State) : Unclosed s s := ⟨fun _ => id⟩

theorem Unclosed.trans {s t u : State} (h : Unclosed s t) (g : Unclosed t u) : Unclosed s u :=
  ⟨fun b => h.from_closing b ∘ g.from_closing b⟩

theorem Unclosed.ite {s t u : State} {p : Prop} [Decidable p] (h : p → Unclosed s t) (g : ¬ p → Unclosed s u) :
    Unclosed s (if p then t else u) := by
  split
  · exact h ‹_›
  · exact g ‹_›

/-- A state in which no breaker is CLOSING. -/
theorem Unclosed.of_none {s t : State} (h : ∀ b, (brk t b).state ≠ .closing) : Unclosed s t :=
  ⟨fun b e => absurd e (h b)⟩

theorem opened_state_ne_closing (r : Breaker) : (opened r).state ≠ .closing := fun e => by
  have made := brkMade_of_closing e
  rw [brkMade_opened] at made
  cases made

/-- An open closes nothing. -/
theorem Opens.unclosed {s t : State} (h : Opens s t) : Unclosed s t where
  from_closing b closing := by
    rcases h b with e | e <;> rw [e] at closing
    · exact closing
    · exact absurd closing (opened_state_ne_closing _)

theorem unclosed_putBrk {s : State} {b : Brk} {r : Breaker} (h : r.state ≠ .closing) : Unclosed s (putBrk s b r) where
  from_closing d := by
    rw [brk_putBrk]
    split
    · exact fun e => absurd e h
    · exact id

theorem Unclosed.closes {s t : State} (h : Unclosed s t) : Closes s t := ⟨fun b e => .inl (h.from_closing b e)⟩

theorem Opens.closes {s t : State} (h : Opens s t) : Closes s t := h.unclosed.closes

theorem Closes.refl (s : State) : Closes s s := (Unclosed.refl s).closes

theorem Closes.ite {s t u : State} {p : Prop} [Decidable p] (h : p → Closes s t) (g : ¬ p → Closes s u) :
    Closes s (if p then t else u) := by
  split
  · exact h ‹_›
  · exact g ‹_›

theorem Unclosed.then {s t u : State} (h : Unclosed s t) (g : Closes t u) : Closes s u :=
  ⟨fun b e => (g.rightly b e).imp_left (h.from_closing b)⟩

/-- What follows a closing leaves it right. -/
theorem Closes.then {s t u : State} (h : Closes s t) (keeps : ∀ b, ClosedRightly t b → ClosedRightly u b)
    (g : Closes t u) : Closes s u :=
  ⟨fun b e => (g.rightly b e).elim (fun e => (h.rightly b e).imp_right (keeps b)) .inr⟩

/-- A right closing stands while the sequencer, the roof state, the identifier, the cab unit, the parameters and the
contact of the COLLECTOR do. -/
theorem ClosedRightly.of_calm {s t : State} {b : Brk} (h : ClosedRightly s b) (chg : t.chg = s.chg) (calm : calm t = calm s)
    (contact : ∀ c, collectorInContact s = some c → collectorInContact t = some c) : ClosedRightly t b := by
  obtain ⟨g, c, target, served, touches, class_, measured, ready⟩ := h.target
  have sameClass : chanClass t c = chanClass s c := by rw [chanClass, kept_eff (calm_kept calm), chanClass]
  have sameReady : converterReady t g = converterReady s g := by rw [converterReady, calm_cau calm, converterReady]
  refine ⟨?_, ?_, ?_, ?_, (calm_roofState calm).trans h.ready,
    g, c, chg ▸ target, served, contact c touches, sameClass.trans class_, calm_lsi calm ▸ measured, sameReady.trans ready⟩
  · rw [brk_congr chg]; exact h.state
  · rw [chg]; exact h.stage
  · rw [brk_congr chg]; exact h.coils
  · rw [brk_congr chg]; exact h.other

/-! ### Sequences -/

theorem unclosed_putSeq (s : State) (q : Sequence) : Unclosed s (putSeq s q) := .of_brk (putSeq_brk s q)

/-- A write of the sequencer's record beside its breakers. -/
theorem opens_withChg {s : State} {x : Chg} (h : (x.bka, x.bkd) = (s.chg.bka, s.chg.bkd)) : Opens s (s.withChg x) := by
  obtain ⟨bka, bkd⟩ := Prod.mk.inj h
  exact fun b => .inl (by cases b <;> assumption)

theorem opens_putSeq (s : State) (q : Sequence) : Opens s (putSeq s q) := opens_withChg rfl

theorem opens_recompute (s : State) : Opens s (recompute s) := .ite (.of_chg rfl) (.of_chg rfl)

theorem opens_forceChanged (b : Option Sys) (s : State) : Opens s (forceChanged b s) := .ite (opens_recompute s) (.refl s)

theorem opens_waitTest (s : State) : Opens s (waitTest s) := by
  unfold waitTest
  split
  · exact .refl s
  · exact .ite (.ite (.ite (opens_putSeq _ _) (opens_withChg rfl)) (opens_putSeq _ _)) (.refl s)

theorem opens_identifyTest (s : State) : Opens s (identifyTest s) := by
  unfold identifyTest
  split
  · exact .ite (opens_putSeq _ _) (.refl s)
  · exact .refl s

theorem opens_newOutlook (s : State) : Opens s (newOutlook s) :=
  (((opens_recompute s).trans (opens_waitTest _)).trans (opens_identifyTest _)).trans (opens_automaticStart _)

/-- At its entry a stage other than CLOSING at most opens the breakers. -/
theorem opens_enterWork {st : Stage} (other : st ≠ .closing) (s : State) : Opens s (enterWork st s) := by
  unfold enterWork
  split
  · exact .refl s
  · cases st with
    | shed => exact Opens.trans (.ite (opens_putSeq _ _) (.refl s)) (opens_withChg rfl)
    | opening => exact (opens_openBrk _ _).trans (opens_openBrk _ _)
    | lowering => exact .ite ((opens_putSeq _ _).trans (.of_chg (lowerAllFitted_chg _))) (opens_putSeq _ _)
    | waitSection => exact (opens_putSeq _ _).trans (opens_waitTest _)
    | raising => exact opens_putSeq _ _
    | identify => exact .ite (opens_putSeq _ _) (opens_putSeq _ _)
    | converter => exact .refl s
    | closing => exact absurd rfl other

theorem opens_startSeq {st : Stage} (other : st ≠ .closing) (s : State) (k : SeqKind) (o : Origin) (t : Option Sys)
    (a : Option Awaited) : Opens s (startSeq s k o t a st) := by
  rw [startSeq_eq]
  exact ((opens_putSeq _ _).trans (.of_chg (startReported_chg _))).trans (opens_enterWork other _)

/-! ### The CLOSING stage (R126) -/

section
variable {s : State} {q : Sequence}

/-- No precondition of Table 6-5 fails: each of them holds. -/
theorem closable_of_closeFailing (h : closeFailing s = none) : ∃ g c, s.chg.target = some g ∧
    collectorInContact s = some c ∧ chanClass s c = some (classOf g) ∧ s.lsi.measured = .sys g ∧
    converterReady s g = true ∧ (∀ b, (brk s b).state = .opened) ∧ s.roofState = .ready := by
  obtain ⟨both, roof⟩ := closeFailing_none h
  cases target : s.chg.target with
  | none => rw [closeFailing_untargeted target] at h; cases h
  | some g =>
    by_cases contact : ContactOf s (classOf g)
    · rw [closeFailing_with_contact target contact] at h
      obtain ⟨c, touches, class_⟩ := contact
      simp only [ite_eq_iff, reduceCtorEq, and_false, false_or, ne_eq, not_not, Bool.not_eq_false] at h
      obtain ⟨measured, ready, -⟩ := h
      rw [bothOpen, Bool.and_eq_true, beq_iff_eq, beq_iff_eq] at both
      exact ⟨g, c, rfl, touches, class_, measured, ready, fun b => by cases b; exacts [both.1, both.2], roof⟩
    · rw [closeFailing_without_contact target contact] at h
      cases h

/-- CLOSING halts where a precondition fails. -/
theorem enterWork_closing_fails (runs : s.chg.seq = some q) {n : Nat} (fails : closeFailing s = some n) :
    enterWork .closing s = putSeq s { q with exit := some (.halt .closeCondition n) } := by
  simp [enterWork, runs, fails]

/-- And closes the breaker of the target's class where none does. -/
theorem enterWork_closing_closes (runs : s.chg.seq = some q) (closable : closeFailing s = none) {g : Sys}
    (target : s.chg.target = some g) : enterWork .closing s = closeBrk s (brkOf (classOf g)) := by
  simp [enterWork, runs, closable, target]

theorem closeBrk_brk_other (s : State) (b : Brk) : brk (closeBrk s b) (otherBrk b) = brk s (otherBrk b) :=
  brk_putBrk_other s b _

theorem closeBrk_seq (s : State) (b : Brk) : (closeBrk s b).chg.seq = s.chg.seq := by cases b <;> rfl

theorem closes_enterWork_closing (runs : s.chg.seq = some q) (stage : q.stage = .closing) (exit : q.exit = none) :
    Closes s (enterWork .closing s) := by
  cases closable : closeFailing s with
  | some n =>
    rw [enterWork_closing_fails runs closable]
    exact (unclosed_putSeq ..).closes
  | none =>
    obtain ⟨g, c, target, touches, class_, measured, ready, open_, roof⟩ := closable_of_closeFailing closable
    rw [enterWork_closing_closes runs closable target]
    have calm := calm_closeBrk s (brkOf (classOf g))
    refine ⟨fun b closing => ?_⟩
    rcases eq_or_eq_otherBrk (brkOf (classOf g)) b with rfl | rfl
    · refine .inr ⟨closing, ⟨q, (closeBrk_seq ..).trans runs, stage, exit⟩, ?_, ?_, (calm_roofState calm).trans roof,
        g, c, ?_, rfl, ?_, ?_, ?_, ?_⟩
      · rw [closeBrk, brk_putBrk_self]
        exact ⟨rfl, rfl, rfl⟩
      · rw [closeBrk_brk_other]
        exact open_ _
      all_goals cases brkOf (classOf g) <;> assumption
    · rw [closeBrk_brk_other, open_] at closing
      cases closing

end

theorem closes_enterStage (st : Stage) (s : State) : Closes s (enterStage st s) := by
  unfold enterStage
  split
  · exact .refl s
  · have entered : ∀ r : Sequence, r.stage = st → r.exit = none → Closes s (enterWork st (putSeq s r)) := by
      refine fun r stage exit => (unclosed_putSeq s r).then ?_
      by_cases other : st = .closing
      · subst other
        exact closes_enterWork_closing (putSeq_seq s r) stage exit
      · exact (opens_enterWork other _).closes
    exact entered _ rfl rfl

/-- A start in CLOSING closes rightly; any other start closes nothing. -/
theorem closes_startSeq (s : State) (k : SeqKind) (o : Origin) (t : Option Sys) (a : Option Awaited) (st : Stage) :
    Closes s (startSeq s k o t a st) :=
  ((unclosed_putSeq ..).trans (.of_chg (startReported_chg _))).then (closes_enterStage ..)

theorem closes_leaveStage (s : State) (q : Sequence) : Closes s (leaveStage s q) := by
  have ended : Opens s (openingEnds s q) :=
    .ite (Opens.trans (t := s.withChg { s.chg with inForce := none, target := q.target }) (opens_withChg rfl)
      (opens_forceChanged _ _)) (.refl s)
  unfold leaveStage
  dsimp only
  split
  · exact ended.unclosed.then (closes_enterStage ..)
  · exact (ended.trans (opens_endSeq _ _ _)).closes

theorem closes_stageStep {s t : State} (h : stageStep s = some t) : Closes s t := by
  unfold stageStep at h
  split at h
  · cases h
  · split at h
    · cases h; exact closes_leaveStage ..
    · cases h; exact closes_enterStage ..
    · cases h; exact (opens_endSeq _ _ _).closes
    · split at h
      · cases h; exact closes_leaveStage ..
      · cases h

/-- A right closing stays in its stage until the feedback or the operating time ends it. -/
theorem ClosedRightly.stageStep {s : State} {b : Brk} (h : ClosedRightly s b) : stageStep s = none := by
  obtain ⟨q, runs, stage, exit⟩ := h.stage
  simp [Machine.stageStep, runs, exit, stageDone, stage]

theorem ClosedRightly.progressFuel {s : State} {b : Brk} (h : ClosedRightly s b) (n : Nat) : progressFuel n s = s := by
  cases n with
  | zero => rfl
  | succ n => rw [Machine.progressFuel, h.stageStep]

theorem closes_progress (s : State) : Closes s (progress s) := by
  have fuelled : ∀ n s, Closes s (progressFuel n s) := fun n => by
    induction n with
    | zero => exact .refl
    | succ n ih =>
      intro s
      unfold progressFuel
      split
      · exact (closes_stageStep ‹_›).then (fun b right => by rwa [right.progressFuel]) (ih _)
      · exact .refl s
  exact fuelled _ _

/-! ### The end of an event -/

/-- Lowering the SCRAPER leaves the contact of the COLLECTOR. -/
theorem contact_lowerScraper {s : State} {c : Chan} (h : collectorInContact s = some c) :
    collectorInContact (lowerScraper s) = some c := by
  have other : ∀ d, (chan (lowerScraper s) d).role = .collector → chan (lowerScraper s) d = chan s d := fun d role =>
    (lowerScraper_other fun scrapes => by
      by_contra up
      rw [Bool.not_eq_false] at up
      rw [(lowerScraper_up scrapes up).1, lowered_of_raised up] at role
      cases scrapes.symm.trans role).1
  obtain ⟨collects, touches⟩ := collectorInContact_some h
  have same : chan (lowerScraper s) c = chan s c := (lowerScraper_other fun scrapes => by simp [collects] at scrapes).1
  refine find?_of_imp h (by simp [isCollector, same, collects, touches]) fun d => ?_
  simp only [isCollector, Bool.and_eq_true, beq_iff_eq]
  exact fun ⟨role, state⟩ => other d role ▸ ⟨role, state⟩

/-- And so does withdrawing its request (R149). -/
theorem contact_scraperTest {s : State} {c : Chan} (h : collectorInContact s = some c) :
    collectorInContact (scraperTest s) = some c := by
  refine scraperTest_keeps (P := fun t => collectorInContact t = some c) h ?_ fun _ => h
  obtain ⟨u, lowers, withdrawn⟩ := withdrawScraper_eq s
  have lowered : collectorInContact u = some c := lowers ▸ contact_lowerScraper h
  rw [withdrawn]
  exact lowered

/-- A SCRAPER rises from rest. -/
theorem contact_scraperRaise {s : State} {c : Chan} (h : collectorInContact s = some c) :
    collectorInContact (scraperRaise s) = some c := by
  cases chosen : scraperCandidate s with
  | none => rwa [scraperRaise_none chosen]
  | some d =>
    obtain ⟨p, rises⟩ := scraperRises_of chosen
    have raise := raises_scraperRaise chosen
    obtain ⟨collects, touches⟩ := collectorInContact_some h
    have apart : c ≠ d := fun same => by
      rw [same, rises.available.state] at touches
      cases touches
    refine find?_of_imp h (by simp [isCollector, raise.other apart, collects, touches]) fun x => ?_
    by_cases same : x = d
    · subst same; simp [isCollector, raise.self, risen]
    · simp [isCollector, raise.other same]

theorem contact_heaterTest (b s : State) : collectorInContact (heaterTest b s) = collectorInContact s := by
  have same : ∀ c, chan (heaterTest b s) c = chan s c := chan_congr (heaterTest_pcu b s)
  simp only [collectorInContact, isCollector, same]

/-- Past the stages, the end of an event leaves a right closing as it is: its COLLECTOR stands in contact, so none is
raised, and the SCRAPER is no matter of it. -/
theorem ClosedRightly.afterStages {s : State} {b : Brk} (h : ClosedRightly s b) (before : State) :
    ClosedRightly (heaterTest before (scraperRaise (scraperTest (collectorRaise (dropScraper s))))) b := by
  obtain ⟨g, c, -, -, touches, -, -, -⟩ := h.target
  have dropped : dropScraper s = s := if_neg (by simp [touches])
  have raised : collectorRaise s = s := by
    refine collectorRaise_none (Option.eq_none_iff_forall_ne_some.mpr fun d rises => ?_)
    obtain ⟨t, rises⟩ := collectorRises_of rises
    exact collector_none.mp rises.none c (collectorInContact_some touches).1
  rw [dropped, raised]
  refine h.of_calm ?_ ?_ fun d contact => ?_
  · rw [heaterTest_chg, scraperRaise_chg, scraperTest_chg]
  · rw [calm_heaterTest, calm_scraperRaise, calm_scraperTest]
  · rw [contact_heaterTest]
    exact contact_scraperRaise (contact_scraperTest contact)

theorem ClosedRightly.settle {s : State} {b : Brk} (h : ClosedRightly s b) (before : State) :
    ClosedRightly (settle before s) b := by
  by_cases run : Running s
  · rw [settle_of_running before run, beforeRaises, progress, h.progressFuel]
    exact h.afterStages before
  · rwa [settle_of_not_running before run]

theorem closes_settle (before s : State) : Closes s (settle before s) := by
  by_cases run : Running s
  · have rest : ∀ u, Unclosed u (heaterTest before (scraperRaise (scraperTest (collectorRaise (dropScraper u))))) :=
      fun u => .of_chg (by
        rw [heaterTest_chg, scraperRaise_chg, scraperTest_chg, collectorRaise_chg, dropScraper]
        split
        · exact lowerScraper_chg _
        · rfl)
    rw [settle_of_running before run, beforeRaises]
    exact (closes_progress s).then (fun _ right => right.afterStages before) (rest _).closes
  · rw [settle_of_not_running before run]
    exact .refl s

end Sys2Proof.Machine
end

section
/-!
PROOFS. The effects of readings, inputs, timers and the profile store close no breaker, block by block as `Upholds` goes
(O15); a converter report may, as it ends a stage that waits for it.
-/

namespace Sys2Proof.Machine

/-! ### Writes and offers -/

theorem Unclosed.foldl {α : Type} {f : State → α → State} (h : ∀ s x, Unclosed s (f s x)) (l : List α) (s : State) :
    Unclosed s (l.foldl f s) := by
  induction l generalizing s with
  | nil => exact .refl s
  | cons x xs ih => exact (h s x).trans (ih _)

section
variable (s : State)

theorem unclosed_withCau (x : Cau) : Unclosed s (s.withCau x) := .of_chg rfl
theorem unclosed_withLsi (x : Lsi) : Unclosed s (s.withLsi x) := .of_chg rfl
theorem unclosed_withIce (x : Ice) : Unclosed s (s.withIce x) := .of_chg rfl
theorem unclosed_withPst (x : Pst) : Unclosed s (s.withPst x) := .of_chg rfl
theorem unclosed_withSmp (x : Smp) : Unclosed s (s.withSmp x) := .of_chg rfl
theorem unclosed_withFlt (x : Flt) : Unclosed s (s.withFlt x) := .of_chg rfl
theorem unclosed_withLnk (x : Lnk) : Unclosed s (s.withLnk x) := .of_chg rfl
theorem unclosed_putChan (c : Chan) (r : Channel) : Unclosed s (putChan s c r) := .of_chg rfl
theorem unclosed_putOut (x : Output) (r : Out) : Unclosed s (putOut s x r) := by cases x <;> exact .of_chg rfl
theorem unclosed_dumpInService (c : Chan) : Unclosed s (dumpInService s c) := .of_chg rfl
theorem unclosed_writeValve (c : Chan) (d : Nat) : Unclosed s (writeValve s c d) := .of_chg (writeValve_chg s c d)

theorem unclosed_offer (o : Offer) : Unclosed s (offer s o) := (opens_offer s o).unclosed
theorem unclosed_offerPlain (k : FaultKind) : Unclosed s (offerPlain s k) := unclosed_offer ..
theorem unclosed_offerChan (k : FaultKind) (c : Chan) : Unclosed s (offerChan s k c) := unclosed_offer ..
theorem unclosed_offerBrk (k : FaultKind) (b : Brk) : Unclosed s (offerBrk s k b) := unclosed_offer ..
theorem unclosed_offerParam (k : FaultKind) (n : Nat) : Unclosed s (offerParam s k n) := unclosed_offer ..

theorem unclosed_openBrk (b : Brk) : Unclosed s (openBrk s b) := (opens_openBrk s b).unclosed
theorem unclosed_withChg {x : Chg} (h : (x.bka, x.bkd) = (s.chg.bka, s.chg.bkd)) : Unclosed s (s.withChg x) :=
  (opens_withChg h).unclosed
theorem unclosed_setShed : Unclosed s (setShed s) := .of_brk (setShed_brk s)
theorem unclosed_endSeq (x : Result) (n : Nat) : Unclosed s (endSeq s x n) := (opens_endSeq s x n).unclosed
theorem unclosed_newOutlook : Unclosed s (newOutlook s) := (opens_newOutlook s).unclosed
theorem unclosed_failInto (c : Chan) (x : ChanState) : Unclosed s (failInto s c x) := (opens_failInto s c x).unclosed

theorem unclosed_haltThenOffer (x : Reason) (k : FaultKind) (b : Brk) : Unclosed s (haltThenOffer s x k b) :=
  (unclosed_endSeq ..).trans (unclosed_offerBrk ..)

theorem unclosed_failed (x : Role) : Unclosed s (failed s x) := by
  have noted : Unclosed s (noteFailure s x) := .of_chg (noteFailure_chg s x)
  exact .ite (fun _ => noted.trans (opens_collectorFailed _).unclosed) fun _ => noted

/-! ### The cab and the converter -/

theorem unclosed_startShed (k : SeqKind) (o : Origin) (t : Option Sys) (a : Option Awaited) :
    Unclosed s (startSeq s k o t a .shed) := (opens_startSeq (by decide) s k o t a).unclosed

theorem unclosed_abortThenShed (x : Reason) (k : SeqKind) (o : Origin) (t : Option Sys) (a : Option Awaited) :
    Unclosed s (startSeq (abortSeq s x) k o t a .shed) :=
  (opens_abortSeq s x).unclosed.trans (unclosed_startShed ..)

theorem unclosed_roofDownRequest (x : Reason) (o : Origin) : Unclosed s (roofDownRequest s x o) :=
  Unclosed.trans (.of_chg (endDemand_chg s)) (unclosed_abortThenShed ..)

/-- The holder of the cab goes, with a roof-down request (R71, R73, R78). -/
theorem unclosed_cabEnds (v : Option Vcu) (x : Reason) (o : Origin) :
    Unclosed s (roofDownRequest (setActive s v) x o) :=
  (unclosed_withCau ..).trans (unclosed_roofDownRequest ..)

theorem unclosed_cabLapse : Unclosed s (cabLapse s) := by
  unfold cabLapse
  split
  · exact (unclosed_offer ..).trans (unclosed_cabEnds ..)
  · exact .refl s
end

theorem unclosed_demandExpiry (s : State) : Unclosed s (demandExpiry s) := by
  unfold demandExpiry
  split
  · exact unclosed_roofDownRequest ..
  · exact .refl s

theorem unclosed_examineConverter (s : State) : Unclosed s (examineConverter s) := by
  unfold examineConverter
  split
  · exact .refl s
  · exact .ite (fun _ => unclosed_offerBrk ..) fun _ => .ite (fun _ => unclosed_offerBrk ..) fun _ => .refl s

theorem unclosed_converterStale (s : State) : Unclosed s (converterStale s) :=
  .ite (fun _ => (unclosed_withCau ..).trans (unclosed_examineConverter _)) fun _ => .refl s

theorem unclosed_converterRetest (s : State) : Unclosed s (converterRetest s) :=
  .ite (fun _ => unclosed_withCau ..) fun _ => unclosed_converterStale s

/-- Beside a right closing no breaker is CLOSED. -/
theorem ClosedRightly.closedBrk {s : State} {b : Brk} (h : ClosedRightly s b) : closedBrk s = none := by
  rw [← Option.not_isSome_iff_eq_none, closedBrk_isSome_iff]
  rintro ⟨d, closed⟩
  rcases eq_or_eq_otherBrk b d with rfl | rfl
  · rw [h.state] at closed; cases closed
  · rw [h.other] at closed; cases closed

/-- A report ends a stage that waits for it, and so may reach CLOSING (R79, R118). -/
theorem closes_takeReport (x : ConvState) (t : Option Sys) (s : State) : Closes s (takeReport x t s) := by
  have reported : ∀ u, Unclosed u (shedReport x u) := fun u => by
    unfold shedReport
    split
    · exact .ite (fun _ => unclosed_putSeq ..) fun _ => .refl u
    · exact .refl u
  have examined : ∀ u b, ClosedRightly u b → ClosedRightly (examineConverter u) b := fun u b right => by
    rwa [examineConverter, right.closedBrk]
  exact (((unclosed_withCau ..).trans (reported _)).then (closes_progress _)).then (examined _)
    (unclosed_examineConverter _).closes

/-! ### The breakers (R105 to R110) -/

theorem unclosed_closeCompletes (s : State) (b : Brk) : Unclosed s (closeCompletes s b) := by
  have recorded : ∀ u : State, Unclosed u (recordEnd (u.withChg { u.chg with inForce := u.chg.target, shed := false })
      .complete 0) := fun u => (unclosed_withChg u rfl).trans (.of_brk (recordEnd_brk _ _ _))
  have forced : ∀ u, Unclosed u (forceChanged s.chg.inForce u) := fun u => (opens_forceChanged _ u).unclosed
  have closed : Unclosed s (putBrk s b { brk s b with state := .closed, closeCoil := false, holdCoil := true, opTime := 0 }) :=
    unclosed_putBrk nofun
  exact (((closed.trans (recorded _)).trans (forced _)).trans (unclosed_examineConverter _)).trans
    (opens_automaticStart _).unclosed

theorem unclosed_restBrk (s : State) (b : Brk) {x : BrkState} (h : x ≠ .closing) :
    Unclosed s (putBrk s b (restBrk (brk s b) x)) := unclosed_putBrk h

theorem unclosed_feedbackTaken (s : State) (b : Brk) (closed : Bool) : Unclosed s (feedbackTaken s b closed) := by
  have trips : Unclosed s (trips s b) :=
    ((unclosed_restBrk s b (x := .opened) nofun).trans (unclosed_setShed _)).trans (unclosed_offerBrk ..)
  have uncommanded : Unclosed s (closesUncommanded s b) :=
    ((unclosed_restBrk s b (x := .failed) nofun).trans (unclosed_openBrk ..)).trans (unclosed_offerBrk ..)
  unfold feedbackTaken
  split
  · exact unclosed_closeCompletes s b
  · exact trips
  · exact uncommanded
  · exact unclosed_restBrk s b nofun
  · exact unclosed_restBrk s b nofun
  all_goals exact .refl s

theorem unclosed_feedbackChange (b : Brk) (closed : Bool) (s : State) : Unclosed s (feedbackChange b closed s) := by
  have recorded : Unclosed s (putBrk s b { brk s b with feedback := closed }) := ⟨fun d => by
    rw [brk_putBrk]
    split
    · subst_vars; exact id
    · exact id⟩
  have reset : (Breaker.reset closed).state ≠ .closing := by cases closed <;> nofun
  exact .ite (fun _ => .refl s) fun _ => .ite (fun _ => unclosed_putBrk reset) fun _ =>
    recorded.trans (unclosed_feedbackTaken _ b closed)

theorem unclosed_closeExpiry (b : Brk) (closed : Bool) (s : State) : Unclosed s (closeExpiry b closed s) := by
  refine .ite (fun _ => Unclosed.trans (unclosed_putBrk ?_) (unclosed_haltThenOffer ..)) fun _ => .refl s
  cases closed <;> nofun

theorem unclosed_openExpiry (b : Brk) (closed : Bool) (s : State) : Unclosed s (openExpiry b closed s) :=
  .ite (fun _ => .ite (fun _ => (unclosed_restBrk s b (x := .failed) nofun).trans (unclosed_offerBrk ..)) fun _ =>
    unclosed_restBrk s b nofun) fun _ => .refl s

theorem unclosed_shedExpiry (s : State) : Unclosed s (shedExpiry s) := by
  unfold shedExpiry
  split
  · exact .ite (fun _ => (unclosed_offer ..).trans (unclosed_putSeq ..)) fun _ => .refl s
  · exact .refl s

theorem unclosed_deadRunExpiry (s : State) : Unclosed s (deadRunExpiry s) := by
  unfold deadRunExpiry
  split
  · exact .ite (fun _ => unclosed_offer ..) fun _ => .refl s
  · exact .refl s

theorem unclosed_identifyExpiry (s : State) : Unclosed s (identifyExpiry s) := by
  unfold identifyExpiry
  split
  · exact .ite (fun _ => unclosed_offer ..) fun _ => .refl s
  · exact .refl s

theorem unclosed_converterExpiry (s : State) : Unclosed s (converterExpiry s) := by
  unfold converterExpiry
  split
  · exact .ite (fun _ => (unclosed_putSeq ..).trans (unclosed_offer ..)) fun _ => .refl s
  · exact .refl s

/-! ### The identifier -/

theorem unclosed_takeSample (x : Int) (s : State) : Unclosed s (takeSample x s) :=
  .ite (fun _ => .refl s) fun _ => .ite (fun _ => unclosed_withLsi ..) fun _ => unclosed_withLsi ..

theorem unclosed_decideCheck (k : LineClass) (s : State) : Unclosed s (decideCheck k s) := by
  unfold decideCheck
  split
  · exact .ite (fun _ => .ite (fun _ => unclosed_withLsi ..) fun _ =>
      (unclosed_withLsi ..).trans (unclosed_offerPlain ..)) fun _ => .refl s
  · exact .refl s

theorem unclosed_examineLine (k : LineClass) (s : State) : Unclosed s (examineLine k s) := by
  unfold examineLine
  split
  · exact .refl s
  · split
    · exact unclosed_offerBrk ..
    · exact unclosed_offerBrk ..
    · exact .ite (fun _ => .refl s) fun _ => unclosed_offerBrk ..

theorem unclosed_identifyResult (k : LineClass) (s : State) : Unclosed s (identifyResult k s) := by
  unfold identifyResult
  split
  · exact .refl s
  · split
    · split
      · exact .refl s
      · exact unclosed_haltThenOffer ..
      · exact .ite (fun _ => unclosed_putSeq ..) fun _ => unclosed_offerBrk ..
    · exact .refl s

theorem unclosed_handResult (k : LineClass) (s : State) : Unclosed s (handResult k s) :=
  ((unclosed_decideCheck ..).trans (unclosed_examineLine ..)).trans (unclosed_identifyResult ..)

theorem unclosed_publishWindow (s : State) : Unclosed s (publishWindow s) := by
  have shown : ∀ w m, Unclosed s (published s w m) := fun w m =>
    .ite (fun _ => (unclosed_withLsi ..).trans (unclosed_offer ..)) fun _ => unclosed_withLsi ..
  cases hw : s.lsi.evaluating with
  | none =>
    unfold publishWindow
    rw [hw]
    exact .refl s
  | some w =>
    by_cases enough : runRequirement s (windowRecord s w).cls
        ≤ nextRun s.lsi.candidate s.lsi.runCount (windowRecord s w).cls
    · rw [publishWindow_qualified hw enough]
      exact (shown _ _).trans (unclosed_handResult ..)
    · rw [publishWindow_unqualified hw (Nat.lt_of_not_le enough)]
      exact shown _ _

/-! ### The channels (R25 to R37) -/

theorem unclosed_testStrip (s : State) (c : Chan) : Unclosed s (testStrip s c) :=
  .of_chg (testStrip_chg s c)

theorem unclosed_storeForce (c : Chan) (f : Int) (s : State) : Unclosed s (storeForce c f s) :=
  .ite (fun _ => (unclosed_putChan ..).trans (unclosed_offerChan ..)) fun _ => unclosed_putChan ..

theorem unclosed_storeHeight (c : Chan) (h : Int) (s : State) : Unclosed s (storeHeight c h s) :=
  .ite (fun _ => unclosed_putChan ..) fun _ => unclosed_putChan ..

theorem unclosed_storeStrip (c : Chan) (t : Int) (s : State) : Unclosed s (storeStrip c t s) :=
  (unclosed_withIce ..).trans (unclosed_testStrip ..)

theorem unclosed_failLower (s : State) (c : Chan) : Unclosed s (failLower s c) :=
  ((unclosed_putChan ..).trans (unclosed_writeValve ..)).trans (unclosed_failed ..)

theorem unclosed_noWire (s : State) (c : Chan) : Unclosed s (noWire s c) :=
  (unclosed_failLower ..).trans (unclosed_offerChan ..)

theorem unclosed_arcEvent (c : Chan) (s : State) : Unclosed s (arcEvent c s) := by
  have offered : Unclosed s (offerChan (putChan s c { chan s c with arcArmed := false }) .arc c) :=
    (unclosed_putChan ..).trans (unclosed_offerChan ..)
  exact .ite (fun _ => offered.trans (unclosed_withIce ..)) fun _ => offered

theorem unclosed_readContact (c : Chan) (s : State) : Unclosed s (readContact c s) := by
  have counted : ∀ low, Unclosed s (countLowForce c low s) := fun _ => unclosed_putChan ..
  have read : ∀ low, Unclosed s (readArc c low s) := fun low =>
    .ite (fun _ => (counted low).trans (unclosed_arcEvent ..)) fun _ =>
      .ite (fun _ => (counted low).trans (unclosed_putChan ..)) fun _ => counted low
  rw [readContact_eq]
  exact .ite (fun _ => (read _).trans (unclosed_noWire ..)) fun _ => read _

theorem unclosed_reachRest (s : State) (c : Chan) : Unclosed s (reachRest s c) := by
  have rests : ∀ r x, Unclosed s (giveRole (putChan s c r) c x) := fun _ _ => .of_chg rfl
  unfold reachRest
  dsimp only
  split
  · exact rests ..
  · exact rests ..
  · exact .ite (fun _ => rests ..) fun _ => rests ..
  all_goals exact .refl s

theorem unclosed_readTransitions (c : Chan) (h : Int) (s : State) : Unclosed s (readTransitions c h s) := by
  have rested : ∀ p : Prop, [Decidable p] → Unclosed s (if p then reachRest s c else s) := fun _ =>
    .ite (fun _ => unclosed_reachRest ..) fun _ => .refl s
  unfold readTransitions
  split
  · exact .ite (fun _ => unclosed_putChan ..) fun _ => .ite (fun _ => unclosed_noWire ..) fun _ => .refl s
  · exact unclosed_readContact ..
  · exact rested _
  · exact rested _
  · exact rested _
  all_goals exact .refl s

theorem unclosed_takeReading (c : Chan) (h f t : Int) (s : State) : Unclosed s (takeReading c h f t s) := by
  have stored : Unclosed s (storeStrip c t (storeHeight c h (storeForce c f s))) :=
    ((unclosed_storeForce ..).trans (unclosed_storeHeight ..)).trans (unclosed_storeStrip ..)
  exact .ite (fun _ => stored) fun _ => stored.trans (unclosed_readTransitions ..)

theorem unclosed_heightSensor (c : Chan) (s : State) : Unclosed s (heightSensor c s) := by
  have fails : ∀ u, Unclosed u (heightFails u c) := fun u => by
    unfold heightFails
    dsimp only
    split
    · exact unclosed_failInto ..
    · exact unclosed_failInto ..
    · exact unclosed_putChan ..
    · exact unclosed_putChan ..
    · exact unclosed_putChan ..
    · exact unclosed_putChan ..
    · exact .refl u
    · exact unclosed_dumpInService ..
  exact .ite (fun _ => .ite (fun _ => ((unclosed_putChan ..).trans (fails _)).trans (unclosed_offerChan ..)) fun _ =>
    unclosed_putChan ..) fun _ => .refl s

theorem unclosed_headLost {s t : State} {c : Chan} (h : headLost s c = some t) : Unclosed s t := by
  unfold headLost at h
  dsimp only at h
  split at h <;> cases h
  · exact unclosed_failInto ..
  · exact unclosed_failInto ..
  · exact unclosed_putChan ..
  · exact unclosed_putChan ..
  · exact .refl s
  · exact unclosed_dumpInService ..

theorem unclosed_headokLost (c : Chan) (s : State) : Unclosed s (headokLost c s) := by
  refine .ite (fun _ => .ite (fun _ => unclosed_putChan ..) fun _ => ?_) fun _ => .refl s
  split
  · exact ((unclosed_putChan ..).trans (unclosed_headLost ‹_›)).trans (unclosed_offer ..)
  · exact unclosed_putChan ..

theorem unclosed_raiseTimeout (c : Chan) (s : State) : Unclosed s (raiseTimeout c s) :=
  .ite (fun _ => (unclosed_failLower ..).trans (unclosed_offerChan ..)) fun _ => .refl s

theorem unclosed_contactLoss (c : Chan) (s : State) : Unclosed s (contactLoss c s) :=
  .ite (fun _ => unclosed_noWire ..) fun _ => .refl s

theorem unclosed_lowerTimeout (c : Chan) (s : State) : Unclosed s (lowerTimeout c s) :=
  .ite (fun _ => (unclosed_putChan ..).trans (unclosed_offerChan ..)) fun _ => .refl s

theorem unclosed_forceLoop (s : State) (c : Chan) : Unclosed s (forceLoop s c) := by
  unfold forceLoop
  dsimp only
  split
  · exact (unclosed_writeValve ..).trans (unclosed_putChan ..)
  · exact unclosed_writeValve ..
  all_goals exact .refl s

/-! ### Outputs and ICE -/

theorem unclosed_returnAll (s : State) : Unclosed s (returnAll s) := .of_chg rfl

theorem unclosed_serviceLapse (s : State) : Unclosed s (serviceLapse s) := by
  have lapsed : Unclosed s (s.withCau { s.cau with serviceLapsed := true }) := .of_chg rfl
  exact .ite (fun _ => (lapsed.trans (unclosed_offer ..)).trans (unclosed_returnAll _)) fun _ => .refl s

theorem unclosed_takeEnds (o : Output) (s : State) : Unclosed s (takeEnds o s) := by
  refine .ite (fun _ => unclosed_putOut ..) fun _ => ?_
  cases o with
  | valve c => exact .ite (fun _ => (unclosed_putOut ..).trans (unclosed_putChan ..)) fun _ => unclosed_putOut ..
  | zone z => exact unclosed_putOut ..

theorem unclosed_returnEnds (o : Output) (s : State) : Unclosed s (returnEnds o s) := by
  cases o with
  | valve c => exact (unclosed_putOut ..).trans (.of_chg (leaveService_chg _ c))
  | zone z => exact .of_chg rfl

theorem unclosed_safePeriodEnd (o : Output) (s : State) : Unclosed s (safePeriodEnd o s) := by
  refine .ite (fun _ => ?_) fun _ => .refl s
  split
  · exact .refl s
  · exact unclosed_takeEnds o s
  · exact unclosed_returnEnds o s

theorem unclosed_ambientReading (t : Int) (s : State) : Unclosed s (ambientReading t s) :=
  .ite (fun _ => unclosed_withIce ..) fun _ =>
    .ite (fun _ => (unclosed_withIce ..).trans (unclosed_offerPlain ..)) fun _ => .refl s

theorem unclosed_auxokLost (s : State) : Unclosed s (auxokLost s) := by
  have lost : Unclosed s (mapZones (s.withRos { s.ros with auxok := false }) cut) := .of_chg rfl
  exact .ite (fun _ => .ite (fun _ => lost) fun _ => (lost.trans (unclosed_withIce ..)).trans (unclosed_offerPlain ..))
    fun _ => .refl s

theorem unclosed_auxokReturn (s : State) : Unclosed s (auxokReturn s) := .ite (fun _ => .of_chg rfl) fun _ => .of_chg rfl

theorem unclosed_slotExpiry (s : State) : Unclosed s (slotExpiry s) := by
  have same : (heaterBlind (slotStart s)).chg = (heaterBlind s).chg := congrArg (·.chg) (slotStart_blind s)
  exact .ite (fun _ => .of_chg same) fun _ => .refl s

theorem unclosed_winterApply (s : State) : Unclosed s (winterApply s) := by
  unfold winterApply
  split
  · refine .ite (fun _ => ?_) fun _ => .refl s
    split
    · exact (unclosed_withPst ..).trans (unclosed_offerPlain ..)
    · exact unclosed_withPst ..
  · exact unclosed_withPst ..
  · exact unclosed_withPst ..
  all_goals exact .refl s

theorem unclosed_winterRemove (s : State) : Unclosed s (winterRemove s) := by
  unfold winterRemove
  split
  · exact unclosed_withPst ..
  · exact unclosed_withPst ..
  · exact unclosed_withPst ..
  all_goals exact .refl s

theorem unclosed_iceUpdate (s : State) : Unclosed s (iceUpdate s) := by
  refine .ite (fun _ => .refl s) fun _ => (unclosed_withIce s _).trans (.ite (fun _ => .refl _) fun _ => ?_)
  split
  · exact (unclosed_withIce ..).trans (unclosed_winterApply _)
  · exact (unclosed_withIce ..).trans (unclosed_winterRemove _)
  · exact .refl _

/-! ### The position (R95 to R97) -/

theorem unclosed_takePosition (p track : Nat) (minus : Bool) (v : Nat) (s : State) :
    Unclosed s (takePosition p track minus v s) := by
  have offered : Unclosed s (if jumps s p then offer s ⟨.positionJump, some (.position p), false⟩ else s) :=
    .ite (fun _ => unclosed_offer ..) fun _ => .refl s
  exact (offered.trans (unclosed_withSmp ..)).trans (unclosed_newOutlook _)

theorem unclosed_odometerPulse (s : State) : Unclosed s (odometerPulse s) :=
  .ite (fun _ => .ite (fun _ => (unclosed_withSmp ..).trans (unclosed_newOutlook _)) fun _ => unclosed_withSmp ..)
    fun _ => .refl s

theorem unclosed_positionLapse (s : State) : Unclosed s (positionLapse s) :=
  .ite (fun _ => ((unclosed_withSmp ..).trans (unclosed_offer ..)).trans (unclosed_newOutlook _)) fun _ => .refl s

/-! ### The winter overlay and the layers (R47, R183, R185, R186) -/

theorem unclosed_takeRecords (carries : Nat → Bool) (rs : List (List Byte)) (s : State) (l : Layer) :
    Unclosed s (takeRecords carries s l rs).1 := by
  induction rs generalizing s l with
  | nil => exact .refl s
  | cons r rs ih =>
    unfold takeRecords
    split
    · exact ih ..
    · exact (unclosed_offerParam ..).trans (ih ..)

theorem unclosed_winterTake (bs : List Byte) (s : State) : Unclosed s (winterTake bs s).1 :=
  Unclosed.trans (.ite (fun _ => (unclosed_withPst ..).trans (unclosed_offerPlain ..)) fun _ => unclosed_withPst ..)
    (unclosed_takeRecords ..)

theorem unclosed_winterReadEnd (bs : List Byte) (s : State) : Unclosed s (winterReadEnd bs s) := by
  refine .ite (fun _ => ?_) fun _ => .refl s
  split
  · exact (unclosed_winterTake bs s).trans (unclosed_withPst ..)
  · exact (unclosed_winterTake bs s).trans (unclosed_withPst ..)
  all_goals exact .refl s

theorem unclosed_winterRead (r : ReadResult) (s : State) : Unclosed s (winterRead r s) := by
  unfold winterRead
  split
  · exact .refl s
  · exact unclosed_winterReadEnd ..
  · unfold winterReadFail
    split
    · exact (unclosed_withPst ..).trans (unclosed_offerPlain ..)
    · exact unclosed_withPst ..
    all_goals exact .refl s

theorem unclosed_initialState (s : State) (c : Chan) : Unclosed s (initialState s c) :=
  .of_chg (initialState_chg s c)

theorem unclosed_retargetAll (s : State) : Unclosed s (retargetAll s) := .of_chg (retargetAll_chg s)

theorem unclosed_testAllStrips (s : State) : Unclosed s (testAllStrips s) :=
  .of_chg (testAllStrips_chg s)

theorem unclosed_classChanged (b s : State) (c : Chan) : Unclosed s (classChanged b s c) := by
  refine .ite (fun _ => .refl s) fun _ => Unclosed.trans ?_ (unclosed_putChan ..)
  refine .ite (fun _ => unclosed_putChan ..) fun _ => .ite (fun _ => .ite (fun _ => ?_) fun _ => ?_) fun _ => .refl s
  · exact unclosed_initialState s c
  · exact (unclosed_initialState s c).trans (unclosed_offerChan ..)

theorem unclosed_applyChange (b s : State) : Unclosed s (applyChange b s) := by
  have rest : ∀ u, Unclosed u (applyRest b u) := fun u => by
    have forced : Unclosed u (if forceParams.any (effChanged b u) then retargetAll u else u) :=
      .ite (fun _ => unclosed_retargetAll u) fun _ => .refl u
    exact .ite (fun _ => forced.trans (unclosed_testAllStrips _)) fun _ => forced
  rw [applyChange_eq]
  exact (Unclosed.foldl (unclosed_classChanged b) _ s).trans (rest _)

theorem unclosed_winterPeriod (s : State) : Unclosed s (winterPeriod s) := by
  have checked : ∀ u g, Unclosed u (winterCheck u g) := fun u g => by
    unfold winterCheck
    split
    · exact .refl u
    · exact (unclosed_withPst ..).trans (unclosed_offerParam ..)
  unfold winterPeriod
  split
  · exact ((Unclosed.foldl checked _ s).trans (unclosed_withPst ..)).trans (unclosed_applyChange ..)
  · exact (unclosed_withPst ..).trans (unclosed_applyChange ..)
  all_goals exact .refl s

theorem unclosed_forcePeriod (s : State) : Unclosed s (forcePeriod s) :=
  .ite (fun _ => .refl s) fun _ =>
    ((unclosed_retargetAll s).trans (.foldl unclosed_forceLoop _ _)).trans (unclosed_winterPeriod _)

theorem unclosed_generalEffects (n : Nat) (s : State) : Unclosed s (generalEffects n s) :=
  .ite (fun _ => unclosed_demandExpiry s) fun _ => .ite (fun _ => unclosed_cabLapse s) fun _ =>
    .ite (fun _ => unclosed_converterRetest s) fun _ => .ite (fun _ => unclosed_positionLapse s) fun _ =>
      .ite (fun _ => unclosed_newOutlook s) fun _ => .refl s

theorem unclosed_takeSet (n : Nat) (v : Int) (s : State) : Unclosed s (takeSet n v s) := by
  have written : Unclosed s (setWritten n v s) :=
    .ite (fun _ => (unclosed_withPst ..).trans (unclosed_withLsi ..)) fun _ => unclosed_withPst ..
  rw [takeSet_eq]
  exact .ite (fun _ => (written.trans (unclosed_applyChange ..)).trans (unclosed_generalEffects ..)) fun _ => written

/-! ### The load and the resets (R110, R171, R174 to R179, R187) -/

/-- STARTING ends with every breaker OPEN or FAILED (R110). -/
theorem unclosed_endStarting (s : State) : Unclosed s (endStarting s) := .of_none fun b => by
  rw [endStarting_eq, (startEnds_frame _).2.2.2.2.2, startBlocks_brk_state]
  split <;> nofun

theorem unclosed_fallBack (s : State) (x : DefaultsReason) : Unclosed s (fallBack s x) :=
  (unclosed_withPst ..).trans (unclosed_endStarting _)

theorem unclosed_finishLoad (s : State) : Unclosed s (finishLoad s) := by
  have reverted : ∀ u g, Unclosed u (revertGroup u g) := fun u g => by
    unfold revertGroup
    split
    · exact .refl u
    · exact (unclosed_withPst ..).trans (unclosed_offerParam ..)
  exact (Unclosed.foldl reverted _ s).trans (unclosed_endStarting _)

theorem unclosed_advanceLoad (gs : List Segment) (s : State) : Unclosed s (advanceLoad s gs) := by
  induction gs generalizing s with
  | nil => exact unclosed_finishLoad s
  | cons g rest ih =>
    unfold advanceLoad
    split
    · exact ((unclosed_withPst ..).trans (unclosed_offerPlain ..)).trans (ih _)
    · exact unclosed_withPst ..

theorem unclosed_headerRead (r : ReadResult) (s : State) : Unclosed s (headerRead r s) := by
  have falls : ∀ k x, Unclosed s (fallBack (offerPlain s k) x) := fun k _ =>
    (unclosed_offerPlain s k).trans (unclosed_fallBack ..)
  refine .ite (fun _ => ?_) fun _ => .refl s
  split
  · exact .refl s
  · exact falls ..
  · exact .ite (fun _ => (unclosed_withPst ..).trans (unclosed_advanceLoad ..)) fun _ => falls ..

theorem unclosed_takeFixed (s : State) (bs : List Byte) : Unclosed s (takeFixed s bs) := by
  unfold takeFixed
  dsimp only
  split
  · exact unclosed_offer ..
  · exact .ite (fun _ => unclosed_offer ..) fun _ => .ite (fun _ => unclosed_offer ..) fun _ => unclosed_withSmp ..

theorem unclosed_takeSegment (g : Segment) (bs : List Byte) (s : State) : Unclosed s (takeSegment g bs s) := by
  have marked : ∀ x, Unclosed s (if x = SegLoad.part then offerPlain (s.withPst (setSeg s.pst g x)) .segmentInvalid
      else s.withPst (setSeg s.pst g x)) :=
    fun _ => .ite (fun _ => (unclosed_withPst ..).trans (unclosed_offerPlain ..)) fun _ => unclosed_withPst ..
  exact .ite (fun _ => (marked _).trans (.foldl unclosed_takeFixed _ _)) fun _ =>
    ((marked _).trans (unclosed_takeRecords ..)).trans (unclosed_withPst ..)

theorem unclosed_segmentRead (r : ReadResult) (s : State) : Unclosed s (segmentRead r s) := by
  have unanswered : Unclosed s (loadNoAnswer s) :=
    (((unclosed_offerPlain ..).trans (unclosed_withPst ..)).trans (unclosed_withSmp ..)).trans (unclosed_fallBack ..)
  unfold segmentRead
  split
  · exact .ite (fun _ => (unclosed_takeSegment ..).trans (unclosed_advanceLoad ..)) fun _ => .refl s
  · exact unanswered
  · exact .refl s
  · exact .refl s

/-- A held reset leaves every breaker OPEN or OPENING (R110). -/
theorem unclosed_holdReset (f : Flt) (s : State) : Unclosed s (holdReset f s) := .of_none fun b => by
  rw [holdReset_brk]
  cases (brk s b).feedback <;> nofun

theorem unclosed_releaseReset (straps : BitVec 5) (s : State) : Unclosed s (releaseReset straps s) := by
  have first : Unclosed s (releaseStart straps s) := .of_chg rfl
  rw [releaseReset_eq]
  exact first.trans (.ite (fun _ => unclosed_withPst ..) fun _ => unclosed_fallBack ..)

theorem unclosed_softResetAct (straps : BitVec 5) (s : State) : Unclosed s (softResetAct straps s) :=
  .ite (fun _ => (unclosed_holdReset ..).trans (unclosed_releaseReset straps _)) fun _ => .refl s

end Sys2Proof.Machine
end

section
/-!
PROOFS. Of the requests, BREAKER CLOSE and CONVERTER REPORT alone may close a breaker; so a command, and a step, closes none
but rightly (O15).
-/

namespace Sys2Proof.Machine

/-- A request's own rule, where it decides between two answers. -/
theorem Unclosed.answerIte {s : State} {p : Prop} [Decidable p] {a b : State × Reply} (h : p → Unclosed s a.1)
    (g : ¬ p → Unclosed s b.1) : Unclosed s (if p then a else b).1 := by
  split
  · exact h ‹_›
  · exact g ‹_›

theorem Closes.answerIte {s : State} {p : Prop} [Decidable p] {a b : State × Reply} (h : p → Closes s a.1)
    (g : ¬ p → Closes s b.1) : Closes s (if p then a else b).1 := by
  split
  · exact h ‹_›
  · exact g ‹_›

/-! ### The requests of the cab -/

theorem unclosed_cabTake (st : Station) (s : State) : Unclosed s (cabTake st s).1 := by
  unfold cabTake
  split
  · exact unclosed_withCau ..
  · exact .answerIte (fun _ => .refl s) fun _ => .refl s

theorem unclosed_cabPass (s : State) : Unclosed s (cabPass s).1 := by
  unfold cabPass
  split
  · exact .of_chg rfl
  · exact .refl s

theorem unclosed_refreshDemand (s : State) : Unclosed s (refreshDemand s) := by
  unfold refreshDemand
  split
  · exact unclosed_withCau ..
  · exact unclosed_withCau ..
  · exact .refl s

theorem unclosed_roofUpChoice (s : State) (t : Sys) (p : Option Chan) : Unclosed s (roofUpChoice s t p).1 := by
  have wished : ∀ q, Unclosed s (setPreferred (refreshDemand s) q) := fun q =>
    (unclosed_refreshDemand s).trans (.of_chg rfl)
  refine .answerIte (fun _ => unclosed_refreshDemand s) fun _ => ?_
  split
  · exact .answerIte (fun _ => .refl s) fun _ => .answerIte (fun _ => .refl s) fun _ => .answerIte (fun _ => .refl s)
      fun _ => wished _
  · exact .answerIte (fun _ => .refl s) fun _ => wished _

theorem unclosed_roofUp (p : List Byte) (s : State) : Unclosed s (roofUp p s).1 := by
  refine .answerIte (fun _ => .refl s) fun _ => .answerIte (fun _ => .refl s) fun _ =>
    .answerIte (fun _ => .refl s) fun _ => ?_
  split
  · exact .refl s
  · exact .answerIte (fun _ => .refl s) fun _ => unclosed_roofUpChoice ..

/-! ### The requests of the breakers and of the map -/

theorem unclosed_selectSystem (st : Station) (t : Sys) (s : State) : Unclosed s (selectSystem st t s).1 := by
  have aimed : ∀ u : State, Unclosed u (u.withChg { u.chg with target := some t }) := fun u =>
    unclosed_withChg u rfl
  have retargeted : ∀ q, Unclosed s (retargetSeq s q t) := fun q =>
    .ite (fun _ => (unclosed_putSeq ..).trans (aimed _)) fun _ => unclosed_putSeq ..
  unfold selectSystem
  split
  · exact .answerIte (fun _ => .refl s) fun _ => .answerIte (fun _ => retargeted _) fun _ => .refl s
  · exact .answerIte (fun _ => .refl s) fun _ => .answerIte (fun _ => aimed s) fun _ =>
      unclosed_startShed ..

theorem unclosed_systemSelect (st : Station) (p : List Byte) (s : State) : Unclosed s (systemSelect st p s).1 := by
  unfold systemSelect
  split
  · exact .refl s
  · exact .answerIte (fun _ => .refl s) fun _ => unclosed_selectSystem ..

/-- BREAKER CLOSE starts in CLOSING (Table 6-4). -/
theorem closes_breakerClose (st : Station) (s : State) : Closes s (breakerClose st s).1 := by
  refine .answerIte (fun _ => .refl s) fun _ => .answerIte (fun _ => .refl s) fun _ =>
    .answerIte (fun _ => .refl s) fun _ => ?_
  split
  · exact .refl s
  · refine .answerIte (fun _ => .refl s) fun _ => ?_
    split
    · exact .refl s
    · exact closes_startSeq ..

theorem unclosed_breakerOpen (st : Station) (s : State) : Unclosed s (breakerOpen st s).1 :=
  .answerIte (fun _ => .refl s) fun _ => unclosed_abortThenShed ..

theorem unclosed_table (s : State) (t : List Entry) : Unclosed s (newOutlook (s.withSmp { s.smp with table := t })) :=
  (unclosed_withSmp ..).trans (unclosed_newOutlook _)

theorem unclosed_sectionLoad (p : List Byte) (s : State) : Unclosed s (sectionLoad p s).1 := by
  refine .answerIte (fun _ => .refl s) fun _ => ?_
  split
  · exact .refl s
  · dsimp only
    split
    · exact .refl s
    · exact .answerIte (fun _ => .refl s) fun _ => unclosed_table ..

theorem unclosed_sectionClear (p : List Byte) (s : State) : Unclosed s (sectionClear p s).1 := by
  unfold sectionClear
  split
  · exact unclosed_table ..
  · exact .answerIte (fun _ => unclosed_table ..) fun _ => .refl s
  · exact .refl s

theorem closes_converterReport (p : List Byte) (s : State) : Closes s (converterReport p s).1 := by
  unfold converterReport
  split
  · exact closes_takeReport ..
  · exact .refl s

theorem unclosed_iceModeReq (p : List Byte) (s : State) : Unclosed s (iceModeReq p s).1 := by
  unfold iceModeReq
  split
  · exact .refl s
  · exact unclosed_withIce ..

/-! ### The requests about parameters, banks and channels -/

theorem unclosed_parameterSet (p : List Byte) (s : State) : Unclosed s (parameterSet p s).1 := by
  refine .answerIte (fun _ => .refl s) fun _ => .answerIte (fun _ => .refl s) fun _ => ?_
  split
  · exact .refl s
  · exact .answerIte (fun _ => .refl s) fun _ => unclosed_takeSet ..

theorem unclosed_parameterRead (p : List Byte) (s : State) : Unclosed s (parameterRead p s).1 := by
  unfold parameterRead
  split <;> exact .refl s

theorem unclosed_faultRead (p : List Byte) (s : State) : Unclosed s (faultRead p s).1 := by
  unfold faultRead
  dsimp only
  split <;> exact .refl s

theorem unclosed_statusRead (p : List Byte) (s : State) : Unclosed s (statusRead p s).1 := by
  unfold statusRead
  dsimp only
  split <;> exact .refl s

theorem unclosed_faultClear (p : List Byte) (s : State) : Unclosed s (faultClear p s).1 := by
  have left : ∀ u, Unclosed u (leaveSafeHeld u) := fun u =>
    .ite (fun _ => .of_chg rfl) fun _ => .refl u
  unfold faultClear
  split
  · exact .refl s
  · exact .answerIte (fun _ => .refl s) fun _ => (unclosed_withFlt s _).trans (left _)

theorem unclosed_thresholdSet (p : List Byte) (s : State) : Unclosed s (thresholdSet p s).1 := by
  unfold thresholdSet
  dsimp only
  split
  · exact .refl s
  · exact .answerIte (fun _ => .refl s) fun _ => unclosed_withFlt ..

theorem unclosed_lockoutClear (p : List Byte) (s : State) : Unclosed s (lockoutClear p s).1 := by
  unfold lockoutClear
  split
  · exact .refl s
  · exact .answerIte (fun _ => .refl s) fun _ => .answerIte (fun _ => .refl s) fun _ =>
      .answerIte (fun _ => .refl s) fun _ => unclosed_putChan ..

/-! ### The requests of the Service Tool -/

theorem unclosed_outputTake (p : List Byte) (s : State) : Unclosed s (outputTake p s).1 := by
  refine .answerIte (fun _ => .refl s) fun _ => .answerIte (fun _ => .refl s) fun _ => ?_
  split
  · exact .refl s
  · refine .answerIte (fun _ => .refl s) fun _ => .answerIte (fun _ => .refl s) fun _ =>
      .answerIte (fun _ => .refl s) fun _ => ?_
    split
    · exact .refl s
    · exact unclosed_putOut ..

theorem unclosed_outputDrive (p : List Byte) (s : State) : Unclosed s (outputDrive p s).1 := by
  unfold outputDrive
  dsimp only
  split
  · exact .refl s
  · split
    · exact .refl s
    · refine .answerIte (fun _ => .refl s) fun _ => .answerIte (fun _ => .refl s) fun _ => ?_
      split
      · exact .refl s
      · exact unclosed_putOut ..

theorem unclosed_outputReturn (p : List Byte) (s : State) : Unclosed s (outputReturn p s).1 := by
  refine .answerIte (fun _ => unclosed_returnAll s) fun _ => ?_
  split
  · exact .refl s
  · exact unclosed_putOut ..

theorem unclosed_senseCheckStart (p : List Byte) (s : State) : Unclosed s (senseCheckStart p s).1 := by
  refine .answerIte (fun _ => .refl s) fun _ => .answerIte (fun _ => .refl s) fun _ =>
    .answerIte (fun _ => .refl s) fun _ => ?_
  split
  · exact .of_chg (by rw [enterCheck_eq]; rfl)
  · exact .refl s

theorem unclosed_senseCheckEnd (s : State) : Unclosed s (senseCheckEnd s).1 :=
  .answerIte (fun _ => .of_chg rfl) fun _ => .refl s

/-! ### A request taken -/

theorem closes_requestRule (k : ReqKind) (src : Station) (p : List Byte) (s : State) :
    Closes s (requestRule k src p s).1 := by
  by_cases close : k = .breakerClose
  · subst close; exact closes_breakerClose src s
  by_cases report : k = .converterReport
  · subst report; exact closes_converterReport p s
  refine Unclosed.closes ?_
  cases k with
  | statusRead => exact unclosed_statusRead p s
  | cabTake => exact unclosed_cabTake src s
  | cabRelease => exact unclosed_cabEnds ..
  | cabPass => exact unclosed_cabPass s
  | roofUp => exact unclosed_roofUp p s
  | roofDown => exact unclosed_roofDownRequest ..
  | systemSelect => exact unclosed_systemSelect src p s
  | breakerClose => exact absurd rfl close
  | breakerOpen => exact unclosed_breakerOpen src s
  | position => exact .answerIte (fun _ => .refl s) fun _ => unclosed_takePosition ..
  | sectionLoad => exact unclosed_sectionLoad p s
  | sectionClear => exact unclosed_sectionClear p s
  | sectionRead => exact .answerIte (fun _ => .refl s) fun _ => .refl s
  | converterReport => exact absurd rfl report
  | iceMode => exact unclosed_iceModeReq p s
  | parameterSet => exact unclosed_parameterSet p s
  | parameterRead => exact unclosed_parameterRead p s
  | faultRead => exact unclosed_faultRead p s
  | faultClear => exact unclosed_faultClear p s
  | thresholdSet => exact unclosed_thresholdSet p s
  | lockoutClear => exact unclosed_lockoutClear p s
  | outputTake => exact unclosed_outputTake p s
  | outputDrive => exact unclosed_outputDrive p s
  | outputReturn => exact unclosed_outputReturn p s
  | senseCheckStart => exact unclosed_senseCheckStart p s
  | senseCheckEnd => exact unclosed_senseCheckEnd s
  | softReset => exact unclosed_withLnk ..

theorem unclosed_refreshActivity (src : Station) (s : State) : Unclosed s (refreshActivity src s) := by
  cases src <;> exact .of_chg rfl

theorem unclosed_heard (src : Station) (s : State) : Unclosed s (heard src s) := .of_chg (heard_chg src s)

/-- The link layer is no matter of a closing. -/
theorem ClosedRightly.withLnk {s : State} {b : Brk} (h : ClosedRightly s b) (x : Lnk) : ClosedRightly (s.withLnk x) b :=
  ⟨h.state, h.stage, h.coils, h.other, h.ready, h.target⟩

theorem closes_takeRequest (k : ReqKind) (src : Station) (p : List Byte) (s : State) :
    Closes s (takeRequest k src p (requestRule k src p) s) := by
  rcases takeRequest_cases k src p (requestRule k src p) s with e | e | ⟨code, r, e, how⟩ <;> rw [e]
  · exact .refl s
  · exact (unclosed_withLnk ..).closes
  · have body : Closes s r.1 := by
      rcases how with rfl | how
      · exact (unclosed_heard src s).then (closes_requestRule k src p _)
      · exact how ▸ (unclosed_heard src s).closes
    exact body.then (fun _ right => right.withLnk _) (unclosed_withLnk ..).closes

theorem unclosed_takeUnknownKind (src : Station) (x : Byte) (s : State) : Unclosed s (takeUnknownKind src x s) :=
  .ite (fun _ => .ite (fun _ => unclosed_withLnk ..) fun _ => (unclosed_heard src s).trans (unclosed_withLnk ..))
    fun _ => .refl s

/-! ### The link (R190 to R194) -/

theorem unclosed_discardFate {f : List Byte} {s t : State} (h : discardFate f s = some t) : Unclosed s t := by
  unfold discardFate at h
  split at h
  · cases h; exact unclosed_offerPlain ..
  · split at h
    · cases h; exact .refl s
    · split at h
      · cases h; exact unclosed_offer ..
      · split at h
        · cases h
          exact (unclosed_refreshActivity ..).trans (unclosed_offerPlain ..)
        · cases h

theorem closes_frameFate (f : List Byte) (s : State) : Closes s (frameFate f s) := by
  unfold frameFate
  cases h : discardFate f s with
  | some t => exact (unclosed_discardFate h).closes
  | none =>
    unfold dispatchFrame
    rw [Option.getD_none]
    split
    · exact .refl s
    · split
      · rw [takeKind_eq]
        exact closes_takeRequest ..
      · exact (unclosed_takeUnknownKind ..).closes

theorem unclosed_breakFrame (x : Receiver) (s : State) : Unclosed s (breakFrame x s) :=
  (unclosed_withLnk ..).trans (unclosed_offerPlain ..)

theorem closes_receive (c : Byte) (stop : Bool) (s : State) : Closes s (receive c stop s) := by
  have linked : ∀ x, Closes s (s.withLnk x) := fun _ => (unclosed_withLnk ..).closes
  unfold receive
  split
  · exact .refl s
  · exact .ite (fun _ => linked _) fun _ => .refl s
  · exact .ite (fun _ => (unclosed_breakFrame ..).closes) fun _ =>
      .ite (fun _ => (unclosed_withLnk ..).then (closes_frameFate ..)) fun _ => linked _

theorem closes_charArrives (c : Byte) (stop : Bool) (s : State) : Closes s (charArrives c stop s) :=
  .ite (fun _ => .refl s) fun _ => .ite (fun _ => (unclosed_withLnk ..).closes) fun _ =>
    (unclosed_withLnk ..).then (closes_receive ..)

theorem unclosed_frameDiscarded (f : List Byte) (s : State) : Unclosed s (frameDiscarded f s) := by
  refine .ite (fun _ => .ite (fun _ => unclosed_withLnk ..) fun _ => ?_) fun _ => .refl s
  cases h : discardFate f (hearFrame s) with
  | none => exact .refl s
  | some t => exact (unclosed_withLnk ..).trans (unclosed_discardFate h)

theorem unclosed_answerSend (s : State) : Unclosed s (answerSend s) := by
  unfold answerSend
  split
  · exact unclosed_withLnk ..
  · exact .refl s

/-! ### The commands -/

section
variable {s t : State}

theorem Closes.settle {u : State} (h : Closes s u) (before : State) : Closes s (settle before u) :=
  h.then (fun _ right => right.settle before) (closes_settle before u)

theorem closes_event {f : State → State} (h : Closes s (f s)) (e : event f s = .next t) : Closes s t := by
  obtain ⟨u, e', ⟨-, rfl⟩ | ⟨-, rfl⟩⟩ := event_next f s <;> rw [e'] at e <;> cases e
  · exact .refl _
  · exact h.settle s

theorem Unclosed.event {f : State → State} (h : Unclosed s (f s)) (e : event f s = .next t) : Closes s t :=
  closes_event h.closes e

theorem Unclosed.inputEvent {f : State → State} (h : Unclosed s (f s)) (e : inputEvent f s = .next t) :
    Closes s t := by
  cases e
  exact h.closes.settle s

theorem closes_resetRelease {straps : BitVec 5} (e : exec (.resetRelease straps) s = .next t) : Closes s t := by
  change (if s.held then .next (settle s (releaseReset straps s)) else .next s) = Host.Outcome.next t at e
  split at e <;> cases e
  · exact (unclosed_releaseReset straps s).closes.settle s
  · exact .refl _

theorem closes_exec {c : Instr} (e : exec c s = .next t) : Closes s t := by
  have request : ∀ k src p, exec (requestCmd k src p) s = .next t → Closes s t := fun k src p e => by
    rw [exec_requestCmd] at e
    exact closes_event (closes_takeRequest k src p s) e
  have here : Unclosed s s := .refl s
  cases c with
  | statusRead src p => exact request .statusRead src p e
  | cabTake src p => exact request .cabTake src p e
  | cabRelease src p => exact request .cabRelease src p e
  | cabPass src p => exact request .cabPass src p e
  | roofUp src p => exact request .roofUp src p e
  | roofDown src p => exact request .roofDown src p e
  | systemSelect src p => exact request .systemSelect src p e
  | breakerClose src p => exact request .breakerClose src p e
  | breakerOpen src p => exact request .breakerOpen src p e
  | position src p => exact request .position src p e
  | sectionLoad src p => exact request .sectionLoad src p e
  | sectionClear src p => exact request .sectionClear src p e
  | sectionRead src p => exact request .sectionRead src p e
  | converterReport src p => exact request .converterReport src p e
  | iceMode src p => exact request .iceMode src p e
  | parameterSet src p => exact request .parameterSet src p e
  | parameterRead src p => exact request .parameterRead src p e
  | faultRead src p => exact request .faultRead src p e
  | faultClear src p => exact request .faultClear src p e
  | thresholdSet src p => exact request .thresholdSet src p e
  | lockoutClear src p => exact request .lockoutClear src p e
  | outputTake src p => exact request .outputTake src p e
  | outputDrive src p => exact request .outputDrive src p e
  | outputReturn src p => exact request .outputReturn src p e
  | senseCheckStart src p => exact request .senseCheckStart src p e
  | senseCheckEnd src p => exact request .senseCheckEnd src p e
  | softReset src p => exact request .softReset src p e
  | unknownKind src x => exact (unclosed_takeUnknownKind src x s).event e
  | frameDiscarded f => exact (unclosed_frameDiscarded f s).event e
  | frameFormatAbort x stop => exact closes_event (.ite (fun _ => closes_charArrives ..) fun _ => .refl s) e
  | frameGapTimeout => exact Unclosed.event (.ite (fun _ => unclosed_breakFrame ..) fun _ => here) e
  | silenceEnd => exact Unclosed.event (.ite (fun _ => unclosed_withLnk ..) fun _ => here) e
  | answerSend => exact (unclosed_answerSend s).event e
  | answerWithdrawn x => exact closes_event (.ite (fun _ => closes_charArrives ..) fun _ => .refl s) e
  | softResetAction straps => exact (unclosed_softResetAct straps s).event e
  | powerOnReset => cases e; exact (unclosed_holdReset ..).closes
  | pinReset => cases e; exact (unclosed_holdReset ..).closes
  | resetRelease straps => exact closes_resetRelease e
  | profileHeaderRead r => exact (unclosed_headerRead _ s).event e
  | segmentRead a => exact (unclosed_segmentRead _ s).event e
  | loadEepromNoAnswer => exact (unclosed_segmentRead _ s).event e
  | winterReadEnd a => exact (unclosed_winterRead _ s).event e
  | winterReadFail => exact (unclosed_winterRead _ s).event e
  | windowPublication => exact (unclosed_publishWindow s).event e
  | channelReading c h f x => exact (unclosed_takeReading c h f x s).event e
  | ambientReading x => exact (unclosed_ambientReading x s).event e
  | heightSensor c => exact (unclosed_heightSensor c s).event e
  | headokLost c => exact (unclosed_headokLost c s).inputEvent e
  | headokRestored c => exact Unclosed.inputEvent (f := headokRestored c) (unclosed_putChan ..) e
  | raiseTimeout c => exact (unclosed_raiseTimeout c s).event e
  | contactLoss c => exact (unclosed_contactLoss c s).event e
  | lowerTimeout c => exact (unclosed_lowerTimeout c s).event e
  | forceControlPeriod => exact (unclosed_forcePeriod s).event e
  | valvePeriodBoundary => exact Unclosed.event (f := (mapValves · atBoundary)) (.of_chg rfl) e
  | heaterPeriodBoundary => exact Unclosed.event (f := (mapZones · atBoundary)) (.of_chg rfl) e
  | safePeriodEnd o => exact (unclosed_safePeriodEnd o s).event e
  | serviceLapse => exact (unclosed_serviceLapse s).event e
  | auxokLost => exact (unclosed_auxokLost s).inputEvent e
  | auxokReturn => exact (unclosed_auxokReturn s).inputEvent e
  | cabLapse => exact (unclosed_cabLapse s).event e
  | demandExpiry => exact (unclosed_demandExpiry s).event e
  | converterStale => exact (unclosed_converterStale s).event e
  | odometerPulse => exact (unclosed_odometerPulse s).event e
  | positionLapse => exact (unclosed_positionLapse s).event e
  | breakerFeedbackChange b x => exact (unclosed_feedbackChange b x s).inputEvent e
  | closeTimeExpiry b x => exact (unclosed_closeExpiry b x s).event e
  | openTimeExpiry b x => exact (unclosed_openExpiry b x s).event e
  | shedTimeout => exact (unclosed_shedExpiry s).event e
  | deadRun => exact (unclosed_deadRunExpiry s).event e
  | identifyTimeout => exact (unclosed_identifyExpiry s).event e
  | converterTimeout => exact (unclosed_converterExpiry s).event e
  | settleIntervalEnd => exact Unclosed.event (.ite (fun _ => unclosed_withPst ..) fun _ => here) e
  | iceIndexUpdate => exact (unclosed_iceUpdate s).event e
  | slotExpiry => exact (unclosed_slotExpiry s).event e
  | roofVoltageSample x => exact (unclosed_takeSample _ s).event e
  | characterReceived x => exact closes_event (closes_charArrives x true s) e
  | answerEnd => exact Unclosed.event (.ite (fun _ => unclosed_withLnk ..) fun _ => here) e

/-! ### The steps -/

/-- A millisecond moves no breaker from its state. -/
theorem unclosed_tickTime (s : State) : Unclosed s (tickTime s) := by
  have ticked : ∀ u : State, Unclosed u (tickBlocks u) := fun u => ⟨fun b => by
    rw [tickBlocks_brk, tickBreaker_eq]
    exact id⟩
  have passed : ∀ n l, Unclosed s ((s.withNow n).withLnk l) := fun _ _ => .of_chg rfl
  exact .ite (fun _ => passed _ _) fun _ => (passed _ _).trans (ticked _)

theorem unclosed_withPending (s : State) (q : List Instr) : Unclosed s (s.withPending q) := .of_chg rfl

theorem closes_step (e : step s = .next t) : Closes s t := by
  unfold step at e
  split at e
  · cases e
    exact (Unclosed.ite (fun _ => .refl s) fun _ => (unclosed_tickTime s).trans (unclosed_withPending ..)).closes
  · exact (unclosed_withPending s _).then (closes_exec e)

end

/-! ### Entry to a stage (R124, R125, R126) -/

/-- The record of a sequence at entry to a stage. -/
def enteredSeq (q : Sequence) (st : Stage) : Sequence :=
  { q with stage := st, stageTime := 0, phase := none, identifyTime := none, lowerSent := false, exit := none }

section
variable {s : State} {q : Sequence} {g : Sys}

theorem enterStage_eq (runs : s.chg.seq = some q) (st : Stage) :
    enterStage st s = enterWork st (putSeq s (enteredSeq q st)) := by
  simp only [enterStage, runs, enteredSeq]

/-- A failing precondition halts the sequence with its sub-reason, the breakers as they were. -/
theorem enterStage_closing_fails (runs : s.chg.seq = some q) {n : Nat} (fails : closeFailing s = some n) :
    ((enterStage .closing s).chg.seq.bind (·.exit)) = some (.halt .closeCondition n) ∧
      ∀ b, brk (enterStage .closing s) b = brk s b := by
  rw [enterStage_eq runs, enterWork_closing_fails (putSeq_seq ..) fails]
  exact ⟨rfl, fun b => by rw [putSeq_brk, putSeq_brk]⟩

/-- Where none fails, the breaker of the target's class is closed. -/
theorem enterStage_closing_closes (runs : s.chg.seq = some q) (closable : closeFailing s = none) :
    ∃ t, s.chg.target = some t ∧ enterStage .closing s = closeBrk (putSeq s (enteredSeq q .closing)) (brkOf (classOf t)) := by
  obtain ⟨t, -, target, -⟩ := closable_of_closeFailing closable
  exact ⟨t, target, by rw [enterStage_eq runs, enterWork_closing_closes (putSeq_seq ..) closable target]⟩

/-- measured_system is the target of the sequence. -/
theorem identified_iff (target : q.target = some g) : identified s q = true ↔ s.lsi.measured = .sys g := by
  simp [identified, target]

/-- The identification starts its timer where the outlook gives no other system (R124). -/
theorem identifyStart_starts (target : q.target = some g) (unstarted : q.identifyTime = none) {o : Outlook}
    (starts : o.valid = false ∨ o.kind = .sys g) : identifyStart q o = { q with identifyTime := some 0 } :=
  if_pos ⟨by rw [unstarted]; rfl, by rwa [target, kindSystem_eq_some]⟩

theorem identifyStart_stands (target : q.target = some g) {o : Outlook}
    (stands : q.identifyTime ≠ none ∨ (o.valid = true ∧ o.kind ≠ .sys g)) : identifyStart q o = q := by
  refine if_neg fun ⟨unstarted, starts⟩ => ?_
  rw [target, kindSystem_eq_some] at starts
  rcases stands with started | ⟨valid, other⟩
  · exact started (Option.isNone_iff_eq_none.mp unstarted)
  · exact starts.elim (by rw [valid]; nofun) other

theorem enterStage_identify_found (runs : s.chg.seq = some q) (target : q.target = some g)
    (found : s.lsi.measured = .sys g) :
    enterStage .identify s = putSeq s { enteredSeq q .identify with exit := some .next } := by
  rw [enterStage_eq runs]
  exact if_pos ((identified_iff (q := enteredSeq q .identify) target).mpr found)

theorem enterStage_identify_unfound (runs : s.chg.seq = some q) (target : q.target = some g)
    (unfound : s.lsi.measured ≠ .sys g) :
    enterStage .identify s = putSeq s (identifyStart (enteredSeq q .identify) s.smp.outlook) := by
  rw [enterStage_eq runs]
  exact if_neg (mt (identified_iff (q := enteredSeq q .identify) target).mp unfound)

theorem identifyTest_of_identify (runs : s.chg.seq = some q) (stage : q.stage = .identify) :
    identifyTest s = putSeq s (identifyStart q s.smp.outlook) := by
  simp only [identifyTest, runs, stage, if_true]

theorem nextStage_identify (k : SeqKind) (x : Origin) : nextStage k x .identify = some .converter := by cases k <;> rfl

theorem nextStage_converter (k : SeqKind) (x : Origin) : nextStage k x .converter = some .closing := by cases k <;> rfl

/-- CONVERTER lasts until the converter is ready for the target (R125). -/
theorem stageDone_converter (target : q.target = some g) (stage : q.stage = .converter) :
    stageDone s q = converterReady s g := by
  simp [stageDone, stage, target]

end

/-- Settles O15: every step closes rightly or not at all (`closes_step`); the entries to CLOSING, IDENTIFY and CONVERTER
are read from the stages' own work. -/
theorem breakersCloseOnlyInTheClosingStage : Obligations.BreakersCloseOnlyInTheClosingStage := by
  refine ⟨fun s t b e before closing => ?_, fun s q runs => ⟨fun n fails => ?_, fun closable => ?_⟩,
    fun s q g runs target => ⟨⟨?_, ?_, ?_⟩, fun stage => ⟨?_, ?_, ?_, ?_⟩, fun stage exit => ⟨?_, ?_⟩⟩⟩
  · have right := ((closes_step e).rightly b closing).resolve_left before
    obtain ⟨q, runs, stage, -⟩ := right.stage
    obtain ⟨close, hold, time⟩ := right.coils
    exact ⟨by rw [runs, Option.map_some, stage], close, hold, time, right.other, right.ready, right.target⟩
  · exact enterStage_closing_fails runs fails
  · obtain ⟨g, target, closes⟩ := enterStage_closing_closes runs closable
    refine ⟨g, target, ?_⟩
    dsimp only
    rw [closes, closeBrk_brk_other, closeBrk, brk_putBrk_self]
    refine ⟨?_, putSeq_brk .., ?_, ?_⟩
    · rw [putSeq_brk]
    · rw [← closeBrk, closeBrk_seq]; rfl
    · rw [← closeBrk, closeBrk_seq]; rfl
  · exact enterStage_identify_found runs target
  · exact fun unfound starts => (enterStage_identify_unfound runs target unfound).trans
      (congrArg (putSeq s) (identifyStart_starts (q := enteredSeq q .identify) target rfl starts))
  · exact fun unfound valid other => (enterStage_identify_unfound runs target unfound).trans
      (congrArg (putSeq s) (identifyStart_stands (q := enteredSeq q .identify) target (.inr ⟨valid, other⟩)))
  · intro unstarted starts
    rw [identifyTest_of_identify runs stage, identifyStart_starts target unstarted starts]
  · intro stands
    rw [identifyTest_of_identify runs stage, identifyStart_stands target stands, putSeq_self runs]
  · intro exit
    rw [stageStep_next runs exit, leaveStage_enters (by rw [stage]; nofun) (by rw [stage]; exact nextStage_identify ..)]
  · intro exit
    rw [stageStep_stands runs exit, if_neg (by simp [stageDone, stage])]
  · intro ready
    rw [stageStep_stands runs exit, stageDone_converter target stage, if_pos ready,
      leaveStage_enters (by rw [stage]; nofun) (by rw [stage]; exact nextStage_converter ..)]
  · intro unready
    rw [stageStep_stands runs exit, stageDone_converter target stage, if_neg (by rw [unready]; nofun)]

end Sys2Proof.Machine
end

section
/-!
PROOFS. The update of the ice index (O41).
-/

namespace Sys2Proof.Machine

variable {s : State}

/-- The index, the arc count and the level after an index update (R136, R137), before PST is asked for anything. -/
def indexed (s : State) : State :=
  s.withIce { s.ice with index := nextIndex s, arcCount := 0, level := nextLevel s s.ice.level (nextIndex s) }

theorem exec_iceIndexUpdate (run : Running s) :
    exec .iceIndexUpdate s = .next (settle s (winterAsk s.ice.level (indexed s))) := by
  have update : iceUpdate s = winterAsk s.ice.level (indexed s) := if_neg run.roof
  rw [← update]
  exact event_live run.held

/-! ### What PST is asked for at a level entered (R138) -/

theorem winterAsk_same {before : IceLevel} (same : s.ice.level = before) : winterAsk before s = s := if_pos same

theorem winterAsk_alert {before : IceLevel} (entered : s.ice.level ≠ before) (level : s.ice.level = .alert) :
    winterAsk before s = s := by
  rw [winterAsk, if_neg entered, level]

theorem winterAsk_icing {before : IceLevel} (entered : s.ice.level ≠ before) (level : s.ice.level = .icing) :
    winterAsk before s = winterApply (s.withIce { s.ice with winterRequest := true }) := by
  rw [winterAsk, if_neg entered, level]

theorem winterAsk_clear {before : IceLevel} (entered : s.ice.level ≠ before) (level : s.ice.level = .clear) :
    winterAsk before s = winterRemove (s.withIce { s.ice with winterRequest := false }) := by
  rw [winterAsk, if_neg entered, level]

/-- Settles O41: the update by the level that it enters, and Table 7-3 by the level before. -/
theorem iceIndexIsUpdated : Obligations.IceIndexIsUpdated := by
  refine ⟨fun s run => ⟨fun same => ?_, fun entered alert => ?_, fun entered icing => ?_, fun entered clear => ?_⟩,
    fun s i => ⟨rfl, rfl, rfl⟩⟩ <;> rw [exec_iceIndexUpdate run]
  · rw [winterAsk_same same]; rfl
  · rw [winterAsk_alert entered alert]; rfl
  · rw [winterAsk_icing entered icing]; rfl
  · rw [winterAsk_clear entered clear]; rfl

end Sys2Proof.Machine
end

section
/-!
PROOFS. What the writes of a slot start leave in the zones (R145).
-/

namespace Sys2Proof.Machine

variable {s t : State} {zs : List (Fin 16)} {duty : Nat}

/-- A zone after ICE has written it a duty that it takes: the loop's zones alone take one (R55). -/
def loopWritten (duty : Nat) (o : Out) : Out := if loopOwns o = true then { o with buffered := duty } else o

theorem loopWritten_owns (duty : Nat) (o : Out) : loopOwns (loopWritten duty o) = loopOwns o := by
  unfold loopWritten
  split <;> rfl

/-- The last write counts. -/
theorem loopWritten_again (d e : Nat) (o : Out) : loopWritten d (loopWritten e o) = loopWritten d o := by
  by_cases own : loopOwns o = true
  · rw [loopWritten, loopWritten_owns, if_pos own, loopWritten, loopWritten, if_pos own, if_pos own]
  · rw [loopWritten, loopWritten_owns, if_neg own, loopWritten, loopWritten, if_neg own, if_neg own]

theorem putZone_zoneOut (s : State) (z y : Fin 16) (o : Out) :
    zoneOut (putZone s z o) y = if y = z then o else zoneOut s y := by
  split
  · subst_vars; exact zoneOut_putZone_self ..
  · exact zoneOut_putZone_other _ _ ‹_›

/-- A write of 0 needs neither the supply nor room in the budget (R63, R64). -/
theorem writeZone_zero (s : State) (z y : Fin 16) :
    zoneOut (writeZone s z 0) y = if y = z then loopWritten 0 (zoneOut s y) else zoneOut s y := by
  unfold writeZone loopWritten
  by_cases own : loopOwns (zoneOut s z) = true
  · simp only [own, Bool.not_true, lt_irrefl, decide_false, Bool.false_and, Bool.or_self, Bool.false_eq_true, if_false,
      putZone_zoneOut]
    split
    · subst_vars; rw [if_pos own]
    · rfl
  · simp only [own, Bool.not_false, Bool.true_or, if_true]
    split
    · subst_vars; rw [if_neg own]
    · rfl

/-! ### Writes one after the other -/

/-- Writes to zones of a list, each of which does `g` to its own zone and nothing to another while `P` holds, when a
second `g` does no more than the first. -/
theorem foldl_zones {P : State → Prop} {f : State → Fin 16 → State} {g : Fin 16 → Out → Out}
    (again : ∀ z o, g z (g z o) = g z o) (l : List (Fin 16)) (keeps : ∀ s, ∀ z ∈ l, P s → P (f s z))
    (writes : ∀ s, ∀ z ∈ l, P s → ∀ y, zoneOut (f s z) y = if y = z then g y (zoneOut s y) else zoneOut s y)
    (holds : P s) (y : Fin 16) : zoneOut (l.foldl f s) y = if y ∈ l then g y (zoneOut s y) else zoneOut s y := by
  induction l generalizing s with
  | nil => rfl
  | cons z l ih =>
    rw [List.foldl_cons, ih (fun s x hx => keeps s x (.tail _ hx)) (fun s x hx => writes s x (.tail _ hx))
      (keeps s z (.head _) holds), writes s z (.head _) holds]
    by_cases here : y = z <;> by_cases later : y ∈ l <;> simp [here, later, again]

/-- The zeros of a slot start: every zone but those of the slot. -/
def zeroOthers (zs : List (Fin 16)) (s : State) : State :=
  allZones.foldl (fun s z => if zs.contains z then s else writeZone s z 0) s

theorem zeroOthers_zoneOut (zs : List (Fin 16)) (s : State) (y : Fin 16) :
    zoneOut (zeroOthers zs s) y = if y ∈ zs then zoneOut s y else loopWritten 0 (zoneOut s y) := by
  have every := foldl_zones (P := fun _ => True) (s := s)
    (f := fun s z => if zs.contains z then s else writeZone s z 0)
    (g := fun z o => if z ∈ zs then o else loopWritten 0 o)
    (fun z o => by split; exacts [rfl, loopWritten_again ..]) allZones (fun _ _ _ _ => trivial)
    (fun s z _ _ y => by
      by_cases slot : z ∈ zs
      · rw [if_pos (List.contains_iff_mem.mpr slot)]
        split
        · subst_vars; rw [if_pos slot]
        · rfl
      · rw [if_neg fun c => slot (List.contains_iff_mem.mp c), writeZone_zero]
        split
        · subst_vars; rw [if_neg slot]
        · rfl) trivial y
  rwa [if_pos (mem_allZones y)] at every

/-! ### Room for the slot's duty (R63, R64) -/

/-- The supply is there, the loop owns the slot's zones, and the budget holds for them beside all that is on. -/
structure SlotRoom (zs : List (Fin 16)) (s : State) : Prop where
  supply : s.ros.auxok = true
  owned : ∀ z ∈ zs, loopOwns (zoneOut s z) = true
  fits : (litZones s ∪ zs.toFinset).card ≤ effNat s Par.heaterBudget

/-- Where there is room for the slot, a zone of the slot takes its duty. -/
theorem SlotRoom.writeZone_eq {z : Fin 16} (room : SlotRoom zs s) (mem : z ∈ zs) (duty : Nat) :
    writeZone s z duty = putZone s z (loopWritten duty (zoneOut s z)) := by
  have free : ¬ ((zoneOut s z).buffered = 0 ∧ effNat s Par.heaterBudget ≤ zonesBuffered s) := fun ⟨off, full⟩ => by
    have dark : z ∉ litZones s := fun lit => Nat.ne_of_gt ((mem_litZones z).mp lit) off
    have grows : litZones s ⊂ litZones s ∪ zs.toFinset :=
      (Finset.ssubset_iff_of_subset Finset.subset_union_left).mpr
        ⟨z, Finset.mem_union_right _ (List.mem_toFinset.mpr mem), dark⟩
    have more := Finset.card_lt_card grows
    rw [zonesBuffered_eq] at full
    exact absurd room.fits (by omega)
  have taken : (!loopOwns (zoneOut s z) ||
      (0 < duty && (!s.ros.auxok || ((zoneOut s z).buffered == 0 && budgetFull s)))) = false := by
    simp only [room.owned z mem, room.supply, Bool.not_true, Bool.false_or, Bool.and_eq_false_iff, budgetFull,
      decide_eq_false_iff_not, beq_eq_false_iff_ne]
    tauto
  rw [loopWritten, if_pos (room.owned z mem)]
  exact if_neg (Bool.eq_false_iff.mp taken)

theorem SlotRoom.writeZone {z : Fin 16} (room : SlotRoom zs s) (mem : z ∈ zs) (duty : Nat) :
    SlotRoom zs (writeZone s z duty) := by
  rw [room.writeZone_eq mem]
  refine ⟨room.supply, fun y hy => ?_, (Finset.card_le_card ?_).trans room.fits⟩
  · rw [putZone_zoneOut]
    split
    · rw [loopWritten_owns]; exact room.owned z mem
    · exact room.owned y hy
  · refine Finset.union_subset (fun y lit => ?_) Finset.subset_union_right
    rw [mem_litZones_putZone] at lit
    split at lit
    · subst_vars; exact Finset.mem_union_right _ (List.mem_toFinset.mpr mem)
    · exact Finset.mem_union_left _ lit

/-- The duties of a slot that has room. -/
theorem SlotRoom.foldl_zoneOut (room : SlotRoom zs s) (duty : Nat) (y : Fin 16) :
    zoneOut (zs.foldl (fun s z => Machine.writeZone s z duty) s) y =
      if y ∈ zs then loopWritten duty (zoneOut s y) else zoneOut s y :=
  foldl_zones (fun _ _ => loopWritten_again ..) zs (fun _ _ mem room => room.writeZone mem duty)
    (fun s z mem room y => by
      rw [room.writeZone_eq mem, putZone_zoneOut]
      split
      · subst_vars; rfl
      · rfl) room y

/-! ### All that a slot start writes -/

theorem writeSlot_eq (s : State) (zs : List (Fin 16)) (duty : Nat) :
    writeSlot s zs duty = zs.foldl (fun s z => writeZone s z duty) (zeroOthers zs s) := rfl

/-- The state but for the heater zones. -/
def zonesBlind (s : State) : State := s.withRos { s.ros with zones := .const (.const .reset) }

theorem writeZone_zonesBlind (s : State) (z : Fin 16) (d : Nat) : zonesBlind (writeZone s z d) = zonesBlind s := by
  rcases writeZone_cases s z d with e | e <;> rw [e]; rfl

theorem zeroOthers_zonesBlind (zs : List (Fin 16)) (s : State) : zonesBlind (zeroOthers zs s) = zonesBlind s :=
  foldl_frame zonesBlind _ (fun s z => by split; exacts [rfl, writeZone_zonesBlind ..]) _ _

theorem writeSlot_zonesBlind (s : State) (zs : List (Fin 16)) (d : Nat) :
    zonesBlind (writeSlot s zs d) = zonesBlind s := by
  rw [writeSlot_eq, foldl_frame zonesBlind _ fun s z => writeZone_zonesBlind s z d, zeroOthers_zonesBlind]

/-- All but the zones is as it was. -/
theorem eq_of_zonesBlind (same : zonesBlind t = zonesBlind s) :
    t = s.withRos t.ros ∧ t.ros.valves = s.ros.valves ∧ t.ros.auxok = s.ros.auxok :=
  ⟨congrArg (·.withRos t.ros) same, congrArg (·.ros.valves) same, congrArg (·.ros.auxok) same⟩

/-- The zones that are on and that the loop does not own. -/
def othersLit (s : State) : List (Fin 16) :=
  allZones.filter fun z => !loopOwns (zoneOut s z) && decide (0 < (zoneOut s z).buffered)

theorem litZones_zeroOthers (zs : List (Fin 16)) (s : State) :
    litZones (zeroOthers zs s) ⊆ (othersLit s).toFinset ∪ zs.toFinset := fun y lit => by
  rw [mem_litZones, zeroOthers_zoneOut] at lit
  rw [Finset.mem_union, List.mem_toFinset, List.mem_toFinset]
  by_cases slot : y ∈ zs
  · exact .inr slot
  · rw [if_neg slot, loopWritten] at lit
    split at lit
    · exact absurd lit (lt_irrefl 0)
    · exact .inl (List.mem_filter.mpr ⟨mem_allZones y, by simp_all⟩)

/-- Within the take limit (R143) there is room for the slot once the loop's other zones are at 0. -/
theorem slotRoom_zeroOthers (filled : zs ≠ []) (supply : s.ros.auxok = true)
    (owned : ∀ z ∈ zs, loopOwns (zoneOut s z) = true) (short : zs.length ≤ takeLimit s) :
    SlotRoom zs (zeroOthers zs s) := by
  have same := zeroOthers_zonesBlind zs s
  have store : (zeroOthers zs s).pst = s.pst := congrArg (·.pst) same
  have budget : effNat (zeroOthers zs s) Par.heaterBudget = effNat s Par.heaterBudget := by rw [effNat, eff, store]; rfl
  have limit : takeLimit s = effNat s Par.heaterBudget - (othersLit s).length := rfl
  have positive := List.length_pos_iff.mpr filled
  obtain ⟨-, -, auxok⟩ := eq_of_zonesBlind same
  refine ⟨auxok.trans supply, fun z mem => ?_, ?_⟩
  · rw [zeroOthers_zoneOut, if_pos mem]
    exact owned z mem
  · have within := Finset.union_subset (litZones_zeroOthers zs s) Finset.subset_union_right
    calc
      _ ≤ ((othersLit s).toFinset ∪ zs.toFinset).card := Finset.card_le_card within
      _ ≤ (othersLit s).toFinset.card + zs.toFinset.card := Finset.card_union_le ..
      _ ≤ (othersLit s).length + zs.length := Nat.add_le_add (List.toFinset_card_le _) (List.toFinset_card_le _)
      _ ≤ _ := by omega

/-- Every zone of the loop is written: those of the slot with its duty, and all others with 0. -/
theorem writeSlot_zoneOut (supply : zs ≠ [] → s.ros.auxok = true) (owned : ∀ z ∈ zs, loopOwns (zoneOut s z) = true)
    (short : zs.length ≤ takeLimit s) (duty : Nat) (y : Fin 16) :
    zoneOut (writeSlot s zs duty) y = loopWritten (if y ∈ zs then duty else 0) (zoneOut s y) := by
  rw [writeSlot_eq]
  cases zs with
  | nil => simp [zeroOthers_zoneOut]
  | cons z zs =>
    have filled : z :: zs ≠ [] := List.cons_ne_nil z zs
    rw [(slotRoom_zeroOthers filled (supply filled) owned short).foldl_zoneOut, zeroOthers_zoneOut]
    split <;> rfl

/-- What a slot start that writes `x` to ICE's own record makes of a state. -/
structure SlotWritten (s : State) (x : Ice) (zs : List (Fin 16)) (duty : Nat) (t : State) : Prop where
  frame : t = (s.withIce x).withRos t.ros
  valves : t.ros.valves = s.ros.valves
  auxok : t.ros.auxok = s.ros.auxok
  zones : ∀ y, zoneOut t y = loopWritten (if y ∈ zs then duty else 0) (zoneOut s y)

theorem slotWritten_writeSlot (supply : zs ≠ [] → s.ros.auxok = true)
    (owned : ∀ z ∈ zs, loopOwns (zoneOut s z) = true) (short : zs.length ≤ takeLimit s) (x : Ice) (duty : Nat) :
    SlotWritten s x zs duty (writeSlot (s.withIce x) zs duty) :=
  have ⟨frame, valves, auxok⟩ := eq_of_zonesBlind (writeSlot_zonesBlind (s.withIce x) zs duty)
  ⟨frame, valves, auxok, writeSlot_zoneOut (s := s.withIce x) supply owned short duty⟩

end Sys2Proof.Machine
end

section
/-!
PROOFS. The group, the zones and the duty of a slot start, and the expiry of a slot (O42).
-/

namespace Sys2Proof.Machine

variable {s : State} {n : Nat}

/-! ### The group (R142) -/

/-- The group that is tried first: the one after group_pointer. -/
def firstGroup (s : State) : Nat :=
  match s.ice.pointer with
  | some g => chanIndex g + 1
  | none => 0

/-- The i-th group tried. -/
def triedGroup (s : State) (i : Nat) : Nat := (firstGroup s + i) % (16 / groupSize s)

/-- A group with an eligible zone. -/
def groupUsable (s : State) (g : Nat) : Bool :=
  (List.range (groupSize s)).any fun j => zoneEligible s (zoneAt (groupSize s) g j)

theorem groupUsable_iff (s : State) (g : Nat) : groupUsable s g = true ↔
    ∃ j, j < groupSize s ∧ zoneEligible s (zoneAt (groupSize s) g j) = true := by
  simp [groupUsable]

theorem chosenGroup_eq (s : State) : chosenGroup s =
    ((List.range (16 / groupSize s)).find? fun i => groupUsable s (triedGroup s i)).map (triedGroup s) :=
  List.find?_map ..

/-- The group chosen is the first usable one of those tried. -/
theorem chosenGroup_some {g : Nat} (chosen : chosenGroup s = some g) :
    ∃ i, g = triedGroup s i ∧ i < 16 / groupSize s ∧ groupUsable s (triedGroup s i) = true ∧
      ∀ h, h < i → ¬ groupUsable s (triedGroup s h) = true := by
  rw [chosenGroup_eq, Option.map_eq_some_iff] at chosen
  obtain ⟨i, found, rfl⟩ := chosen
  obtain ⟨usable, low, before⟩ := List.find?_range_eq_some.mp found
  exact ⟨i, rfl, List.mem_range.mp low, usable, fun h hi => by simpa using before h hi⟩

theorem eligibleZones_eq_nil : eligibleZones s = [] ↔ ∀ z, zoneEligible s z = false := by
  simp [eligibleZones, List.filter_eq_nil_iff]

theorem chosenGroup_of_none_eligible (nothing : eligibleZones s = []) : chosenGroup s = none := by
  refine List.find?_eq_none.mpr fun g _ => ?_
  simp [eligibleZones_eq_nil.mp nothing]

/-- Every zone is in a group that is tried. -/
theorem triedGroup_covers (size : n = 4 ∨ n = 8) (sized : groupSize s = n) (z : Fin 16) :
    ∃ i j, i < 16 / n ∧ j < n ∧ zoneAt n (triedGroup s i) j = z := by
  have low := z.isLt
  refine ⟨(z.val / n + (16 / n - firstGroup s % (16 / n))) % (16 / n), z.val % n, ?_⟩
  unfold triedGroup
  rw [sized]
  obtain rfl | rfl := size <;> refine ⟨by omega, by omega, Fin.ext ?_⟩ <;> simp only [zoneAt] <;> omega

theorem chosenGroup_of_eligible (size : n = 4 ∨ n = 8) (sized : groupSize s = n) (found : eligibleZones s ≠ []) :
    ∃ g, chosenGroup s = some g := by
  by_contra unchosen
  refine found (eligibleZones_eq_nil.mpr fun z => Bool.eq_false_iff.mpr fun eligible => unchosen ?_)
  obtain ⟨i, j, hi, hj, rfl⟩ := triedGroup_covers size sized z
  subst sized
  have usable := (groupUsable_iff s (triedGroup s i)).mpr ⟨j, hj, eligible⟩
  rw [chosenGroup_eq]
  obtain ⟨k, first⟩ := Option.isSome_iff_exists.mp
    ((List.find?_isSome (p := fun i => groupUsable s (triedGroup s i))).mpr ⟨i, List.mem_range.mpr hi, usable⟩)
  exact ⟨triedGroup s k, by rw [first]; rfl⟩

/-! ### The zones taken (R143) -/

section

variable {zone : Nat → Fin 16} {ok : Fin 16 → Bool} {pos : Nat → Nat} {limit : Nat}

/-- The zones that the first k steps take. -/
def takenBy (zone : Nat → Fin 16) (ok : Fin 16 → Bool) (pos : Nat → Nat) (k : Nat) : List (Fin 16) :=
  ((List.range k).map fun k => zone (pos k)).filter ok

theorem takenBy_succ (k : Nat) : takenBy zone ok pos (k + 1) =
    if ok (zone (pos k)) then takenBy zone ok pos k ++ [zone (pos k)] else takenBy zone ok pos k := by
  unfold takenBy
  rw [List.range_succ, List.map_append, List.filter_append, List.map_singleton, List.filter_singleton]
  split <;> simp_all

/-- The steps are made until the limit is reached or none is left. -/
theorem takeSteps_eq (fuel k : Nat) (short : ∀ j, j < k → (takenBy zone ok pos j).length < limit) :
    ∃ m, takeSteps zone ok pos limit fuel k (takenBy zone ok pos k) = (takenBy zone ok pos m, m) ∧ m ≤ k + fuel ∧
      (m = k + fuel ∨ limit ≤ (takenBy zone ok pos m).length) ∧
      ∀ j, j < m → (takenBy zone ok pos j).length < limit := by
  induction fuel generalizing k with
  | zero => exact ⟨k, rfl, le_refl _, .inl rfl, short⟩
  | succ fuel ih =>
    by_cases room : (takenBy zone ok pos k).length < limit
    · obtain ⟨m, made, most, done, shorter⟩ := ih (k + 1) fun j hj =>
        (Nat.lt_succ_iff_lt_or_eq.mp hj).elim (short j) fun e => e ▸ room
      rw [takenBy_succ] at made
      refine ⟨m, ?_, by omega, done.imp_left (by omega), shorter⟩
      rw [takeSteps, if_pos room]
      exact made
    · exact ⟨k, by rw [takeSteps, if_neg room], by omega, .inr (Nat.not_lt.mp room), short⟩

/-- A step takes one zone at most, so that the limit is reached and not passed. -/
theorem takenBy_length_le (m : Nat) (short : ∀ j, j < m → (takenBy zone ok pos j).length < limit) :
    (takenBy zone ok pos m).length ≤ limit := by
  cases m with
  | zero => exact Nat.zero_le _
  | succ m =>
    have before := short m (Nat.lt_succ_self m)
    rw [takenBy_succ]
    split
    · rw [List.length_append, List.length_singleton]; omega
    · omega

theorem eligible_of_takenBy {z : Fin 16} {k : Nat} (taken : z ∈ takenBy zone ok pos k) : ok z = true :=
  (List.mem_filter.mp taken).2

end

theorem zoneEligible_takes {z : Fin 16} (eligible : zoneEligible s z = true) :
    s.ros.auxok = true ∧ loopOwns (zoneOut s z) = true := by
  simp only [zoneEligible, Bool.and_eq_true] at eligible
  obtain ⟨⟨-, supply⟩, own⟩ := eligible
  exact ⟨supply, own⟩

/-! ### The slot (R144, R145) -/

theorem slotRate2x_iff (s : State) : slotRate2x s = true ↔ eff s Par.rateFixed2x = 1 ∨
    (eff s Par.rateTrack = 1 ∧ s.ice.ambientValid = true ∧ s.ice.ambient ≤ eff s Par.tCold2x) := by
  simp [slotRate2x, and_assoc]

/-- The slot of a group with the zones taken. -/
def newSlot (s : State) (g : Nat) (zs : List (Fin 16)) : Slot := ⟨chanAt g, zs, slotDuty s, slotRate2x s, 0⟩

/-- The rotation and the slot after a slot start that examined m positions of a group. -/
def startedIce (s : State) (g m : Nat) (zs : List (Fin 16)) : Ice :=
  { s.ice with
    pointer := some (chanAt g)
    counters := s.ice.counters.set (chanAt g) ((s.ice.counters.get (chanAt g) + m) % groupSize s)
    slot := .running (newSlot s g zs) }

/-- The slot after a slot start that finds no eligible zone. -/
def idledIce (s : State) : Ice := { s.ice with slot := .idle }

/-- The zones that the first k steps in a group take, from the group's counter and by the order in force. -/
def groupTaken (s : State) (g k : Nat) : List (Fin 16) :=
  takenBy (zoneAt (groupSize s) g) (zoneEligible s)
    (examined (eff s Par.order == 1) (groupSize s) (s.ice.counters.get (chanAt g))) k

theorem slotStart_held (held : s.ice.slot = .held) : slotStart s = s := if_pos held

theorem slotStart_none (free : s.ice.slot ≠ .held) (unchosen : chosenGroup s = none) :
    SlotWritten s (idledIce s) [] 0 (slotStart s) := by
  rw [slotStart, if_neg free, unchosen]
  exact slotWritten_writeSlot (fun filled => absurd rfl filled) nofun (Nat.zero_le _) (idledIce s) 0

/-- The steps in the group chosen, the rotation past them, and the writes: the zones taken fit the limit, so that each
takes its duty. -/
theorem slotStart_some {g : Nat} (free : s.ice.slot ≠ .held) (chosen : chosenGroup s = some g) :
    ∃ m, SlotWritten s (startedIce s g m (groupTaken s g m)) (groupTaken s g m) (slotDuty s) (slotStart s) ∧
      m ≤ groupSize s ∧ (groupTaken s g m).length ≤ takeLimit s ∧
      (m = groupSize s ∨ (groupTaken s g m).length = takeLimit s) ∧
      ∀ k, k < m → (groupTaken s g k).length < takeLimit s := by
  obtain ⟨m, made, most, done, short⟩ := takeSteps_eq (zone := zoneAt (groupSize s) g) (ok := zoneEligible s)
    (pos := examined (eff s Par.order == 1) (groupSize s) (s.ice.counters.get (chanAt g))) (limit := takeLimit s)
    (groupSize s) 0 nofun
  rw [Nat.zero_add] at most done
  have fits : (groupTaken s g m).length ≤ takeLimit s := takenBy_length_le m short
  have takes := fun z (mem : z ∈ groupTaken s g m) => zoneEligible_takes (eligible_of_takenBy mem)
  have started : slotStart s =
      writeSlot (s.withIce (startedIce s g m (groupTaken s g m))) (groupTaken s g m) (slotDuty s) := by
    rw [slotStart, if_neg free, chosen]
    dsimp only
    rw [show takeSteps _ _ _ _ _ 0 [] = _ from made]
    rfl
  refine ⟨m, ?_, most, fits, done.imp_right (le_antisymm fits), short⟩
  rw [started]
  refine slotWritten_writeSlot (fun filled => ?_) (fun z mem => (takes z mem).2) fits _ _
  obtain ⟨z, mem⟩ := List.exists_mem_of_ne_nil _ filled
  exact (takes z mem).1

/-- The positions examined are those of order 0 or of order 1 (R143). -/
theorem groupTaken_eq (s : State) (g k : Nat) : groupTaken s g k =
    ((List.range k).map fun k => zoneAt (groupSize s) g
      (if eff s Par.order = 1 then s.ice.counters.get (chanAt g) ^^^ k
        else (s.ice.counters.get (chanAt g) + k) % groupSize s)).filter (zoneEligible s) := by
  simp [groupTaken, takenBy, examined]

theorem slotExpiry_due {x : Slot} (running : s.ice.slot = .running x) (due : effNat s Par.slotMs ≤ x.time) :
    slotExpiry s = slotStart s := by
  have expired : slotExpired s = true := by simp [slotExpired, running, due]
  exact if_pos expired

/-- Settles O42: no group is chosen, or one is, whose zones are taken within the limit and so take their duty. -/
theorem slotStartsTakeEligibleZones : Obligations.SlotStartsTakeEligibleZones := by
  refine ⟨fun x s live running due => ?_, fun s => ⟨slotStart_held, fun free nothing => ?_,
    fun n size sized free found => ?_⟩⟩
  · exact (event_live live).trans (by rw [slotExpiry_due running due])
  · obtain ⟨frame, valves, auxok, zones⟩ := slotStart_none free (chosenGroup_of_none_eligible nothing)
    exact ⟨frame, valves, auxok, zones⟩
  · obtain ⟨g, chosen⟩ := chosenGroup_of_eligible size sized found
    obtain ⟨i, tried, low, usable, before⟩ := chosenGroup_some chosen
    obtain ⟨m, ⟨frame, valves, auxok, zones⟩, most, fits, done, short⟩ := slotStart_some free chosen
    have taken := groupTaken_eq s g
    subst sized tried
    refine ⟨i, m, newSlot s (triedGroup s i) (groupTaken s (triedGroup s i) m), low, (groupUsable_iff ..).mp usable,
      fun h hi use => before h hi ((groupUsable_iff ..).mpr use), most, taken m, fits, done, fun k hk => ?_, rfl, rfl,
      rfl, slotRate2x_iff s, rfl, frame, valves, auxok, zones⟩
    exact (congrArg List.length (taken k)).symm.trans_lt (short k hk)

end Sys2Proof.Machine
end

section
/-!
PROOFS. A bank at an offer (R155 to R158): its counter, its record by the priority of Table 8-2, and the laws that both
keep (O47).
-/

namespace Sys2Proof.Machine

variable (b : Bank) (k : FaultKind) (ctx : Option Ctx) (time : BitVec 32) (pos : Option Nat)

/-! ### The counter (R158) -/

theorem countOffer_counts {b : Bank} {k : FaultKind} (enabled : b.countEnable = true)
    (correctable : kindUncorrected k = false) (low : b.counter < 4095) : countOffer b k =
      { b with counter := b.counter + 1, counterOverflow := b.counterOverflow || b.counter == 4094 } := by
  simp [countOffer, enabled, correctable, low]

theorem countOffer_stands {b : Bank} {k : FaultKind}
    (idle : b.countEnable = false ∨ kindUncorrected k = true ∨ 4095 ≤ b.counter) : countOffer b k = b :=
  if_neg fun counts => by
    simp only [Bool.and_eq_true, Bool.not_eq_true', decide_eq_true_eq] at counts
    obtain ⟨⟨enabled, correctable⟩, low⟩ := counts
    rcases idle with off | minor | full
    · simp [off] at enabled
    · simp [minor] at correctable
    · omega

theorem countOffer_counts_or_stands : countOffer b k = b ∨ b.counter < 4095 ∧ countOffer b k =
    { b with counter := b.counter + 1, counterOverflow := b.counterOverflow || b.counter == 4094 } := by
  unfold countOffer
  split
  · rename_i counts
    simp only [Bool.and_eq_true, decide_eq_true_eq] at counts
    exact .inr ⟨counts.2, rfl⟩
  · exact .inl rfl

/-- Logging writes the record alone, beside the counter. -/
theorem bankOffer_counter : (bankOffer b k ctx time pos).counter = (countOffer b k).counter ∧
    (bankOffer b k ctx time pos).counterOverflow = (countOffer b k).counterOverflow := by
  unfold bankOffer
  dsimp only
  split <;> exact ⟨rfl, rfl⟩

/-- A counter below its end counts one, and meets its flag there. -/
theorem CounterLaw.bankOffer {b : Bank} (law : CounterLaw b) : CounterLaw (bankOffer b k ctx time pos) := by
  obtain ⟨counter, flag⟩ := bankOffer_counter b k ctx time pos
  obtain ⟨bound, full⟩ := law
  rw [CounterLaw, counter, flag]
  rcases countOffer_counts_or_stands b k with stands | ⟨low, counts⟩
  · rw [stands]
    exact ⟨bound, full⟩
  · have unflagged : b.counterOverflow = false := Bool.eq_false_iff.mpr fun set => by
      have := full.mp set
      omega
    rw [counts]
    simp only [unflagged, Bool.false_or, beq_iff_eq]
    omega

/-! ### The record (Table 8-2) -/

theorem kindEnabled_eq : kindEnabled b k = (!kindClassE k || (if k = .shedTimeout then b.maskShed else b.maskConv)) := by
  cases k <;> rfl

theorem kindEnabled_countOffer : kindEnabled (countOffer b k) k = kindEnabled b k := by
  rcases countOffer_counts_or_stands b k with e | ⟨-, e⟩ <;> rw [e]
  cases k <;> rfl

/-- SHED_TIMEOUT alone may fall short of the record: it is the one kind of class E whose action is LOG (R157). -/
theorem reachesRecord_iff : reachesRecord b k = true ↔ k ≠ .shedTimeout ∨ b.maskShed = true := by
  cases k <;> simp [reachesRecord, kindAction, kindEnabled]

section
variable {b : Bank} {k : FaultKind} {r : FaultRecord}

theorem bankOffer_record_of_masked (masked : k = .shedTimeout) (clear : b.maskShed = false) :
    (bankOffer b k ctx time pos).record = b.record := by
  have short : ¬ reachesRecord b k = true := by simp [reachesRecord_iff, masked, clear]
  rw [bankOffer_record, if_neg short]

theorem bankOffer_record_of_reaches (reaches : k ≠ .shedTimeout ∨ b.maskShed = true) :
    (bankOffer b k ctx time pos).record = some (logRecord (countOffer b k) k ctx time pos) := by
  rw [bankOffer_record, if_pos ((reachesRecord_iff b k).mpr reaches)]

theorem logRecord_empty (none : b.record = none) :
    logRecord (countOffer b k) k ctx time pos = writeRecord b k ctx false time pos := by
  simp only [logRecord, countOffer_record, none, writeRecord, kindEnabled_countOffer]

theorem logRecord_correctable (held : b.record = some r) (minor : kindUncorrected k = false) :
    logRecord (countOffer b k) k ctx time pos = { r with overflow := true } := by
  simp [logRecord, held, minor]

theorem logRecord_replaces (held : b.record = some r) (major : kindUncorrected k = true)
    (minor : kindUncorrected r.kind = false) :
    logRecord (countOffer b k) k ctx time pos = writeRecord b k ctx true time pos := by
  simp [logRecord, held, major, minor, writeRecord, kindEnabled_countOffer]

theorem logRecord_repeats (held : b.record = some r) (major : kindUncorrected r.kind = true)
    (same : r.kind = k ∧ r.ctx = ctx) :
    logRecord (countOffer b k) k ctx time pos = { r with overflow := true } := by
  obtain ⟨rfl, rfl⟩ := same
  simp [logRecord, held, major]

/-- A second uncorrected fault beside the first corrupts the record (R156). -/
theorem logRecord_corrupts (held : b.record = some r) (new : kindUncorrected k = true)
    (old : kindUncorrected r.kind = true) (other : ¬ (r.kind = k ∧ r.ctx = ctx)) :
    logRecord (countOffer b k) k ctx time pos = { r with overflow := true, corrupt := true } := by
  simp [logRecord, held, new, old, other]

end

/-- Settles O47, row by row of Table 8-2, with the count beside it. -/
theorem offersAreLoggedByPriority : Obligations.OffersAreLoggedByPriority := by
  intro b k ctx time pos
  have wrote : ∀ lost, writeRecord b k ctx lost time pos =
      ⟨k, !kindClassE k || (if k = .shedTimeout then b.maskShed else b.maskConv), ctx, lost, kindCorrupt k, time, pos⟩ :=
    fun _ => by rw [writeRecord, kindEnabled_eq]
  obtain ⟨counter, flag⟩ := bankOffer_counter b k ctx time pos
  have rest := bankKept_bankOffer b k ctx time pos
  simp only [bankKept, BankKept.mk.injEq] at rest
  dsimp only
  rw [counter, flag]
  refine ⟨bankOffer_record_of_masked ctx time pos, fun reaches => ?_, fun idle => ?_, fun enabled minor low => ?_, rest⟩
  · rw [bankOffer_record_of_reaches ctx time pos reaches, ← wrote, ← wrote]
    refine ⟨fun none => by rw [logRecord_empty ctx time pos none], fun r held =>
      ⟨fun minor => by rw [logRecord_correctable ctx time pos held minor], fun new old => by
        rw [logRecord_replaces ctx time pos held new old], fun new old => ⟨fun kind context => by
        rw [logRecord_repeats ctx time pos held old ⟨kind, context⟩], fun other => by
        rw [logRecord_corrupts ctx time pos held new old (not_and_or.mpr other)]⟩⟩⟩
  · rw [countOffer_stands idle]
    exact ⟨rfl, rfl⟩
  · rw [countOffer_counts enabled minor low]
    exact ⟨rfl, rfl⟩

/-! ### The laws of the record (R155, R156) -/

/-- The kinds marked roof_corrupt are uncorrected ones (Table 8-3). -/
theorem uncorrected_of_marked : kindCorrupt k = true → kindUncorrected k = true := by
  cases k <;> simp [kindCorrupt, kindUncorrected]

/-- A record newly written is corrupt as its kind is marked, and a standing one becomes corrupt only where it holds an
uncorrected fault. -/
theorem RecordLaw.bankOffer {b : Bank} (law : RecordLaw b) : RecordLaw (bankOffer b k ctx time pos) := by
  have written : ∀ lost r, some (writeRecord b k ctx lost time pos) = some r →
      (r.corrupt = true → kindUncorrected r.kind = true) ∧ (kindCorrupt r.kind = true → r.corrupt = true) := by
    intro lost r e
    cases e
    exact ⟨uncorrected_of_marked k, id⟩
  intro r e
  by_cases reaches : k ≠ .shedTimeout ∨ b.maskShed = true
  · rw [bankOffer_record_of_reaches ctx time pos reaches] at e
    cases held : b.record with
    | none => exact written _ r (logRecord_empty ctx time pos held ▸ e)
    | some x =>
      obtain ⟨uncorrected, marked⟩ := law x held
      cases new : kindUncorrected k with
      | false =>
        rw [logRecord_correctable ctx time pos held new] at e
        cases e
        exact ⟨uncorrected, marked⟩
      | true =>
        cases old : kindUncorrected x.kind with
        | false => exact written _ r (logRecord_replaces ctx time pos held new old ▸ e)
        | true =>
          by_cases same : x.kind = k ∧ x.ctx = ctx
          · rw [logRecord_repeats ctx time pos held old same] at e
            cases e
            exact ⟨uncorrected, marked⟩
          · rw [logRecord_corrupts ctx time pos held new old same] at e
            cases e
            exact ⟨fun _ => old, fun _ => rfl⟩
  · simp only [not_or, not_not, Bool.not_eq_true] at reaches
    rw [bankOffer_record_of_masked ctx time pos reaches.1 reaches.2] at e
    exact law r e

/-- Where the law holds a corrupt record stands (R155). -/
theorem RecordLaw.stands {b : Bank} (law : RecordLaw b) (corrupt : bankCorrupt b = true) : CorruptStands b := by
  rw [bankCorrupt_eq, Option.any_eq_true] at corrupt
  obtain ⟨r, held, corrupt⟩ := corrupt
  exact ⟨r, held, corrupt, (law r held).1 corrupt⟩

theorem recordsHold_iff (s : State) : RecordsHold s ↔ ∀ b, RecordLaw (bank s.flt b) :=
  ⟨fun h b => h.bank b, fun h => ⟨fun b r e => (h b r e).1, fun b r e => (h b r e).2⟩⟩

theorem anyCorrupt_iff (f : Flt) : anyCorrupt f = true ↔ ∃ b, bankCorrupt (bank f b) = true := by
  refine ⟨fun corrupt => ?_, fun ⟨_, corrupt⟩ => anyCorrupt_of_bank corrupt⟩
  obtain ⟨b, -, corrupt⟩ := List.any_eq_true.mp corrupt
  exact ⟨b, corrupt⟩

/-- The kinds whose action is ROOF SAFE are those marked roof_corrupt (Table 8-3). -/
theorem kindAction_roofSafe_iff : kindAction k = .roofSafe ↔ kindCorrupt k = true := by
  cases k <;> simp [kindAction, kindCorrupt]

end Sys2Proof.Machine
end

section
/-!
PROOFS. The laws of the threshold counters (R158) and of SAFE_HELD (R156, R163, R167), and what keeps both from one state to
another: `Abides`. An offer does, and whatever writes neither the banks nor the roof state; the sequences and the end of an
event are made of these.
-/

namespace Sys2Proof.Machine

/-! ### An offer and the roof state -/

/-- The offer calls for ROOF SAFE, by its kind or by what its logging makes of the record (R156). -/
def offerCalls (s : State) (o : Offer) : Bool :=
  callsRoofSafe (bank s.flt (kindBank o.kind)) (bank (logOffer s o.kind o.ctx).flt (kindBank o.kind)) o.kind

theorem offerCalls_iff (s : State) (o : Offer) : offerCalls s o = true ↔ kindCorrupt o.kind = true ∨
    bankCorrupt (bank s.flt (kindBank o.kind)) = false ∧ bankCorrupt (bank (offer s o).flt (kindBank o.kind)) = true := by
  simp [offerCalls, callsRoofSafe, kindAction_roofSafe_iff, offer_flt]

/-- In a running roof an offer that calls for ROOF SAFE leaves SAFE_HELD; any other leaves the roof state. -/
theorem offer_roofState {s : State} (run : s.roofState ≠ .starting) (o : Offer) :
    (offer s o).roofState = if offerCalls s o then .safeHeld else s.roofState := by
  have acted : (if kindEnabled (bank s.flt (kindBank o.kind)) o.kind = true
      then takeAction (logOffer s o.kind o.ctx) o (madeBrk s) else logOffer s o.kind o.ctx).roofState = s.roofState :=
    calm_roofState (by split <;> simp)
  unfold offer offerCalls
  dsimp only
  split
  · exact roofSafe_roofState (by rwa [acted])
  · exact acted

/-- Outside the offer's own bank nothing changes, and there a corrupt record appears only with a call for ROOF SAFE. -/
theorem bankCorrupt_of_uncalled {s : State} {o : Offer} {b : BankId} (quiet : ¬ offerCalls s o = true)
    (corrupt : bankCorrupt (bank (offer s o).flt b) = true) : bankCorrupt (bank s.flt b) = true := by
  by_cases own : b = kindBank o.kind
  · subst own
    by_contra before
    exact quiet ((offerCalls_iff s o).mpr (.inr ⟨Bool.eq_false_iff.mpr before, corrupt⟩))
  · rwa [offer_flt, bank_logOffer, if_neg own] at corrupt

/-- A call for ROOF SAFE leaves a corrupt record, where the records hold. -/
theorem anyCorrupt_of_called {s : State} {o : Offer} (records : RecordsHold s) (calls : offerCalls s o = true) :
    anyCorrupt (offer s o).flt = true := by
  refine anyCorrupt_of_bank (b := kindBank o.kind) ?_
  rcases (offerCalls_iff s o).mp calls with marked | ⟨-, corrupt⟩
  · exact (corruptStands_offer_of_marked (records.bank _) marked).corrupt
  · exact corrupt

theorem RecordsHold.offer {s : State} (h : RecordsHold s) (o : Offer) : RecordsHold (offer s o) := by
  refine (recordsHold_iff _).mpr fun b => ?_
  rw [offer_flt, bank_logOffer]
  split
  · exact (h.bank _).bankOffer _ _ _ _
  · exact h.bank b

/-- SAFE_HELD follows the records through an offer: it is entered as a record becomes corrupt, and no corrupt record is
replaced. -/
theorem SafeHeldLaw.offer {s : State} (h : SafeHeldLaw s) (o : Offer) : SafeHeldLaw (offer s o) where
  records := h.records.offer o
  law running := by
    have run : s.roofState ≠ .starting := mt (eases_offer s o).toLulls.starting.mpr running
    rw [offer_roofState run]
    split
    · simp [anyCorrupt_of_called h.records ‹_›]
    · rw [h.law run, anyCorrupt_iff, anyCorrupt_iff]
      exact ⟨fun ⟨b, corrupt⟩ => ⟨b, (((h.records.bank b).stands corrupt).offer o).corrupt⟩,
        fun ⟨b, corrupt⟩ => ⟨b, bankCorrupt_of_uncalled ‹_› corrupt⟩⟩

theorem CountersHold.offer {s : State} (h : CountersHold s) (o : Offer) : CountersHold (offer s o) := fun b => by
  rw [offer_flt, bank_logOffer]
  split
  · exact (h _).bankOffer ..
  · exact h b

/-! ### From one state to another -/

/-- Both laws are kept. -/
structure Abides (s t : State) : Prop where
  counters : CountersHold s → CountersHold t
  safeHeld : SafeHeldLaw s → SafeHeldLaw t

theorem Abides.refl (s : State) : Abides s s := ⟨id, id⟩

theorem Abides.trans {s t u : State} (h : Abides s t) (g : Abides t u) : Abides s u :=
  ⟨g.counters ∘ h.counters, g.safeHeld ∘ h.safeHeld⟩

theorem Abides.ite {s t u : State} {p : Prop} [Decidable p] (h : p → Abides s t) (g : ¬ p → Abides s u) :
    Abides s (if p then t else u) := by
  split
  · exact h ‹_›
  · exact g ‹_›

theorem Abides.foldl {α : Type} {f : State → α → State} (h : ∀ s x, Abides s (f s x)) (l : List α) (s : State) :
    Abides s (l.foldl f s) := by
  induction l generalizing s with
  | nil => exact .refl s
  | cons x xs ih => exact (h s x).trans (ih _)

/-- The roof state alone changes, to one that follows the records. -/
theorem Abides.of_flt {s t : State} (flt : t.flt = s.flt) (follows : SafeHeldLaw s → t.roofState ≠ .starting →
    (t.roofState = .safeHeld ↔ anyCorrupt s.flt = true)) : Abides s t where
  counters h b := flt ▸ h b
  safeHeld h := ⟨(recordsHold_iff t).mpr fun b => flt ▸ h.records.bank b, fun run => flt ▸ follows h run⟩

/-- What the two laws read of a state. -/
def protView (s : State) : Flt × RoofState := (s.flt, s.roofState)

/-- Nothing that the laws read changes. -/
theorem Abides.of_view {s t : State} (h : protView t = protView s) : Abides s t := by
  obtain ⟨flt, roof⟩ := Prod.mk.inj h
  exact .of_flt flt fun law => roof ▸ law.law

/-- What follows an event, or the sequencer does, leaves the roof state; where it leaves the banks too, both laws stand. -/
theorem Abides.of_calm {s t : State} (h : calm t = calm s) (flt : t.flt = s.flt) : Abides s t :=
  .of_view (Prod.ext flt (calm_roofState h))

theorem abides_offer (s : State) (o : Offer) : Abides s (offer s o) := ⟨fun h => h.offer o, fun h => h.offer o⟩

theorem abides_offerPlain (s : State) (k : FaultKind) : Abides s (offerPlain s k) := abides_offer ..
theorem abides_offerChan (s : State) (k : FaultKind) (c : Chan) : Abides s (offerChan s k c) := abides_offer ..
theorem abides_offerBrk (s : State) (k : FaultKind) (b : Brk) : Abides s (offerBrk s k b) := abides_offer ..
theorem abides_offerParam (s : State) (k : FaultKind) (n : Nat) : Abides s (offerParam s k n) := abides_offer ..

/-- A correctable fault that is only logged is offered as any other. -/
theorem abides_logOffer {k : FaultKind} (action : kindAction k = .log) (minor : kindUncorrected k = false)
    (plain : kindCorrupt k = false) (s : State) (x : Option Ctx) : Abides s (logOffer s k x) :=
  offer_of_log action minor plain s x false ▸ abides_offer ..

/-! ### Writes of one block -/

section
variable (s : State)

theorem abides_withPending (q : List Instr) : Abides s (s.withPending q) := .of_view rfl
theorem abides_withLsi (x : Lsi) : Abides s (s.withLsi x) := .of_view rfl
theorem abides_withCau (x : Cau) : Abides s (s.withCau x) := .of_view rfl
theorem abides_withSmp (x : Smp) : Abides s (s.withSmp x) := .of_view rfl
theorem abides_withChg (x : Chg) : Abides s (s.withChg x) := .of_view rfl
theorem abides_withIce (x : Ice) : Abides s (s.withIce x) := .of_view rfl
theorem abides_withPst (x : Pst) : Abides s (s.withPst x) := .of_view rfl
theorem abides_withLnk (x : Lnk) : Abides s (s.withLnk x) := .of_view rfl
theorem abides_putChan (c : Chan) (r : Channel) : Abides s (putChan s c r) := .of_view rfl
theorem abides_putSeq (q : Sequence) : Abides s (putSeq s q) := .of_view rfl
theorem abides_putBrk (b : Brk) (r : Breaker) : Abides s (putBrk s b r) := .of_calm (calm_putBrk ..) (putBrk_flt ..)
theorem abides_setShed : Abides s (setShed s) := .of_view rfl
theorem abides_openBrk (b : Brk) : Abides s (openBrk s b) := .of_calm (calm_openBrk ..) (openBrk_flt ..)
theorem abides_putOut (x : Output) (o : Out) : Abides s (putOut s x o) := by cases x <;> exact .of_view rfl

end

/-! ### Sequences -/

theorem identifyTest_flt (s : State) : (identifyTest s).flt = s.flt := by
  unfold identifyTest
  split
  · split <;> rfl
  · rfl

/-- A recompute offers SECTION_CONFLICT at most (R101). -/
theorem abides_recompute (s : State) : Abides s (recompute s) := by
  have computed : ∀ (o : Outlook) (b : Bool),
      Abides s ((s.withSmp { s.smp with outlook := o, prevConflict := b }).withIce { s.ice with watch := o.iceHere }) :=
    fun _ _ => .of_view rfl
  exact .ite (fun _ => (computed _ _).trans (abides_logOffer rfl rfl rfl ..)) fun _ => computed _ _

theorem abides_forceChanged (b : Option Sys) (s : State) : Abides s (forceChanged b s) :=
  .ite (fun _ => abides_recompute s) fun _ => .refl s

theorem abides_newOutlook (s : State) : Abides s (newOutlook s) := by
  have handed : ∀ u, Abides u (handOutlook u) := fun u =>
    .of_calm (calm_handOutlook u) (by rw [handOutlook, automaticStart_flt, identifyTest_flt, waitTest_flt])
  exact (abides_recompute s).trans (handed _)

theorem abides_abortSeq (s : State) (x : Reason) : Abides s (abortSeq s x) := .of_calm (calm_abortSeq ..) (abortSeq_flt ..)

theorem abides_startSeq (s : State) (k : SeqKind) (o : Origin) (t : Option Sys) (a : Option Awaited) (st : Stage) :
    Abides s (startSeq s k o t a st) := .of_calm (calm_startSeq ..) (startSeq_flt ..)

theorem abides_automaticStart (s : State) : Abides s (automaticStart s) :=
  .of_calm (calm_automaticStart s) (automaticStart_flt s)

theorem abides_recordEnd (s : State) (x : Result) (n : Nat) : Abides s (recordEnd s x n) :=
  .of_calm (calm_recordEnd ..) (recordEnd_flt ..)

theorem abides_endSeq (s : State) (x : Result) (n : Nat) : Abides s (endSeq s x n) :=
  .of_calm (calm_endSeq ..) (endSeq_flt ..)

theorem abides_enterStage (st : Stage) (s : State) : Abides s (enterStage st s) :=
  .of_calm (calm_enterStage ..) (enterStage_flt ..)

theorem abides_leaveStage (s : State) (q : Sequence) : Abides s (leaveStage s q) := by
  have ended : Abides s (openingEnds s q) :=
    .ite (fun _ => (abides_withChg s { s.chg with inForce := none, target := q.target }).trans
      (abides_forceChanged ..)) fun _ => .refl s
  unfold leaveStage
  dsimp only
  split
  · exact ended.trans (abides_enterStage ..)
  · exact ended.trans (abides_endSeq ..)

theorem abides_stageStep {s t : State} (h : stageStep s = some t) : Abides s t := by
  unfold stageStep at h
  split at h
  · cases h
  · split at h
    · cases h; exact abides_leaveStage ..
    · cases h; exact abides_enterStage ..
    · cases h; exact abides_endSeq ..
    · split at h
      · cases h; exact abides_leaveStage ..
      · cases h

theorem abides_progress (s : State) : Abides s (progress s) := by
  have fuelled : ∀ n s, Abides s (progressFuel n s) := fun n => by
    induction n with
    | zero => exact .refl
    | succ n ih =>
      intro s
      unfold progressFuel
      split
      · exact (abides_stageStep ‹_›).trans (ih _)
      · exact .refl s
  exact fuelled _ _

theorem abides_roofDownSeq (s : State) (x : Reason) (o : Origin) : Abides s (roofDownSeq s x o) :=
  (abides_abortSeq ..).trans (abides_startSeq ..)

theorem abides_haltThenOffer (s : State) (x : Reason) (k : FaultKind) (b : Brk) :
    Abides s (haltThenOffer s x k b) := (abides_endSeq ..).trans (abides_offerBrk ..)

/-! ### The end of an event -/

theorem startRaise_flt (s : State) (c : Chan) (x : Role) : (startRaise s c x).flt = s.flt := writeValve_flt ..

theorem collectorRaise_flt (s : State) : (collectorRaise s).flt = s.flt := by
  unfold collectorRaise
  split
  · exact startRaise_flt ..
  · rfl

theorem scraperRaise_flt (s : State) : (scraperRaise s).flt = s.flt := by
  unfold scraperRaise
  split
  · exact startRaise_flt ..
  · rfl

theorem dropScraper_flt (s : State) : (dropScraper s).flt = s.flt := by
  unfold dropScraper
  split
  · exact lowerScraper_flt s
  · rfl

theorem scraperTest_flt (s : State) : (scraperTest s).flt = s.flt := by
  unfold scraperTest
  split
  · split <;> simp [withdrawScraper]
  · split <;> rfl

theorem heaterTest_flt (b s : State) : (heaterTest b s).flt = s.flt := congrArg (·.flt) (heaterTest_blind b s)

/-- Of the end of an event only the passing of stages can offer. -/
theorem abides_settle (b s : State) : Abides s (settle b s) := by
  refine .ite (fun _ => .refl s) fun _ => (abides_progress s).trans (.of_calm ?_ ?_)
  · rw [calm_heaterTest, calm_scraperRaise, calm_scraperTest, calm_collectorRaise, calm_dropScraper]
  · rw [heaterTest_flt, scraperRaise_flt, scraperTest_flt, collectorRaise_flt, dropScraper_flt]

end Sys2Proof.Machine
end

section
/-!
PROOFS. The effects of readings, inputs, timers and the profile store keep the laws of the counters and of SAFE_HELD, block
by block.
-/

namespace Sys2Proof.Machine

/-! ### The cab and the converter -/

theorem endDemand_flt (s : State) : (endDemand s).flt = s.flt := by rw [endDemand_eq]; rfl

theorem abides_roofDownRequest (s : State) (x : Reason) (o : Origin) : Abides s (roofDownRequest s x o) := by
  have ended : Abides s (endDemand s) := .of_view (Prod.ext (endDemand_flt s) (endDemand_roofState s))
  exact ended.trans (abides_roofDownSeq ..)

theorem abides_cabEnds (s : State) (v : Option Vcu) (x : Reason) (o : Origin) :
    Abides s (roofDownRequest (setActive s v) x o) := (abides_withCau ..).trans (abides_roofDownRequest ..)

theorem abides_cabLapse (s : State) : Abides s (cabLapse s) := by
  unfold cabLapse
  split
  · exact (abides_offer ..).trans (abides_cabEnds ..)
  · exact .refl s

theorem abides_demandExpiry (s : State) : Abides s (demandExpiry s) := by
  unfold demandExpiry
  split
  · exact abides_roofDownRequest ..
  · exact .refl s

theorem abides_examineConverter (s : State) : Abides s (examineConverter s) := by
  unfold examineConverter
  split
  · exact .refl s
  · exact .ite (fun _ => abides_offerBrk ..) fun _ => .ite (fun _ => abides_offerBrk ..) fun _ => .refl s

theorem abides_converterStale (s : State) : Abides s (converterStale s) :=
  .ite (fun _ => (abides_withCau ..).trans (abides_examineConverter _)) fun _ => .refl s

theorem abides_converterRetest (s : State) : Abides s (converterRetest s) :=
  .ite (fun _ => abides_withCau ..) fun _ => abides_converterStale s

theorem abides_takeReport (x : ConvState) (t : Option Sys) (s : State) : Abides s (takeReport x t s) := by
  have reported : ∀ u, Abides u (shedReport x u) := fun u => by
    unfold shedReport
    split
    · exact .ite (fun _ => abides_putSeq ..) fun _ => .refl u
    · exact .refl u
  exact (((abides_withCau ..).trans (reported _)).trans (abides_progress _)).trans (abides_examineConverter _)

/-! ### The breakers (R105 to R110) -/

theorem abides_closeCompletes (s : State) (b : Brk) : Abides s (closeCompletes s b) :=
  (((((abides_putBrk ..).trans (abides_withChg ..)).trans (abides_recordEnd ..)).trans (abides_forceChanged ..)).trans
    (abides_examineConverter _)).trans (abides_automaticStart _)

theorem abides_feedbackTaken (s : State) (b : Brk) (closed : Bool) : Abides s (feedbackTaken s b closed) := by
  unfold feedbackTaken
  split
  · exact abides_closeCompletes ..
  · exact ((abides_putBrk ..).trans (abides_setShed _)).trans (abides_offerBrk ..)
  · exact ((abides_putBrk ..).trans (abides_openBrk ..)).trans (abides_offerBrk ..)
  · exact abides_putBrk ..
  · exact abides_putBrk ..
  all_goals exact .refl s

theorem abides_feedbackChange (b : Brk) (closed : Bool) (s : State) : Abides s (feedbackChange b closed s) :=
  .ite (fun _ => .refl s) fun _ => .ite (fun _ => abides_putBrk ..) fun _ =>
    (abides_putBrk ..).trans (abides_feedbackTaken ..)

theorem abides_closeExpiry (b : Brk) (closed : Bool) (s : State) : Abides s (closeExpiry b closed s) :=
  .ite (fun _ => (abides_putBrk ..).trans (abides_haltThenOffer ..)) fun _ => .refl s

theorem abides_openExpiry (b : Brk) (closed : Bool) (s : State) : Abides s (openExpiry b closed s) :=
  .ite (fun _ => .ite (fun _ => (abides_putBrk ..).trans (abides_offerBrk ..)) fun _ => abides_putBrk ..) fun _ => .refl s

theorem abides_shedExpiry (s : State) : Abides s (shedExpiry s) := by
  unfold shedExpiry
  split
  · exact .ite (fun _ => (abides_offer ..).trans (abides_putSeq ..)) fun _ => .refl s
  · exact .refl s

theorem abides_deadRunExpiry (s : State) : Abides s (deadRunExpiry s) := by
  unfold deadRunExpiry
  split
  · exact .ite (fun _ => abides_offer ..) fun _ => .refl s
  · exact .refl s

theorem abides_identifyExpiry (s : State) : Abides s (identifyExpiry s) := by
  unfold identifyExpiry
  split
  · exact .ite (fun _ => abides_offer ..) fun _ => .refl s
  · exact .refl s

theorem abides_converterExpiry (s : State) : Abides s (converterExpiry s) := by
  unfold converterExpiry
  split
  · exact .ite (fun _ => (abides_putSeq ..).trans (abides_offer ..)) fun _ => .refl s
  · exact .refl s

/-! ### The identifier -/

theorem abides_takeSample (x : Int) (s : State) : Abides s (takeSample x s) :=
  .ite (fun _ => .refl s) fun _ => .ite (fun _ => abides_withLsi ..) fun _ => abides_withLsi ..

theorem abides_decideCheck (k : LineClass) (s : State) : Abides s (decideCheck k s) := by
  unfold decideCheck
  split
  · exact .ite (fun _ => .ite (fun _ => abides_withLsi ..) fun _ => (abides_withLsi ..).trans (abides_offerPlain ..))
      fun _ => .refl s
  · exact .refl s

theorem abides_examineLine (k : LineClass) (s : State) : Abides s (examineLine k s) := by
  unfold examineLine
  split
  · exact .refl s
  · split
    · exact abides_offerBrk ..
    · exact abides_offerBrk ..
    · exact .ite (fun _ => .refl s) fun _ => abides_offerBrk ..

theorem abides_identifyResult (k : LineClass) (s : State) : Abides s (identifyResult k s) := by
  unfold identifyResult
  split
  · exact .refl s
  · split
    · split
      · exact .refl s
      · exact abides_haltThenOffer ..
      · exact .ite (fun _ => abides_putSeq ..) fun _ => abides_offerBrk ..
    · exact .refl s

theorem abides_publishWindow (s : State) : Abides s (publishWindow s) := by
  have shown : ∀ w m, Abides s (published s w m) := fun w m =>
    .ite (fun _ => (abides_withLsi ..).trans (abides_offerPlain ..)) fun _ => abides_withLsi ..
  have handed : ∀ k u, Abides u (handResult k u) := fun k u =>
    ((abides_decideCheck ..).trans (abides_examineLine ..)).trans (abides_identifyResult ..)
  cases hw : s.lsi.evaluating with
  | none =>
    unfold publishWindow
    rw [hw]
    exact .refl s
  | some w =>
    by_cases enough : runRequirement s (windowRecord s w).cls
        ≤ nextRun s.lsi.candidate s.lsi.runCount (windowRecord s w).cls
    · rw [publishWindow_qualified hw enough]
      exact (shown _ _).trans (handed ..)
    · rw [publishWindow_unqualified hw (Nat.lt_of_not_le enough)]
      exact shown _ _

/-! ### The channels (R25 to R37) -/

theorem abides_testStrip (s : State) (c : Chan) : Abides s (testStrip s c) :=
  .ite (fun _ => (abides_withIce ..).trans (abides_logOffer rfl rfl rfl ..)) fun _ => abides_withIce ..

theorem abides_testAllStrips (s : State) : Abides s (testAllStrips s) := .foldl abides_testStrip _ s

theorem abides_storeForce (c : Chan) (f : Int) (s : State) : Abides s (storeForce c f s) :=
  .ite (fun _ => (abides_putChan ..).trans (abides_offerChan ..)) fun _ => abides_putChan ..

theorem abides_storeHeight (c : Chan) (h : Int) (s : State) : Abides s (storeHeight c h s) :=
  .ite (fun _ => abides_putChan ..) fun _ => abides_putChan ..

theorem failed_flt (s : State) (x : Role) : (failed s x).flt = s.flt := by
  have noted : (noteFailure s x).flt = s.flt := by cases x <;> rfl
  unfold failed
  dsimp only
  split
  · rw [collectorFailed_flt, noted]
  · exact noted

theorem abides_failed (s : State) (x : Role) : Abides s (failed s x) := .of_calm (calm_failed ..) (failed_flt ..)

theorem abides_writeValve (s : State) (c : Chan) (d : Nat) : Abides s (writeValve s c d) :=
  .of_calm (calm_writeValve ..) (writeValve_flt ..)

theorem abides_failInto (s : State) (c : Chan) (x : ChanState) : Abides s (failInto s c x) :=
  .of_calm (calm_failInto ..) (failInto_flt ..)

theorem abides_failLower (s : State) (c : Chan) : Abides s (failLower s c) :=
  ((abides_putChan ..).trans (abides_writeValve ..)).trans (abides_failed ..)

theorem abides_noWire (s : State) (c : Chan) : Abides s (noWire s c) :=
  (abides_failLower ..).trans (abides_offerChan ..)

theorem abides_arcEvent (c : Chan) (s : State) : Abides s (arcEvent c s) := by
  have offered : Abides s (offerChan (putChan s c { chan s c with arcArmed := false }) .arc c) :=
    (abides_putChan ..).trans (abides_offerChan ..)
  exact .ite (fun _ => offered.trans (abides_withIce ..)) fun _ => offered

theorem abides_readContact (c : Chan) (s : State) : Abides s (readContact c s) := by
  have counted : ∀ low, Abides s (countLowForce c low s) := fun _ => abides_putChan ..
  have read : ∀ low, Abides s (readArc c low s) := fun low =>
    .ite (fun _ => (counted low).trans (abides_arcEvent ..)) fun _ =>
      .ite (fun _ => (counted low).trans (abides_putChan ..)) fun _ => counted low
  rw [readContact_eq]
  exact .ite (fun _ => (read _).trans (abides_noWire ..)) fun _ => read _

theorem abides_reachRest (s : State) (c : Chan) : Abides s (reachRest s c) := by
  have rests : ∀ r x, Abides s (giveRole (putChan s c r) c x) := fun _ _ => .of_view rfl
  unfold reachRest
  dsimp only
  split
  · exact rests ..
  · exact rests ..
  · exact .ite (fun _ => rests ..) fun _ => rests ..
  all_goals exact .refl s

theorem abides_readTransitions (c : Chan) (h : Int) (s : State) : Abides s (readTransitions c h s) := by
  have rested : ∀ p : Prop, [Decidable p] → Abides s (if p then reachRest s c else s) := fun _ =>
    .ite (fun _ => abides_reachRest ..) fun _ => .refl s
  unfold readTransitions
  split
  · exact .ite (fun _ => abides_putChan ..) fun _ => .ite (fun _ => abides_noWire ..) fun _ => .refl s
  · exact abides_readContact ..
  · exact rested _
  · exact rested _
  · exact rested _
  all_goals exact .refl s

theorem abides_takeReading (c : Chan) (h f t : Int) (s : State) : Abides s (takeReading c h f t s) := by
  have stored : Abides s (storeStrip c t (storeHeight c h (storeForce c f s))) :=
    (((abides_storeForce ..).trans (abides_storeHeight ..)).trans (abides_withIce ..)).trans (abides_testStrip ..)
  exact .ite (fun _ => stored) fun _ => stored.trans (abides_readTransitions ..)

theorem abides_dumpInService (s : State) (c : Chan) : Abides s (dumpInService s c) := .of_view rfl

theorem abides_heightSensor (c : Chan) (s : State) : Abides s (heightSensor c s) := by
  have fails : ∀ u, Abides u (heightFails u c) := fun u => by
    unfold heightFails
    dsimp only
    split
    · exact abides_failInto ..
    · exact abides_failInto ..
    · exact abides_putChan ..
    · exact abides_putChan ..
    · exact abides_putChan ..
    · exact abides_putChan ..
    · exact .refl u
    · exact abides_dumpInService ..
  exact .ite (fun _ => .ite (fun _ => ((abides_putChan ..).trans (fails _)).trans (abides_offerChan ..)) fun _ =>
    abides_putChan ..) fun _ => .refl s

theorem abides_headLost {s t : State} {c : Chan} (h : headLost s c = some t) : Abides s t := by
  unfold headLost at h
  dsimp only at h
  split at h <;> cases h
  · exact abides_failInto ..
  · exact abides_failInto ..
  · exact abides_putChan ..
  · exact abides_putChan ..
  · exact .refl s
  · exact abides_dumpInService ..

theorem abides_headokLost (c : Chan) (s : State) : Abides s (headokLost c s) := by
  refine .ite (fun _ => .ite (fun _ => abides_putChan ..) fun _ => ?_) fun _ => .refl s
  split
  · exact ((abides_putChan ..).trans (abides_headLost ‹_›)).trans (abides_offer ..)
  · exact abides_putChan ..

theorem abides_raiseTimeout (c : Chan) (s : State) : Abides s (raiseTimeout c s) :=
  .ite (fun _ => (abides_failLower ..).trans (abides_offerChan ..)) fun _ => .refl s

theorem abides_contactLoss (c : Chan) (s : State) : Abides s (contactLoss c s) :=
  .ite (fun _ => abides_noWire ..) fun _ => .refl s

theorem abides_lowerTimeout (c : Chan) (s : State) : Abides s (lowerTimeout c s) :=
  .ite (fun _ => (abides_putChan ..).trans (abides_offerChan ..)) fun _ => .refl s

theorem abides_forceLoop (s : State) (c : Chan) : Abides s (forceLoop s c) := by
  unfold forceLoop
  dsimp only
  split
  · exact (abides_writeValve ..).trans (abides_putChan ..)
  · exact abides_writeValve ..
  all_goals exact .refl s

/-! ### Outputs and ICE -/

theorem abides_returnAll (s : State) : Abides s (returnAll s) := .of_view rfl

theorem abides_serviceLapse (s : State) : Abides s (serviceLapse s) :=
  .ite (fun _ => ((abides_withCau ..).trans (abides_offer ..)).trans (abides_returnAll _)) fun _ => .refl s

theorem stateFromReadings_flt (s : State) (c : Chan) (d : Bool) : (stateFromReadings s c d).flt = s.flt :=
  writeValve_flt ..

theorem leaveService_flt (s : State) (c : Chan) : (leaveService s c).flt = s.flt := by
  unfold leaveService
  split
  · exact stateFromReadings_flt ..
  · rfl

theorem abides_takeEnds (o : Output) (s : State) : Abides s (takeEnds o s) := by
  refine .ite (fun _ => abides_putOut ..) fun _ => ?_
  cases o with
  | valve c => exact .ite (fun _ => (abides_putOut ..).trans (abides_putChan ..)) fun _ => abides_putOut ..
  | zone z => exact abides_putOut ..

theorem abides_returnEnds (o : Output) (s : State) : Abides s (returnEnds o s) := by
  cases o with
  | valve c => exact (abides_putOut ..).trans (.of_calm (calm_leaveService _ c) (leaveService_flt _ c))
  | zone z => exact .of_view rfl

theorem abides_safePeriodEnd (o : Output) (s : State) : Abides s (safePeriodEnd o s) := by
  refine .ite (fun _ => ?_) fun _ => .refl s
  split
  · exact .refl s
  · exact abides_takeEnds o s
  · exact abides_returnEnds o s

theorem abides_ambientReading (t : Int) (s : State) : Abides s (ambientReading t s) :=
  .ite (fun _ => abides_withIce ..) fun _ =>
    .ite (fun _ => (abides_withIce ..).trans (abides_offerPlain ..)) fun _ => .refl s

theorem abides_auxokLost (s : State) : Abides s (auxokLost s) := by
  have lost : Abides s (mapZones (s.withRos { s.ros with auxok := false }) cut) := .of_view rfl
  exact .ite (fun _ => .ite (fun _ => lost) fun _ => (lost.trans (abides_withIce ..)).trans (abides_offerPlain ..))
    fun _ => .refl s

theorem abides_auxokReturn (s : State) : Abides s (auxokReturn s) := .ite (fun _ => .of_view rfl) fun _ => .of_view rfl

theorem abides_slotExpiry (s : State) : Abides s (slotExpiry s) :=
  .ite (fun _ => .of_calm (calm_slotStart s) (congrArg (·.flt) (slotStart_blind s))) fun _ => .refl s

theorem abides_winterApply (s : State) : Abides s (winterApply s) := by
  unfold winterApply
  split
  · refine .ite (fun _ => ?_) fun _ => .refl s
    split
    · exact (abides_withPst ..).trans (abides_offerPlain ..)
    · exact abides_withPst ..
  · exact abides_withPst ..
  · exact abides_withPst ..
  all_goals exact .refl s

theorem abides_winterRemove (s : State) : Abides s (winterRemove s) := by
  unfold winterRemove
  split
  · exact abides_withPst ..
  · exact abides_withPst ..
  · exact abides_withPst ..
  all_goals exact .refl s

theorem abides_iceUpdate (s : State) : Abides s (iceUpdate s) := by
  refine .ite (fun _ => .refl s) fun _ => (abides_withIce s _).trans (.ite (fun _ => .refl _) fun _ => ?_)
  split
  · exact (abides_withIce ..).trans (abides_winterApply _)
  · exact (abides_withIce ..).trans (abides_winterRemove _)
  · exact .refl _

/-! ### The position (R95 to R97) -/

theorem abides_takePosition (p track : Nat) (minus : Bool) (v : Nat) (s : State) :
    Abides s (takePosition p track minus v s) := by
  have offered : Abides s (if jumps s p then offer s ⟨.positionJump, some (.position p), false⟩ else s) :=
    .ite (fun _ => abides_offer ..) fun _ => .refl s
  exact (offered.trans (abides_withSmp ..)).trans (abides_newOutlook _)

theorem abides_odometerPulse (s : State) : Abides s (odometerPulse s) :=
  .ite (fun _ => .ite (fun _ => (abides_withSmp ..).trans (abides_newOutlook _)) fun _ => abides_withSmp ..)
    fun _ => .refl s

theorem abides_positionLapse (s : State) : Abides s (positionLapse s) :=
  .ite (fun _ => ((abides_withSmp ..).trans (abides_offer ..)).trans (abides_newOutlook _)) fun _ => .refl s

/-! ### The winter overlay and the layers (R47, R183, R185, R186) -/

theorem abides_takeRecords (carries : Nat → Bool) (rs : List (List Byte)) (s : State) (l : Layer) :
    Abides s (takeRecords carries s l rs).1 := by
  induction rs generalizing s l with
  | nil => exact .refl s
  | cons r rs ih =>
    unfold takeRecords
    split
    · exact ih ..
    · exact (abides_offerParam ..).trans (ih ..)

/-- A segment is marked, with the offer for a trailing partial record (Table 9-2). -/
theorem abides_segmentMarked (s : State) (g : Segment) (x : SegLoad) : Abides s (if x = SegLoad.part then
    offerPlain (s.withPst (setSeg s.pst g x)) .segmentInvalid else s.withPst (setSeg s.pst g x)) :=
  .ite (fun _ => (abides_withPst ..).trans (abides_offerPlain ..)) fun _ => abides_withPst ..

theorem abides_winterTake (bs : List Byte) (s : State) : Abides s (winterTake bs s).1 :=
  (abides_segmentMarked s .winter _).trans (abides_takeRecords ..)

theorem abides_winterReadEnd (bs : List Byte) (s : State) : Abides s (winterReadEnd bs s) := by
  refine .ite (fun _ => ?_) fun _ => .refl s
  split
  · exact (abides_winterTake bs s).trans (abides_withPst ..)
  · exact (abides_winterTake bs s).trans (abides_withPst ..)
  all_goals exact .refl s

theorem abides_winterReadFail (s : State) : Abides s (winterReadFail s) := by
  unfold winterReadFail
  split
  · exact (abides_withPst ..).trans (abides_offerPlain ..)
  · exact abides_withPst ..
  all_goals exact .refl s

theorem abides_winterRead (r : ReadResult) (s : State) : Abides s (winterRead r s) := by
  cases r with
  | goesOn => exact .refl s
  | gave bs => exact abides_winterReadEnd ..
  | noAnswer => exact abides_winterReadFail s

theorem abides_initialState (s : State) (c : Chan) : Abides s (initialState s c) :=
  .of_calm (calm_initialState s c) (initialState_flt s c)

theorem abides_retargetAll (s : State) : Abides s (retargetAll s) :=
  .foldl (f := retarget) (fun _ _ => .of_view rfl) _ s

theorem abides_classChanged (b s : State) (c : Chan) : Abides s (classChanged b s c) := by
  refine .ite (fun _ => .refl s) fun _ => Abides.trans ?_ (abides_putChan ..)
  refine .ite (fun _ => abides_putChan ..) fun _ => .ite (fun _ => .ite (fun _ => ?_) fun _ => ?_) fun _ => .refl s
  · exact abides_initialState s c
  · exact (abides_initialState s c).trans (abides_offerChan ..)

theorem abides_applyChange (b s : State) : Abides s (applyChange b s) := by
  have rest : ∀ u, Abides u (applyRest b u) := fun u => by
    have forced : Abides u (if forceParams.any (effChanged b u) then retargetAll u else u) :=
      .ite (fun _ => abides_retargetAll u) fun _ => .refl u
    exact .ite (fun _ => forced.trans (abides_testAllStrips _)) fun _ => forced
  rw [applyChange_eq]
  exact (Abides.foldl (abides_classChanged b) _ s).trans (rest _)

theorem abides_winterPeriod (s : State) : Abides s (winterPeriod s) := by
  have checked : ∀ u g, Abides u (winterCheck u g) := fun u g => by
    unfold winterCheck
    split
    · exact .refl u
    · exact (abides_withPst ..).trans (abides_offerParam ..)
  unfold winterPeriod
  split
  · exact ((Abides.foldl checked _ s).trans (abides_withPst ..)).trans (abides_applyChange ..)
  · exact (abides_withPst ..).trans (abides_applyChange ..)
  all_goals exact .refl s

theorem abides_forcePeriod (s : State) : Abides s (forcePeriod s) :=
  .ite (fun _ => .refl s) fun _ =>
    ((abides_retargetAll s).trans (.foldl abides_forceLoop _ _)).trans (abides_winterPeriod _)

theorem abides_generalEffects (n : Nat) (s : State) : Abides s (generalEffects n s) :=
  .ite (fun _ => abides_demandExpiry s) fun _ => .ite (fun _ => abides_cabLapse s) fun _ =>
    .ite (fun _ => abides_converterRetest s) fun _ => .ite (fun _ => abides_positionLapse s) fun _ =>
      .ite (fun _ => abides_newOutlook s) fun _ => .refl s

theorem abides_takeSet (n : Nat) (v : Int) (s : State) : Abides s (takeSet n v s) := by
  have written : Abides s (setWritten n v s) :=
    .ite (fun _ => (abides_withPst ..).trans (abides_withLsi ..)) fun _ => abides_withPst ..
  rw [takeSet_eq]
  exact .ite (fun _ => (written.trans (abides_applyChange ..)).trans (abides_generalEffects ..)) fun _ => written

/-! ### The load and the end of STARTING (R170, R174 to R179) -/

theorem abides_startBrk (s : State) (b : Brk) : Abides s (startBrk s b) :=
  .ite (fun _ => (abides_putBrk ..).trans (abides_offerBrk ..)) fun _ => abides_putBrk ..

theorem abides_startBlocks (s : State) : Abides s (startBlocks s) := by
  have drops : ∀ u, Abides u (offerDrops u) := fun u => .foldl (fun s c => abides_offerChan s _ c) _ u
  have channels : ∀ u, Abides u (startChannels u) := fun u =>
    ((Abides.foldl abides_initialState _ u).trans (abides_retargetAll _)).trans (abides_testAllStrips _)
  exact ((((abides_withPst ..).trans (abides_startBrk ..)).trans (abides_startBrk ..)).trans (drops _)).trans (channels _)

/-- STARTING ends in SAFE_HELD exactly where a record is corrupt by then (R170). -/
theorem abides_startEnds (s : State) : Abides s (startEnds s) :=
  .of_flt rfl fun _ _ => by
    have roof : (startEnds s).roofState = if anyCorrupt s.flt then .safeHeld else .ready := rfl
    rw [roof]
    split <;> simp_all

theorem abides_endStarting (s : State) : Abides s (endStarting s) := by
  rw [endStarting_eq]
  exact (abides_startBlocks s).trans (abides_startEnds _)

theorem abides_fallBack (s : State) (x : DefaultsReason) : Abides s (fallBack s x) :=
  (abides_withPst ..).trans (abides_endStarting _)

theorem abides_finishLoad (s : State) : Abides s (finishLoad s) := by
  have reverted : ∀ u g, Abides u (revertGroup u g) := fun u g => by
    unfold revertGroup
    split
    · exact .refl u
    · exact (abides_withPst ..).trans (abides_offerParam ..)
  exact (Abides.foldl reverted _ s).trans (abides_endStarting _)

theorem abides_advanceLoad (gs : List Segment) (s : State) : Abides s (advanceLoad s gs) := by
  induction gs generalizing s with
  | nil => exact abides_finishLoad s
  | cons g rest ih =>
    unfold advanceLoad
    split
    · exact ((abides_withPst ..).trans (abides_offerPlain ..)).trans (ih _)
    · exact abides_withPst ..

theorem abides_headerRead (r : ReadResult) (s : State) : Abides s (headerRead r s) := by
  have falls : ∀ k x, Abides s (fallBack (offerPlain s k) x) := fun _ _ => (abides_offerPlain ..).trans (abides_fallBack ..)
  refine .ite (fun _ => ?_) fun _ => .refl s
  split
  · exact .refl s
  · exact falls ..
  · exact .ite (fun _ => (abides_withPst ..).trans (abides_advanceLoad ..)) fun _ => falls ..

theorem abides_takeFixed (s : State) (bs : List Byte) : Abides s (takeFixed s bs) := by
  unfold takeFixed
  dsimp only
  split
  · exact abides_offer ..
  · exact .ite (fun _ => abides_offer ..) fun _ => .ite (fun _ => abides_offer ..) fun _ => abides_withSmp ..

theorem abides_takeSegment (g : Segment) (bs : List Byte) (s : State) : Abides s (takeSegment g bs s) :=
  .ite (fun _ => (abides_segmentMarked ..).trans (.foldl abides_takeFixed _ _)) fun _ =>
    ((abides_segmentMarked ..).trans (abides_takeRecords ..)).trans (abides_withPst ..)

theorem abides_segmentRead (r : ReadResult) (s : State) : Abides s (segmentRead r s) := by
  unfold segmentRead
  split
  · exact .ite (fun _ => (abides_takeSegment ..).trans (abides_advanceLoad ..)) fun _ => .refl s
  · exact (((abides_offerPlain ..).trans (abides_withPst ..)).trans (abides_withSmp ..)).trans (abides_fallBack ..)
  · exact .refl s
  · exact .refl s

/-! ### Resets (R169, R171, R187) -/

/-- A reset keeps the banks, and holds the part in STARTING. -/
theorem abides_holdReset (s : State) : Abides s (holdReset s.flt s) := .of_flt rfl fun _ run => absurd rfl run

/-- A power-on reset clears the banks too, to values that meet the laws. -/
theorem abides_powerOn (s : State) : Abides s (holdReset Flt.reset s) where
  counters _ := reset_countersHold
  safeHeld _ := ⟨(recordsHold_iff _).mpr reset_safeHeldLaw.records.bank, fun run => absurd rfl run⟩

theorem abides_releaseReset (straps : BitVec 5) (s : State) : Abides s (releaseReset straps s) := by
  have first : Abides s (releaseStart straps s) := .of_flt rfl fun _ run => absurd rfl run
  rw [releaseReset_eq]
  exact first.trans (.ite (fun _ => abides_withPst ..) fun _ => abides_fallBack ..)

theorem abides_softResetAct (straps : BitVec 5) (s : State) : Abides s (softResetAct straps s) :=
  .ite (fun _ => (abides_holdReset s).trans (abides_releaseReset ..)) fun _ => .refl s

end Sys2Proof.Machine
end

section
/-!
PROOFS. The requests, the link, every command and every step keep the laws of the threshold counters and of SAFE_HELD
(O51, O52).
-/

namespace Sys2Proof.Machine

/-- A request's own rule, where it decides between two answers. -/
theorem Abides.answerIte {s : State} {p : Prop} [Decidable p] {a b : State × Reply} (h : p → Abides s a.1)
    (g : ¬ p → Abides s b.1) : Abides s (if p then a else b).1 := by
  split
  · exact h ‹_›
  · exact g ‹_›

/-! ### The requests about the banks (R158, R159, R165 to R167) -/

theorem bank_recordCleared (s : State) (b d : BankId) : bank (recordCleared s b).flt d =
    if d = b then { bank s.flt b with record := none } else bank s.flt d := bank_putBank ..

/-- What a clear leaves corrupt was so before. -/
theorem anyCorrupt_of_recordCleared {s : State} {b : BankId} (h : anyCorrupt (recordCleared s b).flt = true) :
    anyCorrupt s.flt = true := by
  obtain ⟨d, corrupt⟩ := (anyCorrupt_iff _).mp h
  rw [bank_recordCleared] at corrupt
  split at corrupt
  · cases corrupt
  · exact anyCorrupt_of_bank corrupt

/-- SAFE_HELD is left with the last corrupt record (R167). -/
theorem SafeHeldLaw.cleared {s : State} (h : SafeHeldLaw s) (b : BankId) :
    SafeHeldLaw (leaveSafeHeld (recordCleared s b)) := by
  have records : RecordsHold (recordCleared s b) := (recordsHold_iff _).mpr fun d => by
    rw [bank_recordCleared]
    split
    · exact fun _ e => nomatch e
    · exact h.records.bank d
  by_cases leaves : s.roofState = .safeHeld ∧ anyCorrupt (recordCleared s b).flt = false
  · rw [leaveSafeHeld_leaves (s := recordCleared s b) leaves.1 leaves.2]
    exact ⟨(recordsHold_iff _).mpr records.bank, fun _ => by simp [leaves.2]⟩
  · rw [not_and_or, Bool.not_eq_false] at leaves
    rw [leaveSafeHeld_stays (s := recordCleared s b) leaves]
    refine ⟨records, fun run => ⟨fun held => leaves.resolve_left (not_not.mpr held), fun corrupt => ?_⟩⟩
    exact (h.law run).mpr (anyCorrupt_of_recordCleared corrupt)

theorem leaveSafeHeld_flt (s : State) : (leaveSafeHeld s).flt = s.flt := by
  unfold leaveSafeHeld
  split <;> rfl

theorem abides_faultClear (p : List Byte) (s : State) : Abides s (faultClear p s).1 := by
  have cleared : ∀ b, Abides s (leaveSafeHeld (recordCleared s b)) := fun b =>
    ⟨fun h d => by
      rw [leaveSafeHeld_flt, bank_recordCleared]
      split
      · exact h b
      · exact h d, fun h => h.cleared b⟩
  unfold faultClear
  split
  · exact .refl s
  · exact .answerIte (fun _ => .refl s) fun _ => cleared _

/-- A bank written beside its record, with a counter that meets its law. -/
theorem abides_putBank {s : State} {b : BankId} {r : Bank} (record : r.record = (bank s.flt b).record)
    (counter : CounterLaw r) : Abides s (s.withFlt (putBank s.flt b r)) := by
  have same : ∀ d, (bank (putBank s.flt b r) d).record = (bank s.flt d).record := fun d => by
    rw [bank_putBank]
    split
    · subst_vars; exact record
    · rfl
  refine ⟨fun h d => ?_, fun h => ⟨(recordsHold_iff _).mpr fun d x e => h.records.bank d x (same d ▸ e), fun run => ?_⟩⟩
  · rw [State.withFlt_flt, bank_putBank]
    split
    · exact counter
    · exact h d
  · refine (h.law run).trans ?_
    simp only [anyCorrupt_iff, bankCorrupt_eq, State.withFlt_flt, same]

/-- A threshold from 1 to 4095 starts the counter below its end, with the flag clear (R159). -/
theorem abides_thresholdSet (p : List Byte) (s : State) : Abides s (thresholdSet p s).1 := by
  unfold thresholdSet
  dsimp only
  split
  · exact .refl s
  · refine .answerIte (fun _ => .refl s) fun fits => abides_putBank rfl ⟨Nat.sub_le .., nofun, fun full => ?_⟩
    dsimp only at full
    omega

/-! ### The sense check (R16, R20) -/

/-- CHECK is entered from READY, where no record is corrupt. -/
theorem abides_enterCheck {s : State} (started : s.roofState ≠ .starting) (free : s.roofState ≠ .safeHeld) (x : Fin 4) :
    Abides s (enterCheck x s) := by
  rw [enterCheck_eq]
  exact .of_flt rfl fun law _ => iff_of_false nofun (mt (law.law started).mpr free)

theorem abides_senseCheckStart {st : Station} {s : State} (taken : refusal .senseCheckStart st s = none) (p : List Byte) :
    Abides s (senseCheckStart p s).1 := by
  have started : s.roofState ≠ .starting := (running_of_open taken nofun rfl).1
  refine .answerIte (fun _ => .refl s) fun _ => .answerIte (fun _ => .refl s) fun free =>
    .answerIte (fun _ => .refl s) fun _ => ?_
  split
  · exact abides_enterCheck started free _
  · exact .refl s

/-- CHECK is left with no record corrupt. -/
theorem abides_senseCheckEnd (s : State) : Abides s (senseCheckEnd s).1 :=
  .answerIte (fun check => .of_flt rfl fun law _ => by
    have running : s.roofState ≠ .starting := by rw [check]; nofun
    exact iff_of_false nofun (mt (law.law running).mpr (by rw [check]; nofun))) fun _ => .refl s

/-! ### The requests of the cab, of the breakers and of the map -/

theorem abides_setActive (s : State) (v : Option Vcu) : Abides s (setActive s v) := abides_withCau ..

theorem abides_cabTake (st : Station) (s : State) : Abides s (cabTake st s).1 := by
  unfold cabTake
  split
  · exact abides_setActive ..
  · exact .answerIte (fun _ => .refl s) fun _ => .refl s

theorem abides_cabPass (s : State) : Abides s (cabPass s).1 := by
  unfold cabPass
  split
  · exact (abides_setActive ..).trans (abides_withCau ..)
  · exact .refl s

theorem abides_refreshDemand (s : State) : Abides s (refreshDemand s) := by
  unfold refreshDemand
  split
  · exact abides_withCau ..
  · exact abides_withCau ..
  · exact .refl s

theorem abides_roofUpChoice (s : State) (t : Sys) (p : Option Chan) : Abides s (roofUpChoice s t p).1 := by
  have wished : ∀ q, Abides s (setPreferred (refreshDemand s) q) := fun q =>
    (abides_refreshDemand s).trans (.of_view rfl)
  refine .answerIte (fun _ => abides_refreshDemand s) fun _ => ?_
  split
  · exact .answerIte (fun _ => .refl s) fun _ => .answerIte (fun _ => .refl s) fun _ => .answerIte (fun _ => .refl s)
      fun _ => wished _
  · exact .answerIte (fun _ => .refl s) fun _ => wished _

theorem abides_roofUp (p : List Byte) (s : State) : Abides s (roofUp p s).1 := by
  refine .answerIte (fun _ => .refl s) fun _ => .answerIte (fun _ => .refl s) fun _ =>
    .answerIte (fun _ => .refl s) fun _ => ?_
  split
  · exact .refl s
  · exact .answerIte (fun _ => .refl s) fun _ => abides_roofUpChoice ..

theorem abides_selectSystem (st : Station) (t : Sys) (s : State) : Abides s (selectSystem st t s).1 := by
  have retargeted : ∀ q, Abides s (retargetSeq s q t) := fun q =>
    .ite (fun _ => (abides_putSeq ..).trans (abides_withChg ..)) fun _ => abides_putSeq ..
  unfold selectSystem
  split
  · exact .answerIte (fun _ => .refl s) fun _ => .answerIte (fun _ => retargeted _) fun _ => .refl s
  · exact .answerIte (fun _ => .refl s) fun _ => .answerIte (fun _ => abides_withChg ..) fun _ => abides_startSeq ..

theorem abides_systemSelect (st : Station) (p : List Byte) (s : State) : Abides s (systemSelect st p s).1 := by
  unfold systemSelect
  split
  · exact .refl s
  · exact .answerIte (fun _ => .refl s) fun _ => abides_selectSystem ..

theorem abides_breakerClose (st : Station) (s : State) : Abides s (breakerClose st s).1 := by
  refine .answerIte (fun _ => .refl s) fun _ => .answerIte (fun _ => .refl s) fun _ =>
    .answerIte (fun _ => .refl s) fun _ => ?_
  split
  · exact .refl s
  · refine .answerIte (fun _ => .refl s) fun _ => ?_
    split
    · exact .refl s
    · exact abides_startSeq ..

theorem abides_breakerOpen (st : Station) (s : State) : Abides s (breakerOpen st s).1 :=
  .answerIte (fun _ => .refl s) fun _ => (abides_abortSeq ..).trans (abides_startSeq ..)

theorem abides_table (s : State) (t : List Entry) : Abides s (newOutlook (s.withSmp { s.smp with table := t })) :=
  (abides_withSmp ..).trans (abides_newOutlook _)

theorem abides_sectionLoad (p : List Byte) (s : State) : Abides s (sectionLoad p s).1 := by
  refine .answerIte (fun _ => .refl s) fun _ => ?_
  split
  · exact .refl s
  · dsimp only
    split
    · exact .refl s
    · exact .answerIte (fun _ => .refl s) fun _ => abides_table ..

theorem abides_sectionClear (p : List Byte) (s : State) : Abides s (sectionClear p s).1 := by
  unfold sectionClear
  split
  · exact abides_table ..
  · exact .answerIte (fun _ => abides_table ..) fun _ => .refl s
  · exact .refl s

theorem abides_converterReport (p : List Byte) (s : State) : Abides s (converterReport p s).1 := by
  unfold converterReport
  split
  · exact abides_takeReport ..
  · exact .refl s

theorem abides_iceModeReq (p : List Byte) (s : State) : Abides s (iceModeReq p s).1 := by
  unfold iceModeReq
  split
  · exact .refl s
  · exact abides_withIce ..

theorem abides_parameterSet (p : List Byte) (s : State) : Abides s (parameterSet p s).1 :=
  .answerIte (fun _ => .refl s) fun _ => .answerIte (fun _ => .refl s) fun _ => .answerIte (fun _ => .refl s) fun _ =>
    .answerIte (fun _ => .refl s) fun _ => abides_takeSet ..

theorem abides_lockoutClear (p : List Byte) (s : State) : Abides s (lockoutClear p s).1 := by
  unfold lockoutClear
  split
  · exact .refl s
  · exact .answerIte (fun _ => .refl s) fun _ => .answerIte (fun _ => .refl s) fun _ =>
      .answerIte (fun _ => .refl s) fun _ => abides_putChan ..

/-! ### The requests of the Service Tool -/

theorem abides_outputTake (p : List Byte) (s : State) : Abides s (outputTake p s).1 := by
  refine .answerIte (fun _ => .refl s) fun _ => .answerIte (fun _ => .refl s) fun _ => ?_
  split
  · exact .refl s
  · refine .answerIte (fun _ => .refl s) fun _ => .answerIte (fun _ => .refl s) fun _ =>
      .answerIte (fun _ => .refl s) fun _ => ?_
    split
    · exact .refl s
    · exact abides_putOut ..

theorem abides_outputDrive (p : List Byte) (s : State) : Abides s (outputDrive p s).1 := by
  unfold outputDrive
  dsimp only
  split
  · exact .refl s
  · refine .answerIte (fun _ => .refl s) fun _ => .answerIte (fun _ => .refl s) fun _ =>
      .answerIte (fun _ => .refl s) fun _ => ?_
    split
    · exact .refl s
    · exact abides_putOut ..

theorem abides_outputReturn (p : List Byte) (s : State) : Abides s (outputReturn p s).1 := by
  refine .answerIte (fun _ => abides_returnAll s) fun _ => ?_
  split
  · exact .refl s
  · exact abides_putOut ..

/-! ### A request taken -/

theorem abides_requestRule {k : ReqKind} {src : Station} {s : State} (taken : refusal k src s = none) (p : List Byte) :
    Abides s (requestRule k src p s).1 := by
  have reads : k ∈ ([.statusRead, .sectionRead, .parameterRead, .faultRead] : List ReqKind) →
      Abides s (requestRule k src p s).1 := fun h => by
    rw [reads_change_nothing h]
    exact .refl s
  cases k with
  | statusRead => exact reads (by decide)
  | cabTake => exact abides_cabTake src s
  | cabRelease => exact abides_cabEnds ..
  | cabPass => exact abides_cabPass s
  | roofUp => exact abides_roofUp p s
  | roofDown => exact abides_roofDownRequest ..
  | systemSelect => exact abides_systemSelect src p s
  | breakerClose => exact abides_breakerClose src s
  | breakerOpen => exact abides_breakerOpen src s
  | position => exact .answerIte (fun _ => .refl s) fun _ => abides_takePosition ..
  | sectionLoad => exact abides_sectionLoad p s
  | sectionClear => exact abides_sectionClear p s
  | sectionRead => exact reads (by decide)
  | converterReport => exact abides_converterReport p s
  | iceMode => exact abides_iceModeReq p s
  | parameterSet => exact abides_parameterSet p s
  | parameterRead => exact reads (by decide)
  | faultRead => exact reads (by decide)
  | faultClear => exact abides_faultClear p s
  | thresholdSet => exact abides_thresholdSet p s
  | lockoutClear => exact abides_lockoutClear p s
  | outputTake => exact abides_outputTake p s
  | outputDrive => exact abides_outputDrive p s
  | outputReturn => exact abides_outputReturn p s
  | senseCheckStart => exact abides_senseCheckStart taken p
  | senseCheckEnd => exact abides_senseCheckEnd s
  | softReset => exact abides_withLnk ..

theorem abides_refreshActivity (src : Station) (s : State) : Abides s (refreshActivity src s) := by
  cases src <;> exact .of_view rfl

theorem abides_heard (src : Station) (s : State) : Abides s (heard src s) :=
  (abides_withLnk ..).trans (abides_refreshActivity ..)

theorem abides_takeRequest (k : ReqKind) (src : Station) (p : List Byte) (s : State) :
    Abides s (takeRequest k src p (requestRule k src p) s) := by
  rcases takeRequest_cases_of_open k src p (requestRule k src p) s with e | e | ⟨code, r, e, how⟩ <;> rw [e]
  · exact .refl s
  · exact abides_withLnk ..
  · refine Abides.trans (t := r.1) ?_ (abides_withLnk ..)
    rcases how with ⟨taken, rfl⟩ | how
    · exact (abides_heard src s).trans (abides_requestRule taken p)
    · exact how ▸ abides_heard src s

theorem abides_takeUnknownKind (src : Station) (x : Byte) (s : State) : Abides s (takeUnknownKind src x s) :=
  .ite (fun _ => .ite (fun _ => abides_withLnk ..) fun _ => (abides_heard src s).trans (abides_withLnk ..))
    fun _ => .refl s

/-! ### The link (R190 to R194) -/

theorem abides_discardFate {f : List Byte} {s t : State} (h : discardFate f s = some t) : Abides s t := by
  unfold discardFate at h
  split at h
  · cases h; exact abides_offerPlain ..
  · split at h
    · cases h; exact .refl s
    · split at h
      · cases h; exact abides_offer ..
      · split at h
        · cases h; exact (abides_refreshActivity ..).trans (abides_offerPlain ..)
        · cases h

theorem abides_frameFate (f : List Byte) (s : State) : Abides s (frameFate f s) := by
  unfold frameFate
  cases h : discardFate f s with
  | some t => exact abides_discardFate h
  | none =>
    unfold dispatchFrame
    rw [Option.getD_none]
    split
    · exact .refl s
    · split
      · rw [takeKind_eq]
        exact abides_takeRequest ..
      · exact abides_takeUnknownKind ..

theorem abides_breakFrame (x : Receiver) (s : State) : Abides s (breakFrame x s) :=
  (abides_withLnk ..).trans (abides_offerPlain ..)

theorem abides_receive (c : Byte) (stop : Bool) (s : State) : Abides s (receive c stop s) := by
  unfold receive
  split
  · exact .refl s
  · exact .ite (fun _ => abides_withLnk ..) fun _ => .refl s
  · exact .ite (fun _ => abides_breakFrame ..) fun _ =>
      .ite (fun _ => (abides_withLnk ..).trans (abides_frameFate ..)) fun _ => abides_withLnk ..

theorem abides_charArrives (c : Byte) (stop : Bool) (s : State) : Abides s (charArrives c stop s) :=
  .ite (fun _ => .refl s) fun _ => .ite (fun _ => abides_withLnk ..) fun _ =>
    (abides_withLnk ..).trans (abides_receive ..)

theorem abides_frameDiscarded (f : List Byte) (s : State) : Abides s (frameDiscarded f s) := by
  refine .ite (fun _ => .ite (fun _ => abides_withLnk ..) fun _ => ?_) fun _ => .refl s
  cases h : discardFate f (hearFrame s) with
  | none => exact .refl s
  | some t => exact (abides_withLnk ..).trans (abides_discardFate h)

theorem abides_answerSend (s : State) : Abides s (answerSend s) := by
  unfold answerSend
  split
  · exact abides_withLnk ..
  · exact .refl s

/-! ### The commands -/

variable {s t : State}

theorem abides_event {f : State → State} (h : Abides s (f s)) (e : event f s = .next t) : Abides s t := by
  obtain ⟨u, e', ⟨-, rfl⟩ | ⟨-, rfl⟩⟩ := event_next f s <;> rw [e'] at e <;> cases e
  · exact .refl _
  · exact h.trans (abides_settle s _)

theorem abides_inputEvent {f : State → State} (h : Abides s (f s)) (e : inputEvent f s = .next t) : Abides s t := by
  cases e
  exact h.trans (abides_settle s _)

theorem abides_resetRelease {straps : BitVec 5} (e : exec (.resetRelease straps) s = .next t) : Abides s t := by
  change (if s.held then .next (settle s (releaseReset straps s)) else .next s) = Host.Outcome.next t at e
  split at e
  · cases e
    exact (abides_releaseReset straps s).trans (abides_settle s _)
  · cases e
    exact .refl _

theorem abides_exec {c : Instr} (e : exec c s = .next t) : Abides s t := by
  have request : ∀ k src p, exec (requestCmd k src p) s = .next t → Abides s t := fun k src p e => by
    rw [exec_requestCmd] at e
    exact abides_event (abides_takeRequest k src p s) e
  have here : Abides s s := .refl s
  cases c with
  | statusRead src p => exact request .statusRead src p e
  | cabTake src p => exact request .cabTake src p e
  | cabRelease src p => exact request .cabRelease src p e
  | cabPass src p => exact request .cabPass src p e
  | roofUp src p => exact request .roofUp src p e
  | roofDown src p => exact request .roofDown src p e
  | systemSelect src p => exact request .systemSelect src p e
  | breakerClose src p => exact request .breakerClose src p e
  | breakerOpen src p => exact request .breakerOpen src p e
  | position src p => exact request .position src p e
  | sectionLoad src p => exact request .sectionLoad src p e
  | sectionClear src p => exact request .sectionClear src p e
  | sectionRead src p => exact request .sectionRead src p e
  | converterReport src p => exact request .converterReport src p e
  | iceMode src p => exact request .iceMode src p e
  | parameterSet src p => exact request .parameterSet src p e
  | parameterRead src p => exact request .parameterRead src p e
  | faultRead src p => exact request .faultRead src p e
  | faultClear src p => exact request .faultClear src p e
  | thresholdSet src p => exact request .thresholdSet src p e
  | lockoutClear src p => exact request .lockoutClear src p e
  | outputTake src p => exact request .outputTake src p e
  | outputDrive src p => exact request .outputDrive src p e
  | outputReturn src p => exact request .outputReturn src p e
  | senseCheckStart src p => exact request .senseCheckStart src p e
  | senseCheckEnd src p => exact request .senseCheckEnd src p e
  | softReset src p => exact request .softReset src p e
  | unknownKind src x => exact abides_event (abides_takeUnknownKind src x s) e
  | frameDiscarded f => exact abides_event (abides_frameDiscarded f s) e
  | frameFormatAbort x stop => exact abides_event (.ite (fun _ => abides_charArrives ..) fun _ => here) e
  | frameGapTimeout => exact abides_event (.ite (fun _ => abides_breakFrame ..) fun _ => here) e
  | silenceEnd => exact abides_event (.ite (fun _ => abides_withLnk ..) fun _ => here) e
  | answerSend => exact abides_event (abides_answerSend s) e
  | answerWithdrawn x => exact abides_event (.ite (fun _ => abides_charArrives ..) fun _ => here) e
  | softResetAction straps => exact abides_event (abides_softResetAct straps s) e
  | powerOnReset => cases e; exact abides_powerOn s
  | pinReset => cases e; exact abides_holdReset s
  | resetRelease straps => exact abides_resetRelease e
  | profileHeaderRead r => exact abides_event (abides_headerRead _ s) e
  | segmentRead a => exact abides_event (abides_segmentRead _ s) e
  | loadEepromNoAnswer => exact abides_event (abides_segmentRead _ s) e
  | winterReadEnd a => exact abides_event (abides_winterRead _ s) e
  | winterReadFail => exact abides_event (abides_winterRead _ s) e
  | windowPublication => exact abides_event (abides_publishWindow s) e
  | channelReading c h f x => exact abides_event (abides_takeReading c h f x s) e
  | ambientReading x => exact abides_event (abides_ambientReading x s) e
  | heightSensor c => exact abides_event (abides_heightSensor c s) e
  | headokLost c => exact abides_inputEvent (abides_headokLost c s) e
  | headokRestored c => exact abides_inputEvent (f := headokRestored c) (abides_putChan ..) e
  | raiseTimeout c => exact abides_event (abides_raiseTimeout c s) e
  | contactLoss c => exact abides_event (abides_contactLoss c s) e
  | lowerTimeout c => exact abides_event (abides_lowerTimeout c s) e
  | forceControlPeriod => exact abides_event (abides_forcePeriod s) e
  | valvePeriodBoundary => exact abides_event (f := (mapValves · atBoundary)) (.of_view rfl) e
  | heaterPeriodBoundary => exact abides_event (f := (mapZones · atBoundary)) (.of_view rfl) e
  | safePeriodEnd o => exact abides_event (abides_safePeriodEnd o s) e
  | serviceLapse => exact abides_event (abides_serviceLapse s) e
  | auxokLost => exact abides_inputEvent (abides_auxokLost s) e
  | auxokReturn => exact abides_inputEvent (abides_auxokReturn s) e
  | cabLapse => exact abides_event (abides_cabLapse s) e
  | demandExpiry => exact abides_event (abides_demandExpiry s) e
  | converterStale => exact abides_event (abides_converterStale s) e
  | odometerPulse => exact abides_event (abides_odometerPulse s) e
  | positionLapse => exact abides_event (abides_positionLapse s) e
  | breakerFeedbackChange b x => exact abides_inputEvent (abides_feedbackChange b x s) e
  | closeTimeExpiry b x => exact abides_event (abides_closeExpiry b x s) e
  | openTimeExpiry b x => exact abides_event (abides_openExpiry b x s) e
  | shedTimeout => exact abides_event (abides_shedExpiry s) e
  | deadRun => exact abides_event (abides_deadRunExpiry s) e
  | identifyTimeout => exact abides_event (abides_identifyExpiry s) e
  | converterTimeout => exact abides_event (abides_converterExpiry s) e
  | settleIntervalEnd => exact abides_event (.ite (fun _ => abides_withPst ..) fun _ => here) e
  | iceIndexUpdate => exact abides_event (abides_iceUpdate s) e
  | slotExpiry => exact abides_event (abides_slotExpiry s) e
  | roofVoltageSample x => exact abides_event (abides_takeSample _ s) e
  | characterReceived x => exact abides_event (abides_charArrives x true s) e
  | answerEnd => exact abides_event (.ite (fun _ => abides_withLnk ..) fun _ => here) e

/-! ### The steps -/

theorem abides_tickTime (s : State) : Abides s (tickTime s) :=
  .ite (fun _ => .of_view rfl) fun _ => .of_view rfl

theorem abides_step (e : step s = .next t) : Abides s t := by
  unfold step at e
  split at e
  · cases e
    exact .ite (fun _ => .refl s) fun _ => (abides_tickTime s).trans (abides_withPending ..)
  · exact (abides_withPending s _).trans (abides_exec e)

/-- Settles O51: an offer counts within the law of its bank's counter, and THRESHOLD SET and a reset write counters that
meet it (`abides_step`). -/
theorem countersStayInRange : Obligations.CountersStayInRange := fun _ _ holds e => (abides_step e).counters holds

/-- Settles O52: an offer enters SAFE_HELD as it makes a record corrupt, FAULT CLEAR leaves it with the last, and STARTING
ends by the records (`abides_step`). -/
theorem safeHeldFollowsRoofCorrupt : Obligations.SafeHeldFollowsRoofCorrupt := fun _ _ holds e =>
  (abides_step e).safeHeld holds

end Sys2Proof.Machine
end

section
/-!
PROOFS. The layers of a parameter (R180, R183).
-/

namespace Sys2Proof.Machine

/-! ### A layer read and written -/

theorem layerGet_layerSet_self (l : Layer) (n : Nat) (v : Int) : layerGet (layerSet l n v) n = some v := by
  induction l with
  | nil => simp [layerSet, layerGet]
  | cons x xs ih =>
    unfold layerSet
    split
    · simp [layerGet]
    · split
      · simp [layerGet]
      · rename_i other
        rw [layerGet, if_neg (Ne.symm other), ih]

/-- A value goes in before the first number above its own, so that the numbers stay rising. -/
theorem layerSet_rising {l : Layer} (n : Nat) (v : Int) (h : l.Pairwise fun a b => a.1 < b.1) :
    (layerSet l n v).Pairwise fun a b => a.1 < b.1 := by
  induction l with
  | nil => exact List.pairwise_singleton ..
  | cons x xs ih =>
    obtain ⟨above, rising⟩ := List.pairwise_cons.mp h
    unfold layerSet
    split
    · rename_i below
      refine List.pairwise_cons.mpr ⟨fun y hy => ?_, h⟩
      rcases List.mem_cons.mp hy with rfl | hy
      · exact below
      · exact below.trans (above y hy)
    · rename_i reached
      split
      · rename_i same
        exact List.pairwise_cons.mpr ⟨fun y hy => same ▸ above y hy, rising⟩
      · rename_i other
        refine List.pairwise_cons.mpr ⟨fun y hy => ?_, ih rising⟩
        rcases mem_layerSet hy with rfl | hy
        · exact lt_of_le_of_ne (not_lt.mp reached) (Ne.symm other)
        · exact above y hy

/-! ### The effective value -/

section Effective
variable {p : Pst} {n : Nat}

theorem winterValue_inForce (h : p.winterState = .active ∨ p.winterState = .ending) :
    winterValue p n = layerGet p.winter n := by
  rcases h with h | h <;> simp [winterValue, winterInForce, h]

theorem winterValue_none (h : (p.winterState ≠ .active ∧ p.winterState ≠ .ending) ∨ layerGet p.winter n = none) :
    winterValue p n = none := by
  rcases h with ⟨active, ending⟩ | h
  · simp [winterValue, winterInForce, active, ending]
  · simp [winterValue, h]

/-- The layers of a live store in their order (R180). -/
theorem pstEff_of_live (live : p.live = true) :
    pstEff p n = firstPresent [winterValue p n, layerGet p.link n, layerGet p.profile n] n := if_pos live

end Effective

/-- Settles O20: the first present of the layers in their order, and the layer written by induction over its values. -/
theorem effectiveValueIsTheUppermostLayer : Obligations.EffectiveValueIsTheUppermostLayer := by
  refine ⟨fun p n live => ⟨fun v inForce value => ?_, fun out => ⟨fun v link => ?_, fun link =>
    ⟨fun v profile => ?_, fun profile => ?_⟩⟩⟩, fun l n m v rising => ⟨layerSet_rising n v rising, ?_⟩⟩
  · rw [pstEff_of_live live, winterValue_inForce inForce, value, firstPresent]
  · rw [pstEff_of_live live, winterValue_none out, link, firstPresent, firstPresent]
  · rw [pstEff_of_live live, winterValue_none out, link, profile, firstPresent, firstPresent, firstPresent]
  · rw [pstEff_of_live live, winterValue_none out, link, profile]
    rfl
  · split
    · rename_i same
      rw [same, layerGet_layerSet_self]
    · rename_i other
      exact layerGet_layerSet_other l v other

end Sys2Proof.Machine
end

section
/-!
PROOFS. The reads of the profile load and of the winter overlay (R174 to R177, R185, R197).
-/

namespace Sys2Proof.Machine

/-! ### The end of STARTING, as the load reaches it (R174, R177, R179) -/

section Started
variable (b s : State) (r : DefaultsReason)

theorem settle_pst : (settle b s).pst = s.pst := kept_pst (calm_kept (calm_settle b s))
theorem settle_now : (settle b s).now = s.now := kept_now (calm_kept (calm_settle b s))
theorem settle_table : (settle b s).smp.table = s.smp.table := kept_table (calm_kept (calm_settle b s))

theorem fallBack_pst : (fallBack s r).pst =
    { s.pst with fromEeprom := false, reason := some r, live := true, load := .idle } := by
  obtain ⟨loaded, -⟩ := startBlocks_frame (s.withPst { s.pst with fromEeprom := false, reason := some r })
  rw [fallBack, endStarting_eq, (startEnds_frame _).1, loaded]
  rfl

theorem fallBack_held : (fallBack s r).held = s.held := endStarting_held _

theorem fallBack_now : (fallBack s r).now = s.now := by
  obtain ⟨-, -, now, -⟩ := startBlocks_frame (s.withPst { s.pst with fromEeprom := false, reason := some r })
  obtain ⟨-, -, now', -⟩ := startEnds_frame
    (startBlocks (s.withPst { s.pst with fromEeprom := false, reason := some r }))
  rw [fallBack, endStarting_eq, now', now]
  rfl

theorem fallBack_table : (fallBack s r).smp.table = s.smp.table := by
  obtain ⟨-, -, -, table, -⟩ := startBlocks_frame (s.withPst { s.pst with fromEeprom := false, reason := some r })
  obtain ⟨-, -, -, -, smp, -⟩ := startEnds_frame
    (startBlocks (s.withPst { s.pst with fromEeprom := false, reason := some r }))
  rw [fallBack, endStarting_eq, smp, table]
  rfl

end Started

/-! ### The reads as commands (R174 to R177, R185, R197) -/

section Reads
variable {s : State}

theorem exec_profileHeaderRead (x : HeaderRead) (held : s.held = false) :
    exec (.profileHeaderRead x) s = .next (settle s (headerRead (headerResult x) s)) := event_live held

theorem exec_segmentRead (a : Attempts) (held : s.held = false) :
    exec (.segmentRead a) s = .next (settle s (segmentRead (eepromRead a) s)) := event_live held

theorem exec_loadEepromNoAnswer (held : s.held = false) :
    exec .loadEepromNoAnswer s = .next (settle s (segmentRead .noAnswer s)) := event_live held

theorem exec_winterReadEnd (a : Attempts) (held : s.held = false) :
    exec (.winterReadEnd a) s = .next (settle s (winterRead (eepromRead a) s)) := event_live held

theorem exec_winterReadFail (held : s.held = false) :
    exec .winterReadFail s = .next (settle s (winterReadFail s)) := event_live held

/-- A read that goes on is no event of its block. -/
theorem headerRead_goesOn (s : State) : headerRead .goesOn s = s := by
  unfold headerRead
  split <;> rfl

theorem segmentRead_goesOn (s : State) : segmentRead .goesOn s = s := by
  unfold segmentRead
  cases loading s <;> rfl

section Header
variable (start : s.roofState = .starting) (load : s.pst.load = .header)
include start load

theorem headerRead_noAnswer :
    headerRead .noAnswer s = fallBack (offer s ⟨.eepromNoAnswer, none, false⟩) .noAnswer := if_pos ⟨start, load⟩

theorem headerRead_missing {bs : List Byte} (bad : headerOk bs = false) :
    headerRead (.gave bs) s = fallBack (offer s ⟨.headerMissing, none, false⟩) .header :=
  (if_pos ⟨start, load⟩).trans (if_neg (by rw [bad]; nofun))

theorem headerRead_taken {bs : List Byte} (good : headerOk bs = true) :
    headerRead (.gave bs) s = advanceLoad
      (s.withPst { s.pst with fromEeprom := true, descriptors := readDescriptors bs })
      [.common, variantSeg (s.pst.straps.toNat / 4 % 4), .system, .sections, .ice] :=
  (if_pos ⟨start, load⟩).trans (if_pos good)

end Header

section Segment
variable {g : Segment} {rest : List Segment} (start : s.roofState = .starting) (load : s.pst.load = .segment g rest)
include start load

theorem loading_segment : loading s = some (g, rest) := by
  rw [loading, if_pos start, load]

theorem segmentRead_gave {bs : List Byte}
    (whole : bs.length = (descriptor s.pst g).last + 1 - (descriptor s.pst g).first) :
    segmentRead (.gave bs) s = advanceLoad (takeSegment g bs s) rest := by
  unfold segmentRead
  rw [loading_segment start load]
  exact if_pos whole

theorem segmentRead_noAnswer : segmentRead .noAnswer s = loadNoAnswer s := by
  unfold segmentRead
  rw [loading_segment start load]

end Segment

/-- An EEPROM that stops answering: the offer leaves the store and the table, and the fallback ends STARTING (R177). -/
theorem loadNoAnswer_pst (s : State) : (loadNoAnswer s).pst = { s.pst with
    profile := [], segs := List.replicate 9 .notRead, reverted := [], fromEeprom := false, reason := some .noAnswer
    live := true, load := .idle } := by
  unfold loadNoAnswer
  rw [fallBack_pst, State.withSmp_pst, State.withPst_pst, offerPlain, offer_pst]

theorem loadNoAnswer_table (s : State) :
    (loadNoAnswer s).smp.table = s.smp.table.filter fun e => !e.isFixed := by
  unfold loadNoAnswer
  rw [fallBack_table, State.withSmp_smp, State.withPst_smp, kept_table (kept_offerPlain s _)]

section Winter
variable {bs : List Byte}

theorem winterReadEnd_reading
    (whole : bs.length = (descriptor s.pst .winter).last + 1 - (descriptor s.pst .winter).first)
    (reading : s.pst.winterState = .reading) : winterReadEnd bs s =
      (winterTake bs s).1.withPst
        { (winterTake bs s).1.pst with winterHeld := (winterTake bs s).2, winterState := .pending } := by
  unfold winterReadEnd
  rw [reading]
  exact if_pos whole

theorem winterReadEnd_cancelled
    (whole : bs.length = (descriptor s.pst .winter).last + 1 - (descriptor s.pst .winter).first)
    (cancelled : s.pst.winterState = .cancelled) : winterReadEnd bs s =
      (winterTake bs s).1.withPst { (winterTake bs s).1.pst with winterState := .off } := by
  unfold winterReadEnd
  rw [cancelled]
  exact if_pos whole

theorem winterReadFail_reading (reading : s.pst.winterState = .reading) : winterReadFail s =
    offer (s.withPst { s.pst with winterState := .off }) ⟨.winterUnread, none, false⟩ := by
  unfold winterReadFail
  rw [reading]
  rfl

theorem winterReadFail_cancelled (cancelled : s.pst.winterState = .cancelled) :
    winterReadFail s = s.withPst { s.pst with winterState := .off } := by
  unfold winterReadFail
  rw [cancelled]

end Winter

end Reads

/-- Settles O31: each command is the event of its read, and the read is what its bus and its attempts come to. -/
theorem profileAndWinterReads : Obligations.ProfileAndWinterReads := by
  unfold Obligations.ProfileAndWinterReads
  dsimp only
  refine ⟨fun s held start => ⟨fun load => ⟨fun sda a fails => ?_, fun sda a bs freed gives => ⟨fun bad => ?_,
      fun good => ?_⟩⟩, fun g rest load => ⟨fun a bs gives whole => ?_, fun a fails => ?_, ?_⟩⟩,
    fun s held => ⟨fun a bs gives whole => ⟨fun reading => ?_, fun cancelled => ?_⟩, fun a fails => ?_,
      fun reading => ?_, fun cancelled => ?_⟩,
    fun n s held few => ⟨?_, ?_, fun m sda pulses freed => ⟨?_, ?_⟩⟩⟩
  · have result : headerResult ⟨sda, a⟩ = .noAnswer := by
      rcases fails with stuck | ⟨freed, fails⟩
      · exact headerResult_stuck stuck a
      · rw [headerResult_freed freed, eepromRead_noAnswer fails]
    rw [exec_profileHeaderRead _ held, result, headerRead_noAnswer start load]
  · rw [exec_profileHeaderRead _ held, headerResult_freed freed, eepromRead_gave gives,
      headerRead_missing start load bad]
  · rw [exec_profileHeaderRead _ held, headerResult_freed freed, eepromRead_gave gives,
      headerRead_taken start load good]
  · rw [exec_segmentRead _ held, eepromRead_gave gives, segmentRead_gave start load whole]
  · rw [exec_segmentRead _ held, eepromRead_noAnswer fails, exec_loadEepromNoAnswer held]
  · refine ⟨_, (exec_loadEepromNoAnswer held).trans (by rw [segmentRead_noAnswer start load]), ?_⟩
    rw [settle_pst, settle_table, loadNoAnswer_pst, loadNoAnswer_table]
    exact ⟨rfl, rfl, rfl, rfl, rfl, rfl, rfl⟩
  · rw [exec_winterReadEnd _ held, eepromRead_gave gives, winterRead, winterReadEnd_reading whole reading]
  · rw [exec_winterReadEnd _ held, eepromRead_gave gives, winterRead, winterReadEnd_cancelled whole cancelled]
  · rw [exec_winterReadEnd _ held, eepromRead_noAnswer fails, exec_winterReadFail held, winterRead]
  · rw [exec_winterReadFail held, winterReadFail_reading reading]
  · rw [exec_winterReadFail held, winterReadFail_cancelled cancelled]
  · rw [exec_segmentRead _ held, eepromRead_goesOn few, segmentRead_goesOn]
  · rw [exec_winterReadEnd _ held, eepromRead_goesOn few, winterRead]
  · rw [exec_profileHeaderRead _ held, headerResult_pulsing pulses, headerRead_goesOn]
  · rw [exec_profileHeaderRead _ held, headerResult_freed freed, eepromRead_goesOn few, headerRead_goesOn]

end Sys2Proof.Machine
end

section
/-!
PROOFS. The release of a reset (R171, R172, R174) and the soft reset (R187): the load begun, or the defaults at once.
-/

namespace Sys2Proof.Machine

/-! ### The end of an event and the records -/

/-- A correctable fault of a kind that is not marked makes no record corrupt, and clears none (R155). -/
theorem bankCorrupt_bankOffer_of_minor {k : FaultKind} (minor : kindUncorrected k = false) (plain : kindCorrupt k = false)
    (b : Bank) (x : Option Ctx) (t : BitVec 32) (p : Option Nat) : bankCorrupt (bankOffer b k x t p) = bankCorrupt b := by
  rw [bankCorrupt_eq, bankCorrupt_eq, bankOffer_record]
  split
  · cases e : b.record <;> simp [logRecord, e, minor, plain, writeRecord]
  · rfl

theorem anyCorrupt_logOffer_of_minor {k : FaultKind} (minor : kindUncorrected k = false) (plain : kindCorrupt k = false)
    (s : State) (x : Option Ctx) : anyCorrupt (logOffer s k x).flt = anyCorrupt s.flt := by
  have same : ∀ b, bankCorrupt (bank (logOffer s k x).flt b) = bankCorrupt (bank s.flt b) := fun b => by
    rw [bank_logOffer]
    split
    · subst_vars
      exact bankCorrupt_bankOffer_of_minor minor plain ..
    · rfl
  simp only [anyCorrupt, same]

/-- The only offer of a recompute is SECTION_CONFLICT (R101). -/
theorem recompute_anyCorrupt (s : State) : anyCorrupt (recompute s).flt = anyCorrupt s.flt := by
  unfold recompute
  dsimp only
  split
  · exact anyCorrupt_logOffer_of_minor rfl rfl _ _
  · rfl

theorem openingEnds_anyCorrupt (s : State) (q : Sequence) : anyCorrupt (openingEnds s q).flt = anyCorrupt s.flt := by
  unfold openingEnds forceChanged
  dsimp only
  split
  · split
    · exact recompute_anyCorrupt _
    · rfl
  · rfl

theorem leaveStage_anyCorrupt (s : State) (q : Sequence) : anyCorrupt (leaveStage s q).flt = anyCorrupt s.flt := by
  unfold leaveStage
  dsimp only
  split
  · rw [enterStage_flt, openingEnds_anyCorrupt]
  · rw [endSeq_flt, openingEnds_anyCorrupt]

theorem stageStep_anyCorrupt {s t : State} (h : stageStep s = some t) : anyCorrupt t.flt = anyCorrupt s.flt := by
  unfold stageStep at h
  split at h
  · cases h
  · split at h
    · cases h; exact leaveStage_anyCorrupt ..
    · cases h; rw [enterStage_flt]
    · cases h; rw [endSeq_flt]
    · split at h
      · cases h; exact leaveStage_anyCorrupt ..
      · cases h

theorem progressFuel_anyCorrupt (n : Nat) (s : State) : anyCorrupt (progressFuel n s).flt = anyCorrupt s.flt := by
  induction n generalizing s with
  | zero => rfl
  | succ n ih =>
    unfold progressFuel
    split
    · rw [ih, stageStep_anyCorrupt ‹_›]
    · rfl

/-- Of the end of an event only the passing of stages can offer, and what it offers leaves roof_corrupt as it is. -/
theorem settle_anyCorrupt (b s : State) : anyCorrupt (settle b s).flt = anyCorrupt s.flt := by
  unfold settle
  split
  · rfl
  · rw [heaterTest_flt, scraperRaise_flt, scraperTest_flt, collectorRaise_flt, dropScraper_flt]
    exact progressFuel_anyCorrupt _ _

/-! ### The release -/

theorem startEnds_roofState (s : State) : (startEnds s).roofState =
    if anyCorrupt (startEnds s).flt = true then .safeHeld else .ready := rfl

theorem fallBack_roofState (s : State) (r : DefaultsReason) : (fallBack s r).roofState =
    if anyCorrupt (fallBack s r).flt = true then .safeHeld else .ready := by
  rw [fallBack, endStarting_eq]
  exact startEnds_roofState _

/-- STRAP4 as it is sampled at the release (R172). -/
theorem strapEeprom_releaseStart (straps : BitVec 5) (s : State) :
    strapEeprom (releaseStart straps s).pst = straps.getLsbD 4 := by
  rw [BitVec.getLsbD, Nat.testBit_eq_decide_div_mod_eq]
  exact beq_eq_decide _ _

/-- The state that waits for the header of the profile (R171, R172, R174). -/
def headerAwaited (straps : BitVec 5) (s : State) : State :=
  (((s.withHeld false).withNow 0).withRoof .starting).withPst { Pst.reset straps with load := .header }

theorem releaseReset_loads {straps : BitVec 5} (eeprom : straps.getLsbD 4 = true) (s : State) :
    releaseReset straps s = headerAwaited straps s := by
  rw [releaseReset_eq, if_pos ((strapEeprom_releaseStart straps s).trans eeprom)]
  rfl

theorem releaseReset_defaults {straps : BitVec 5} (plain : straps.getLsbD 4 = false) (s : State) :
    releaseReset straps s = fallBack (releaseStart straps s) .strap := by
  rw [releaseReset_eq, if_neg (by rw [strapEeprom_releaseStart, plain]; nofun)]

/-- While the header is awaited nothing follows the release: STARTING goes on (R174). -/
theorem settle_release_loads {straps : BitVec 5} (eeprom : straps.getLsbD 4 = true) (b s : State) :
    settle b (releaseReset straps s) = headerAwaited straps s := by
  rw [releaseReset_loads eeprom]
  exact settle_starting _ _ rfl

/-- The profile store with the defaults in force, at the strap's word (R174). -/
structure DefaultsByStrap (straps : BitVec 5) (t : State) : Prop where
  held : t.held = false
  now : t.now = 0
  pst : t.pst = { Pst.reset straps with
    fromEeprom := false, reason := some .strap, live := true, load := .idle }
  roof : t.roofState = if anyCorrupt t.flt = true then .safeHeld else .ready

theorem DefaultsByStrap.values {straps : BitVec 5} {t : State} (h : DefaultsByStrap straps t) :
    t.held = false ∧ t.now = 0 ∧ t.pst.straps = straps ∧ t.pst.live = true ∧ t.pst.fromEeprom = false ∧
      t.pst.reason = some .strap ∧ t.pst.load = .idle ∧ t.pst.profile = [] ∧
      t.roofState = if anyCorrupt t.flt = true then .safeHeld else .ready := by
  obtain ⟨held, now, pst, roof⟩ := h
  rw [pst]
  exact ⟨held, now, rfl, rfl, rfl, rfl, rfl, rfl, roof⟩

theorem settle_release_defaults {straps : BitVec 5} (plain : straps.getLsbD 4 = false) (b s : State) :
    DefaultsByStrap straps (settle b (releaseReset straps s)) := by
  rw [releaseReset_defaults plain]
  refine ⟨?_, ?_, ?_, ?_⟩
  · rw [settle_keeps_held, fallBack_held]
    rfl
  · rw [settle_now, fallBack_now]
    rfl
  · rw [settle_pst, fallBack_pst]
    rfl
  · rw [calm_roofState (calm_settle ..), settle_anyCorrupt, fallBack_roofState]

theorem exec_resetRelease_held (straps : BitVec 5) {s : State} (held : s.held = true) :
    exec (.resetRelease straps) s = .next (settle s (releaseReset straps s)) := if_pos held

theorem exec_resetRelease_live (straps : BitVec 5) {s : State} (live : s.held = false) :
    exec (.resetRelease straps) s = .next s := if_neg (by rw [live]; nofun)

/-- A soft reset that is due: the pin reset's state, released at once (R187). -/
theorem exec_softResetAction_due (straps : BitVec 5) {s : State} (live : s.held = false) (due : s.lnk.soft = .due) :
    exec (.softResetAction straps) s = .next (settle s (releaseReset straps (holdReset s.flt s))) :=
  (event_live live).trans (by rw [softResetAct, if_pos due])

/-- Settles O29: by STRAP4 the release loads or falls back, and a soft reset is a release of the held state. -/
theorem releaseBeginsTheLoad : Obligations.ReleaseBeginsTheLoad := by
  intro straps s
  dsimp only
  refine ⟨fun held eeprom => ?_, fun held plain => ?_, exec_resetRelease_live straps, fun live due eeprom => ?_,
    fun live due plain => ?_⟩
  · rw [exec_resetRelease_held straps held, settle_release_loads eeprom, headerAwaited]
  · rw [exec_resetRelease_held straps held]
    exact ⟨_, rfl, (settle_release_defaults plain _ _).values⟩
  · rw [exec_softResetAction_due straps live due, settle_release_loads eeprom, headerAwaited]
  · rw [exec_softResetAction_due straps live due]
    exact ⟨_, rfl, (settle_release_defaults plain _ _).values⟩

end Sys2Proof.Machine
end

section
/-!
PROOFS. SOFT RESET, unknown kinds and frames that are not heard (R187, R190, R192, R194); the receiver (R190) and the answers
(R193, R194, R187).
-/

namespace Sys2Proof.Machine

variable {s : State} {c : Byte}

/-! ### Frames heard, and frames that are not (R190, R194) -/

/-- A frame that withdraws the answer of a SOFT RESET makes it due (R194). -/
theorem hearFrame_soft_due (asked : s.lnk.soft = .answering) (waits : s.lnk.waiting.isSome = true) :
    (hearFrame s).lnk.soft = .due := if_pos ⟨waits, asked⟩

theorem hears_of_answering (held : s.held = false) (sending : s.lnk.sending = none)
    (past : s.lnk.receiver ≠ .silenceWait) (asked : s.lnk.soft = .answering) : hears s = true := by
  simp [hears, held, sending, past, asked]

/-- Nothing is heard while an answer is sent, in SILENCE_WAIT, or with a soft reset due (R190, R198). -/
theorem hears_false (deaf : s.lnk.sending.isSome = true ∨ s.lnk.receiver = .silenceWait ∨ s.lnk.soft = .due) :
    hears s = false := by
  rcases deaf with h | h | h
  · obtain ⟨a, sent⟩ := Option.isSome_iff_exists.mp h
    simp [hears, sent]
  · simp [hears, h]
  · simp [hears, h]

theorem takeRequest_unheard (k : ReqKind) (src : Station) (p : List Byte) (body : State → State × Reply)
    (deaf : hears s = false) : takeRequest k src p body s = s := if_neg (by rw [deaf]; nofun)

theorem takeRequest_lost (k : ReqKind) (src : Station) (p : List Byte) (body : State → State × Reply)
    (hearing : hears s = true) (due : (hearFrame s).lnk.soft = .due) : takeRequest k src p body s = hearFrame s :=
  (if_pos hearing).trans (if_pos due)

/-- A kind code that names no request is answered RANGE and only heard (R192). -/
theorem takeUnknownKind_heard (src : Station) {kind : Byte} (h : Listening s) (unknown : unknownCode kind = true) :
    takeUnknownKind src kind s = replied src kind.toNat [0x08#8] (heard src s) := by
  have code : kind + 0x80#8 = BitVec.ofNat 8 (kind.toNat + 0x80) := by
    rw [BitVec.ofNat_add, BitVec.ofNat_toNat, BitVec.setWidth_eq]
  have soft : ¬ (hearFrame s).lnk.soft = .due := by rw [soft_of_listening h]; nofun
  unfold takeUnknownKind
  rw [hears_of_listening h, unknown, replied, ← code]
  exact if_neg soft

/-- Settles O24: SOFT RESET's own rule, the unknown codes, and the two ways in which a request is not taken. -/
theorem softResetAndUnheardRequests : Obligations.SoftResetAndUnheardRequests := by
  refine ⟨fun s h => exec_accepted_of_rule (k := .softReset) h rfl _ .done [] rfl, fun src kind s h unknown => ?_,
    fun k src p s held sending past asked waits => ?_, fun k src p s held deaf => ?_⟩
  · exact (event_live h.held).trans (by rw [takeUnknownKind_heard src h unknown])
  · have due := hearFrame_soft_due asked waits
    rw [exec_requestCmd, event_live held, takeRequest_lost k src p _ (hears_of_answering held sending past asked) due]
    exact ⟨rfl, due⟩
  · rw [exec_requestCmd, event_live held, takeRequest_unheard k src p _ (hears_false deaf)]

/-! ### The receiver (R190) -/

/-- The link after a character that has changed the receiver, and nothing else but the time of silence. -/
def lineAt (s : State) (r : Receiver) (buf : List Byte) : State :=
  s.withLnk { s.lnk with receiver := r, buffer := buf, quietMs := 0 }

/-- While no answer waits or is sent, and no soft reset is due, a character goes to the receiver. -/
theorem charArrives_quiet (stop : Bool) (sending : s.lnk.sending = none) (waiting : s.lnk.waiting = none)
    (soft : s.lnk.soft ≠ .due) :
    charArrives c stop s = receive c stop (lineAt s s.lnk.receiver s.lnk.buffer) := by
  have kept : softWithdrawn s.lnk = s.lnk.soft := by simp [softWithdrawn, waiting]
  unfold charArrives lineAt
  rw [if_neg (by simp [sending, soft]), kept, ← waiting]
  exact if_neg soft

theorem receive_silenceWait (stop : Bool) (buf : List Byte) :
    receive c stop (lineAt s .silenceWait buf) = lineAt s .silenceWait buf := rfl

theorem receive_marker (buf : List Byte) :
    receive 0xC5#8 true (lineAt s .idle buf) = lineAt s .receiving [] := rfl

theorem receive_idle (stop : Bool) (buf : List Byte) (other : c ≠ 0xC5#8) :
    receive c stop (lineAt s .idle buf) = lineAt s .idle buf := if_neg fun h => other h.1

theorem receive_breaks {stop : Bool} {buf : List Byte} (breaks : breaksFrame buf c stop = true) :
    receive c stop (lineAt s .receiving buf) = offer (lineAt s .silenceWait []) ⟨.frameFormat, none, false⟩ :=
  if_pos breaks

theorem receive_gathers {buf : List Byte} (fits : breaksFrame buf c true = false)
    (short : bufferComplete (buf ++ [c]) = false) :
    receive c true (lineAt s .receiving buf) = lineAt s .receiving (buf ++ [c]) :=
  (if_neg (by simp [lineAt, fits])).trans (if_neg (by simp [lineAt, short]))

theorem receive_completes {buf : List Byte} (fits : breaksFrame buf c true = false)
    (whole : bufferComplete (buf ++ [c]) = true) :
    receive c true (lineAt s .receiving buf) = frameFate (buf ++ [c]) (lineAt s .idle []) :=
  (if_neg (by simp [lineAt, fits])).trans (if_pos whole)

/-- A length above 48 breaks the frame, and with its stop bit nothing else does. -/
theorem breaksFrame_stopped (buf : List Byte) : breaksFrame buf c true = true ↔ buf.length = 3 ∧ 48 < c.toNat := by
  simp [breaksFrame]

theorem frameFormatAbort_receiving {stop : Bool} (receiving : s.lnk.receiver = .receiving)
    (breaks : breaksFrame s.lnk.buffer c stop = true) : frameFormatAbort c stop s = charArrives c stop s :=
  if_pos ⟨receiving, breaks⟩

theorem frameGap_receiving (receiving : s.lnk.receiver = .receiving) :
    frameGap s = offer (lineAt s .idle []) ⟨.frameFormat, none, false⟩ := if_pos receiving

theorem silenceEnd_waiting (waits : s.lnk.receiver = .silenceWait) :
    silenceEnd s = s.withLnk { s.lnk with receiver := .idle } := if_pos waits

theorem exec_characterReceived (c : Byte) (held : s.held = false) :
    exec (.characterReceived c) s = .next (settle s (charArrives c true s)) := event_live held

theorem exec_frameFormatAbort (c : Byte) (stop : Bool) (held : s.held = false) :
    exec (.frameFormatAbort c stop) s = .next (settle s (frameFormatAbort c stop s)) := event_live held

section Quiet
variable (held : s.held = false) (sending : s.lnk.sending = none) (waiting : s.lnk.waiting = none)
  (soft : s.lnk.soft ≠ .due)
include held sending waiting soft

theorem exec_characterReceived_quiet {u : State} (h : receive c true (lineAt s s.lnk.receiver s.lnk.buffer) = u) :
    exec (.characterReceived c) s = .next (settle s u) := by
  rw [exec_characterReceived c held, charArrives_quiet true sending waiting soft, h]

/-- A character that breaks the frame being received, with its stop bit or without. -/
theorem exec_frameFormatAbort_quiet (stop : Bool) (receiving : s.lnk.receiver = .receiving)
    (breaks : breaksFrame s.lnk.buffer c stop = true) : exec (.frameFormatAbort c stop) s =
      .next (settle s (offer (lineAt s .silenceWait []) ⟨.frameFormat, none, false⟩)) := by
  rw [exec_frameFormatAbort c stop held, frameFormatAbort_receiving receiving breaks,
    charArrives_quiet stop sending waiting soft, receiving, receive_breaks breaks]

end Quiet

/-! ### Answers (R193, R194, R187) -/

theorem answerSend_waiting {a : Answer} (waits : s.lnk.waiting = some a) (free : s.lnk.sending = none) :
    answerSend s = s.withLnk { s.lnk with waiting := none, sending := some a, quietMs := 0 } := by
  unfold answerSend
  rw [waits, free]

theorem answerEnd_sending {a : Answer} (sent : s.lnk.sending = some a) :
    answerEnd s = s.withLnk { s.lnk with
      sending := none, receiver := .idle, buffer := [], quietMs := 0
      soft := if s.lnk.soft = .answering then .due else s.lnk.soft } := if_pos (by rw [sent]; rfl)

/-- The sender does not hear the line (R190). -/
theorem charArrives_sending {a : Answer} (stop : Bool) (sent : s.lnk.sending = some a) : charArrives c stop s = s :=
  if_pos (.inl (by rw [sent]; rfl))

theorem exec_answerWithdrawn (c : Byte) (held : s.held = false) :
    exec (.answerWithdrawn c) s = .next (settle s (answerWithdrawn c s)) := event_live held

theorem answerWithdrawn_waiting {a : Answer} (waits : s.lnk.waiting = some a) :
    answerWithdrawn c s = charArrives c true s := if_pos (by rw [waits]; rfl)

/-- The answer of a SOFT RESET is withdrawn: the reset is due, and the character is lost (R194). -/
theorem charArrives_answering {a : Answer} (stop : Bool) (waits : s.lnk.waiting = some a) (free : s.lnk.sending = none)
    (asked : s.lnk.soft = .answering) :
    charArrives c stop s = s.withLnk { s.lnk with waiting := none, soft := .due, quietMs := 0 } := by
  have due : softWithdrawn s.lnk = .due := by simp [softWithdrawn, waits, asked]
  unfold charArrives
  rw [if_neg (by simp [free, asked]), due]
  rfl

/-- Any other answer is withdrawn, and the receiver takes the character (R194). -/
theorem charArrives_withdraws (stop : Bool) (free : s.lnk.sending = none) (plain : s.lnk.soft = .none) :
    charArrives c stop s = receive c stop (s.withLnk { s.lnk with waiting := none, quietMs := 0 }) := by
  have kept : softWithdrawn s.lnk = s.lnk.soft := by simp [softWithdrawn, plain]
  unfold charArrives
  rw [if_neg (by simp [free, plain]), kept]
  exact if_neg (by simp [plain])

/-- Settles O26: the receiver by its state, and the answers by what withdraws or ends them. -/
theorem receiverAndAnswers : Obligations.ReceiverAndAnswers := by
  unfold Obligations.ReceiverAndAnswers
  dsimp only
  refine ⟨fun c s held sending waiting soft => ?_, fun a s held waits free => ?_, fun a s held sent => ⟨?_, fun c => ?_⟩,
    fun a c s held waits free => ⟨fun asked => ?_, fun plain => ?_⟩⟩
  · have taken := fun u => exec_characterReceived_quiet (c := c) (u := u) held sending waiting soft
    have aborts := fun stop => exec_frameFormatAbort_quiet (c := c) held sending waiting soft stop
    refine ⟨fun silent => ⟨taken _ ?_, ?_⟩, fun idle marker => taken _ ?_, fun idle other => taken _ ?_,
      fun receiving => ⟨?_, aborts false receiving rfl, fun third long => ?_, fun fits => ?_⟩⟩
    · rw [silent]; exact receive_silenceWait ..
    · exact (event_live held).trans (by rw [silenceEnd_waiting silent])
    · rw [idle, marker]; exact receive_marker ..
    · rw [idle]; exact receive_idle _ _ other
    · exact (event_live held).trans (by rw [frameGap_receiving receiving]; rfl)
    · have breaks := (breaksFrame_stopped (c := c) s.lnk.buffer).mpr ⟨third, long⟩
      exact ⟨taken _ (by rw [receiving]; exact receive_breaks breaks), aborts true receiving breaks⟩
    · have whole : breaksFrame s.lnk.buffer c true = false := by
        rw [Bool.eq_false_iff, ne_eq, breaksFrame_stopped]
        omega
      exact ⟨fun short => taken _ (by rw [receiving]; exact receive_gathers whole short),
        fun complete => taken _ (by rw [receiving]; exact receive_completes whole complete)⟩
  · exact (event_live held).trans (by rw [answerSend_waiting waits free])
  · exact (event_live held).trans (by rw [answerEnd_sending sent])
  · rw [exec_characterReceived c held, charArrives_sending true sent]
  · rw [exec_answerWithdrawn c held, answerWithdrawn_waiting waits, charArrives_answering true waits free asked]
  · rw [exec_answerWithdrawn c held, answerWithdrawn_waiting waits, charArrives_withdraws true free plain]

end Sys2Proof.Machine
end

section
/-!
PROOFS. The roof link is written by the hearing and the answer of requests, by the receiver and by the resets alone:
frames of `State.lnk` for every other effect.
-/

namespace Sys2Proof.Machine

/-! ### Shared operations -/

@[simp] theorem ite_lnk (p : Prop) [Decidable p] (s t : State) :
    (if p then s else t).lnk = if p then s.lnk else t.lnk := apply_ite ..

@[simp] theorem answerIte_lnk (p : Prop) [Decidable p] (a b : State × Reply) :
    (if p then a else b).1.lnk = if p then a.1.lnk else b.1.lnk := apply_ite (fun r : State × Reply => r.1.lnk) ..

@[simp] theorem putChan_lnk (s : State) (c : Chan) (r : Channel) : (putChan s c r).lnk = s.lnk := rfl
@[simp] theorem putOut_lnk (s : State) (x : Output) (o : Out) : (putOut s x o).lnk = s.lnk := by cases x <;> rfl
@[simp] theorem mapValves_lnk (s : State) (f : Out → Out) : (mapValves s f).lnk = s.lnk := rfl
@[simp] theorem mapZones_lnk (s : State) (f : Out → Out) : (mapZones s f).lnk = s.lnk := rfl
@[simp] theorem putBrk_lnk (s : State) (b : Brk) (r : Breaker) : (putBrk s b r).lnk = s.lnk := by cases b <;> rfl
@[simp] theorem putSeq_lnk (s : State) (q : Sequence) : (putSeq s q).lnk = s.lnk := rfl
@[simp] theorem setShed_lnk (s : State) : (setShed s).lnk = s.lnk := rfl
@[simp] theorem giveRole_lnk (s : State) (c : Chan) (x : Role) : (giveRole s c x).lnk = s.lnk := rfl
@[simp] theorem restartIdent_lnk (s : State) : (restartIdent s).lnk = s.lnk := rfl
@[simp] theorem openBrk_lnk (s : State) (b : Brk) : (openBrk s b).lnk = s.lnk := kept_lnk (calm_kept (calm_openBrk s b))
@[simp] theorem writeValve_lnk (s : State) (c : Chan) (d : Nat) : (writeValve s c d).lnk = s.lnk :=
  kept_lnk (calm_kept (calm_writeValve s c d))
@[simp] theorem settle_lnk (b s : State) : (settle b s).lnk = s.lnk := kept_lnk (calm_kept (calm_settle b s))
@[simp] theorem progress_lnk (s : State) : (progress s).lnk = s.lnk := kept_lnk (calm_kept (calm_progress s))
@[simp] theorem newOutlook_lnk (s : State) : (newOutlook s).lnk = s.lnk := kept_lnk (calm_kept (calm_newOutlook s))
@[simp] theorem recordEnd_lnk (s : State) (r : Result) (n : Nat) : (recordEnd s r n).lnk = s.lnk :=
  kept_lnk (calm_kept (calm_recordEnd s r n))
@[simp] theorem abortSeq_lnk (s : State) (r : Reason) : (abortSeq s r).lnk = s.lnk :=
  kept_lnk (calm_kept (calm_abortSeq s r))
@[simp] theorem startSeq_lnk (s : State) (k : SeqKind) (o : Origin) (t : Option Sys) (a : Option Awaited) (st : Stage) :
    (startSeq s k o t a st).lnk = s.lnk := kept_lnk (calm_kept (calm_startSeq s k o t a st))
@[simp] theorem automaticStart_lnk (s : State) : (automaticStart s).lnk = s.lnk :=
  kept_lnk (calm_kept (calm_automaticStart s))
@[simp] theorem forceChanged_lnk (b : Option Sys) (s : State) : (forceChanged b s).lnk = s.lnk :=
  kept_lnk (calm_kept (calm_forceChanged b s))
@[simp] theorem roofDownSeq_lnk (s : State) (r : Reason) (o : Origin) : (roofDownSeq s r o).lnk = s.lnk :=
  kept_lnk (calm_kept (calm_roofDownSeq s r o))
@[simp] theorem failed_lnk (s : State) (r : Role) : (failed s r).lnk = s.lnk := kept_lnk (calm_kept (calm_failed s r))
@[simp] theorem failInto_lnk (s : State) (c : Chan) (x : ChanState) : (failInto s c x).lnk = s.lnk :=
  kept_lnk (calm_kept (calm_failInto s c x))
@[simp] theorem dumpInService_lnk (s : State) (c : Chan) : (dumpInService s c).lnk = s.lnk :=
  kept_lnk (calm_kept (calm_dumpInService s c))
@[simp] theorem leaveService_lnk (s : State) (c : Chan) : (leaveService s c).lnk = s.lnk :=
  kept_lnk (calm_kept (calm_leaveService s c))
@[simp] theorem retargetAll_lnk (s : State) : (retargetAll s).lnk = s.lnk := kept_lnk (calm_kept (calm_retargetAll s))
@[simp] theorem testStrip_lnk (s : State) (c : Chan) : (testStrip s c).lnk = s.lnk :=
  kept_lnk (calm_kept (calm_testStrip s c))
@[simp] theorem slotStart_lnk (s : State) : (slotStart s).lnk = s.lnk := kept_lnk (calm_kept (calm_slotStart s))
@[simp] theorem endDemand_lnk (s : State) : (endDemand s).lnk = s.lnk := kept_lnk (kept_endDemand s)
@[simp] theorem offer_lnk (s : State) (o : Offer) : (offer s o).lnk = s.lnk := kept_lnk (kept_offer s o)
@[simp] theorem offerPlain_lnk (s : State) (k : FaultKind) : (offerPlain s k).lnk = s.lnk := offer_lnk ..
@[simp] theorem offerChan_lnk (s : State) (k : FaultKind) (c : Chan) : (offerChan s k c).lnk = s.lnk := offer_lnk ..
@[simp] theorem offerBrk_lnk (s : State) (k : FaultKind) (b : Brk) : (offerBrk s k b).lnk = s.lnk := offer_lnk ..
@[simp] theorem offerParam_lnk (s : State) (k : FaultKind) (n : Nat) : (offerParam s k n).lnk = s.lnk := offer_lnk ..
@[simp] theorem haltThenOffer_lnk (s : State) (r : Reason) (k : FaultKind) (b : Brk) :
    (haltThenOffer s r k b).lnk = s.lnk := kept_lnk (kept_haltThenOffer s r k b)
@[simp] theorem examineConverter_lnk (s : State) : (examineConverter s).lnk = s.lnk :=
  kept_lnk (kept_examineConverter s)
@[simp] theorem applyChange_lnk (b s : State) : (applyChange b s).lnk = s.lnk := kept_lnk (kept_applyChange b s)

/-! ### Breakers, cab and converter -/

@[simp] theorem roofDownRequest_lnk (s : State) (r : Reason) (o : Origin) : (roofDownRequest s r o).lnk = s.lnk := by
  simp [roofDownRequest]

@[simp] theorem setActive_lnk (s : State) (v : Option Vcu) : (setActive s v).lnk = s.lnk := rfl

@[simp] theorem cabLapse_lnk (s : State) : (cabLapse s).lnk = s.lnk := by
  unfold cabLapse
  split <;> simp

@[simp] theorem demandExpiry_lnk (s : State) : (demandExpiry s).lnk = s.lnk := by
  unfold demandExpiry
  split <;> simp

@[simp] theorem converterStale_lnk (s : State) : (converterStale s).lnk = s.lnk := by simp [converterStale]

@[simp] theorem converterRetest_lnk (s : State) : (converterRetest s).lnk = s.lnk := by simp [converterRetest]

@[simp] theorem takeReport_lnk (c : ConvState) (t : Option Sys) (s : State) : (takeReport c t s).lnk = s.lnk := by
  simp only [takeReport, shedReport, examineConverter_lnk, progress_lnk]
  split <;> simp

@[simp] theorem closeCompletes_lnk (s : State) (b : Brk) : (closeCompletes s b).lnk = s.lnk := by
  simp [closeCompletes]

@[simp] theorem feedbackTaken_lnk (s : State) (b : Brk) (closed : Bool) : (feedbackTaken s b closed).lnk = s.lnk := by
  unfold feedbackTaken
  split <;> simp [trips, closesUncommanded]

@[simp] theorem feedbackChange_lnk (b : Brk) (closed : Bool) (s : State) : (feedbackChange b closed s).lnk = s.lnk := by
  simp [feedbackChange]

@[simp] theorem closeExpiry_lnk (b : Brk) (closed : Bool) (s : State) : (closeExpiry b closed s).lnk = s.lnk := by
  simp [closeExpiry]

@[simp] theorem openExpiry_lnk (b : Brk) (closed : Bool) (s : State) : (openExpiry b closed s).lnk = s.lnk := by
  simp [openExpiry]

@[simp] theorem shedExpiry_lnk (s : State) : (shedExpiry s).lnk = s.lnk := by
  unfold shedExpiry
  split <;> simp

@[simp] theorem deadRunExpiry_lnk (s : State) : (deadRunExpiry s).lnk = s.lnk := by
  unfold deadRunExpiry
  split <;> simp

@[simp] theorem identifyExpiry_lnk (s : State) : (identifyExpiry s).lnk = s.lnk := by
  unfold identifyExpiry
  split <;> simp

@[simp] theorem converterExpiry_lnk (s : State) : (converterExpiry s).lnk = s.lnk := by
  unfold converterExpiry
  split <;> simp

/-! ### The identifier -/

@[simp] theorem takeSample_lnk (x : Int) (s : State) : (takeSample x s).lnk = s.lnk := by
  unfold takeSample
  split
  · rfl
  · exact (ite_lnk ..).trans (ite_self _)

@[simp] theorem decideCheck_lnk (k : LineClass) (s : State) : (decideCheck k s).lnk = s.lnk := by
  unfold decideCheck
  split <;> simp

@[simp] theorem examineLine_lnk (k : LineClass) (s : State) : (examineLine k s).lnk = s.lnk := by
  unfold examineLine
  split
  · rfl
  · split <;> simp

@[simp] theorem identifyResult_lnk (k : LineClass) (s : State) : (identifyResult k s).lnk = s.lnk := by
  unfold identifyResult
  split
  · rfl
  · split
    · split <;> simp
    · rfl

@[simp] theorem publishWindow_lnk (s : State) : (publishWindow s).lnk = s.lnk := by
  unfold publishWindow
  split <;> simp [handResult]

/-! ### Channels and outputs -/

@[simp] theorem noWire_lnk (s : State) (c : Chan) : (noWire s c).lnk = s.lnk := by simp [noWire, failLower]

@[simp] theorem reachRest_lnk (s : State) (c : Chan) : (reachRest s c).lnk = s.lnk := by
  unfold reachRest
  dsimp only
  split <;> simp

@[simp] theorem readContact_lnk (c : Chan) (s : State) : (readContact c s).lnk = s.lnk := by
  simp [readContact, countLowForce, arcEvent]

@[simp] theorem readTransitions_lnk (c : Chan) (h : Int) (s : State) : (readTransitions c h s).lnk = s.lnk := by
  unfold readTransitions
  split <;> simp [readRaising, makeContact]

@[simp] theorem takeReading_lnk (c : Chan) (h f t : Int) (s : State) : (takeReading c h f t s).lnk = s.lnk := by
  simp [takeReading, storeStrip, storeHeight, storeForce]

@[simp] theorem heightFails_lnk (s : State) (c : Chan) : (heightFails s c).lnk = s.lnk := by
  unfold heightFails
  dsimp only
  split <;> simp

@[simp] theorem heightSensor_lnk (c : Chan) (s : State) : (heightSensor c s).lnk = s.lnk := by simp [heightSensor]

theorem headLost_lnk {s t : State} {c : Chan} (h : headLost s c = some t) : t.lnk = s.lnk := by
  unfold headLost at h
  dsimp only at h
  split at h <;> cases h <;> simp

@[simp] theorem headokLost_lnk (c : Chan) (s : State) : (headokLost c s).lnk = s.lnk := by
  unfold headokLost
  split
  · dsimp only
    split
    · rfl
    · split
      · rename_i lost
        rw [offer_lnk, headLost_lnk lost, putChan_lnk]
      · rfl
  · rfl

@[simp] theorem raiseTimeout_lnk (c : Chan) (s : State) : (raiseTimeout c s).lnk = s.lnk := by
  simp [raiseTimeout, failLower]

@[simp] theorem contactLoss_lnk (c : Chan) (s : State) : (contactLoss c s).lnk = s.lnk := by simp [contactLoss]

@[simp] theorem lowerTimeout_lnk (c : Chan) (s : State) : (lowerTimeout c s).lnk = s.lnk := by simp [lowerTimeout]

@[simp] theorem takeEnds_lnk (o : Output) (s : State) : (takeEnds o s).lnk = s.lnk := by
  unfold takeEnds
  cases o <;> simp

@[simp] theorem safePeriodEnd_lnk (o : Output) (s : State) : (safePeriodEnd o s).lnk = s.lnk := by
  have returned : (returnEnds o s).lnk = s.lnk := by cases o <;> simp [returnEnds]
  unfold safePeriodEnd
  dsimp only
  split
  · split <;> simp [returned]
  · rfl

@[simp] theorem serviceLapse_lnk (s : State) : (serviceLapse s).lnk = s.lnk := by simp [serviceLapse, returnAll]

@[simp] theorem forceLoop_lnk (s : State) (c : Chan) : (forceLoop s c).lnk = s.lnk := by
  unfold forceLoop
  dsimp only
  split <;> simp

/-! ### Ice clearing and the position -/

@[simp] theorem ambientReading_lnk (t : Int) (s : State) : (ambientReading t s).lnk = s.lnk := by simp [ambientReading]

@[simp] theorem auxokLost_lnk (s : State) : (auxokLost s).lnk = s.lnk := by simp [auxokLost]

@[simp] theorem auxokReturn_lnk (s : State) : (auxokReturn s).lnk = s.lnk := by simp [auxokReturn]

@[simp] theorem slotExpiry_lnk (s : State) : (slotExpiry s).lnk = s.lnk := by simp [slotExpiry]

@[simp] theorem winterApply_lnk (s : State) : (winterApply s).lnk = s.lnk := by
  have started : (winterStart s).lnk = s.lnk := by
    unfold winterStart
    split
    · split <;> simp
    · rfl
  unfold winterApply
  split <;> simp [started]

@[simp] theorem winterRemove_lnk (s : State) : (winterRemove s).lnk = s.lnk := by
  unfold winterRemove
  split <;> rfl

@[simp] theorem iceUpdate_lnk (s : State) : (iceUpdate s).lnk = s.lnk := by
  have asked : ∀ (before : IceLevel) (u : State), (winterAsk before u).lnk = u.lnk := fun before u => by
    unfold winterAsk
    split
    · rfl
    · split <;> simp
  simp [iceUpdate, asked]

@[simp] theorem positionLapse_lnk (s : State) : (positionLapse s).lnk = s.lnk := by simp [positionLapse]

@[simp] theorem odometerPulse_lnk (s : State) : (odometerPulse s).lnk = s.lnk := by simp [odometerPulse]

@[simp] theorem takePosition_lnk (p track : Nat) (minus : Bool) (v : Nat) (s : State) :
    (takePosition p track minus v s).lnk = s.lnk := by simp [takePosition]

/-! ### The profile store -/

@[simp] theorem takeSet_lnk (n : Nat) (v : Int) (s : State) : (takeSet n v s).lnk = s.lnk := by
  simp [takeSet, generalEffects]

@[simp] theorem settleEnd_lnk (s : State) : (settleEnd s).lnk = s.lnk := by simp [settleEnd]

@[simp] theorem takeRecords_lnk (carries : Nat → Bool) (rs : List (List Byte)) (s : State) (l : Layer) :
    (takeRecords carries s l rs).1.lnk = s.lnk := by
  induction rs generalizing s l with
  | nil => rfl
  | cons r rs ih =>
    unfold takeRecords
    split <;> simp [ih]

@[simp] theorem takeFixed_lnk (s : State) (bs : List Byte) : (takeFixed s bs).lnk = s.lnk := by
  unfold takeFixed
  dsimp only
  split <;> simp

@[simp] theorem endStarting_lnk (s : State) : (endStarting s).lnk = s.lnk := by
  have ends : ∀ u, (startEnds u).lnk = u.lnk := fun _ => rfl
  rw [endStarting_eq, ends, kept_lnk (kept_startBlocks s), State.withPst_lnk]

@[simp] theorem fallBack_lnk (s : State) (r : DefaultsReason) : (fallBack s r).lnk = s.lnk := by simp [fallBack]

@[simp] theorem finishLoad_lnk (s : State) : (finishLoad s).lnk = s.lnk := by
  rw [finishLoad, endStarting_lnk]
  refine foldl_frame State.lnk _ (fun u g => ?_) _ s
  unfold revertGroup
  split <;> simp

@[simp] theorem advanceLoad_lnk (gs : List Segment) (s : State) : (advanceLoad s gs).lnk = s.lnk := by
  induction gs generalizing s with
  | nil => exact finishLoad_lnk s
  | cons g rest ih =>
    unfold advanceLoad
    split <;> simp [ih]

@[simp] theorem headerRead_lnk (r : ReadResult) (s : State) : (headerRead r s).lnk = s.lnk := by
  cases r <;> simp [headerRead]

@[simp] theorem takeSegment_lnk (g : Segment) (bs : List Byte) (s : State) : (takeSegment g bs s).lnk = s.lnk := by
  simp [takeSegment, foldl_frame State.lnk _ takeFixed_lnk]

@[simp] theorem segmentRead_lnk (r : ReadResult) (s : State) : (segmentRead r s).lnk = s.lnk := by
  unfold segmentRead
  split <;> simp [loadNoAnswer]

@[simp] theorem winterTake_lnk (bs : List Byte) (s : State) : (winterTake bs s).1.lnk = s.lnk := by simp [winterTake]

@[simp] theorem winterRead_lnk (r : ReadResult) (s : State) : (winterRead r s).lnk = s.lnk := by
  unfold winterRead
  split
  · rfl
  · unfold winterReadEnd
    dsimp only
    split
    · split <;> simp
    · rfl
  · unfold winterReadFail
    split <;> simp

@[simp] theorem winterPeriod_lnk (s : State) : (winterPeriod s).lnk = s.lnk := by
  have checked : ∀ (u : State) (g : Group), (winterCheck u g).lnk = u.lnk := fun u g => by
    unfold winterCheck
    split <;> simp
  unfold winterPeriod
  split <;> simp [checked]

@[simp] theorem forcePeriod_lnk (s : State) : (forcePeriod s).lnk = s.lnk := by
  simp [forcePeriod, foldl_frame State.lnk _ forceLoop_lnk]

@[simp] theorem releaseReset_lnk (straps : BitVec 5) (s : State) : (releaseReset straps s).lnk = s.lnk := by
  unfold releaseReset
  dsimp only
  split <;> simp

end Sys2Proof.Machine
end

section
/-!
PROOFS. The rules of the requests leave the link alone, but for that of SOFT RESET (R187).
-/

namespace Sys2Proof.Machine

/-! ### The requests' own rules -/

@[simp] theorem done_lnk (s : State) : (done s).1.lnk = s.lnk := rfl
@[simp] theorem refuse_lnk (c : AnswerCode) (s : State) : (refuse c s).1.lnk = s.lnk := rfl

theorem statusRead_lnk (p : List Byte) (s : State) : (statusRead p s).1.lnk = s.lnk := by
  unfold statusRead
  dsimp only
  split <;> rfl

theorem cabTake_lnk (src : Station) (s : State) : (cabTake src s).1.lnk = s.lnk := by
  unfold cabTake
  split <;> simp

theorem cabPass_lnk (s : State) : (cabPass s).1.lnk = s.lnk := by
  unfold cabPass
  split <;> rfl

theorem refreshDemand_lnk (s : State) : (refreshDemand s).lnk = s.lnk := by
  unfold refreshDemand
  split <;> rfl

theorem roofUpChoice_lnk (s : State) (t : Sys) (p : Option Chan) : (roofUpChoice s t p).1.lnk = s.lnk := by
  unfold roofUpChoice
  cases p <;> simp [setPreferred, refreshDemand_lnk]

theorem roofUp_lnk (p : List Byte) (s : State) : (roofUp p s).1.lnk = s.lnk := by
  unfold roofUp
  cases s.chg.target <;> simp [roofUpChoice_lnk]

theorem systemSelect_lnk (src : Station) (p : List Byte) (s : State) : (systemSelect src p s).1.lnk = s.lnk := by
  have selected : ∀ t, (selectSystem src t s).1.lnk = s.lnk := fun t => by
    unfold selectSystem
    split <;> simp [retargetSeq]
  unfold systemSelect
  split <;> simp [selected]

theorem breakerClose_lnk (src : Station) (s : State) : (breakerClose src s).1.lnk = s.lnk := by
  unfold breakerClose
  cases s.chg.target with
  | none => simp
  | some t => cases closeFailing s <;> simp

theorem breakerOpen_lnk (src : Station) (s : State) : (breakerOpen src s).1.lnk = s.lnk := by simp [breakerOpen]

theorem positionReq_lnk (p : List Byte) (s : State) : (positionReq p s).1.lnk = s.lnk := by simp [positionReq]

theorem sectionLoad_lnk (p : List Byte) (s : State) : (sectionLoad p s).1.lnk = s.lnk := by
  unfold sectionLoad
  dsimp only
  split
  · rfl
  · split
    · rfl
    · split
      · rfl
      · simp [placeAll]

theorem sectionClear_lnk (p : List Byte) (s : State) : (sectionClear p s).1.lnk = s.lnk := by
  have cleared : ∀ gone, (clearRoutes gone s).1.lnk = s.lnk := fun gone => by simp [clearRoutes]
  unfold sectionClear
  split <;> simp [cleared]

theorem sectionRead_lnk (p : List Byte) (s : State) : (sectionRead p s).1.lnk = s.lnk := by simp [sectionRead]

theorem converterReport_lnk (p : List Byte) (s : State) : (converterReport p s).1.lnk = s.lnk := by
  unfold converterReport
  split <;> simp

theorem iceModeReq_lnk (p : List Byte) (s : State) : (iceModeReq p s).1.lnk = s.lnk := by
  unfold iceModeReq
  split <;> rfl

theorem parameterSet_lnk (p : List Byte) (s : State) : (parameterSet p s).1.lnk = s.lnk := by simp [parameterSet]

theorem parameterRead_lnk (p : List Byte) (s : State) : (parameterRead p s).1.lnk = s.lnk := by
  unfold parameterRead
  split <;> rfl

theorem faultRead_lnk (p : List Byte) (s : State) : (faultRead p s).1.lnk = s.lnk := by
  unfold faultRead
  dsimp only
  split <;> rfl

theorem faultClear_lnk (p : List Byte) (s : State) : (faultClear p s).1.lnk = s.lnk := by
  have left : ∀ u : State, (leaveSafeHeld u).lnk = u.lnk := fun u => by simp [leaveSafeHeld]
  unfold faultClear
  split <;> simp [left]

theorem thresholdSet_lnk (p : List Byte) (s : State) : (thresholdSet p s).1.lnk = s.lnk := by
  unfold thresholdSet
  dsimp only
  split <;> simp

theorem lockoutClear_lnk (p : List Byte) (s : State) : (lockoutClear p s).1.lnk = s.lnk := by
  unfold lockoutClear
  split <;> simp

theorem outputTake_lnk (p : List Byte) (s : State) : (outputTake p s).1.lnk = s.lnk := by
  have taken : ∀ o, (takeOutput o s).1.lnk = s.lnk := fun o => by
    unfold takeOutput
    cases takeValveRefusal s o <;> simp
  unfold outputTake
  cases outputOfCode (byteAt p 0) <;> simp [taken]

theorem outputDrive_lnk (p : List Byte) (s : State) : (outputDrive p s).1.lnk = s.lnk := by
  have driven : ∀ o d, (driveOutput o d s).1.lnk = s.lnk := fun o d => by
    unfold driveOutput
    cases driveRefusal s d o <;> simp
  unfold outputDrive
  cases outputOfCode (byteAt p 0) <;> simp [driven]

theorem outputReturn_lnk (p : List Byte) (s : State) : (outputReturn p s).1.lnk = s.lnk := by
  unfold outputReturn
  dsimp only
  cases outputOfCode (byteAt p 0) <;> simp [returnAll]

theorem senseCheckStart_lnk (p : List Byte) (s : State) : (senseCheckStart p s).1.lnk = s.lnk := by
  have entered : ∀ i, (enterCheck i s).lnk = s.lnk := fun i => by simp [enterCheck]
  unfold senseCheckStart
  dsimp only
  split
  · rfl
  · split
    · rfl
    · split
      · rfl
      · split
        · exact entered _
        · rfl

theorem senseCheckEnd_lnk (s : State) : (senseCheckEnd s).1.lnk = s.lnk := by
  simp [senseCheckEnd, leaveCheck]

/-- No request but SOFT RESET touches the link by its own rule. -/
theorem requestRule_lnk {k : ReqKind} (other : k ≠ .softReset) (src : Station) (p : List Byte) (s : State) :
    (requestRule k src p s).1.lnk = s.lnk := by
  cases k with
  | statusRead => exact statusRead_lnk p s
  | cabTake => exact cabTake_lnk src s
  | cabRelease => exact roofDownRequest_lnk ..
  | cabPass => exact cabPass_lnk s
  | roofUp => exact roofUp_lnk p s
  | roofDown => exact roofDownRequest_lnk ..
  | systemSelect => exact systemSelect_lnk src p s
  | breakerClose => exact breakerClose_lnk src s
  | breakerOpen => exact breakerOpen_lnk src s
  | position => exact positionReq_lnk p s
  | sectionLoad => exact sectionLoad_lnk p s
  | sectionClear => exact sectionClear_lnk p s
  | sectionRead => exact sectionRead_lnk p s
  | converterReport => exact converterReport_lnk p s
  | iceMode => exact iceModeReq_lnk p s
  | parameterSet => exact parameterSet_lnk p s
  | parameterRead => exact parameterRead_lnk p s
  | faultRead => exact faultRead_lnk p s
  | faultClear => exact faultClear_lnk p s
  | thresholdSet => exact thresholdSet_lnk p s
  | lockoutClear => exact lockoutClear_lnk p s
  | outputTake => exact outputTake_lnk p s
  | outputDrive => exact outputDrive_lnk p s
  | outputReturn => exact outputReturn_lnk p s
  | senseCheckStart => exact senseCheckStart_lnk p s
  | senseCheckEnd => exact senseCheckEnd_lnk s
  | softReset => exact absurd rfl other

end Sys2Proof.Machine
end

section
/-!
PROOFS. What is kept of the receiver and of the answers through every command and every step (R190, R193, O60).
-/

namespace Sys2Proof.Machine

variable {s t : State}

/-! ### The law, on the link record -/

/-- `LinkHolds` as a law of the link record. -/
structure LinkLaw (l : Lnk) : Prop where
  idle : l.receiver ≠ .receiving → l.buffer = []
  one : l.waiting.isSome = true → l.sending = none
  short : 4 ≤ l.buffer.length → byteAt l.buffer 3 ≤ 48 ∧ l.buffer.length < 6 + byteAt l.buffer 3

theorem linkHolds_iff (s : State) : LinkHolds s ↔ LinkLaw s.lnk :=
  ⟨fun h => ⟨h.idle, h.one, h.short⟩, fun h => ⟨h.idle, h.one, h.short⟩⟩

/-- A receiver that holds no character is within its frame. -/
theorem LinkLaw.of_empty {l : Lnk} (empty : l.buffer = []) (one : l.waiting.isSome = true → l.sending = none) :
    LinkLaw l where
  idle _ := empty
  one := one
  short long := by rw [empty] at long; cases long

theorem linkLaw_reset : LinkLaw Lnk.reset := .of_empty rfl fun _ => rfl

theorem byteAt_concat_last (buf : List Byte) (c : Byte) : byteAt (buf ++ [c]) buf.length = c.toNat := by
  simp [byteAt]

theorem byteAt_append_left {a : List Byte} {i : Nat} (b : List Byte) (h : i < a.length) :
    byteAt (a ++ b) i = byteAt a i := by
  rw [byteAt, List.getD_append _ _ _ _ h, byteAt]

/-- A character that neither breaks nor completes the frame leaves it short: the fourth announces the length, and those
after it stay below the length announced. -/
theorem LinkLaw.gather {l : Lnk} (h : LinkLaw l) (receiving : l.receiver = .receiving) {c : Byte} {stop : Bool}
    (fits : breaksFrame l.buffer c stop = false) (more : bufferComplete (l.buffer ++ [c]) = false) :
    LinkLaw { l with buffer := l.buffer ++ [c] } where
  idle away := absurd receiving away
  one := h.one
  short long := by
    simp only [breaksFrame, bufferComplete, Bool.or_eq_false_iff, Bool.and_eq_false_iff, decide_eq_false_iff_not,
      beq_eq_false_iff_ne, List.length_append, List.length_singleton] at fits more long ⊢
    by_cases third : l.buffer.length = 3
    · have announced : byteAt (l.buffer ++ [c]) 3 = c.toNat := third ▸ byteAt_concat_last l.buffer c
      omega
    · have held : byteAt (l.buffer ++ [c]) 3 = byteAt l.buffer 3 := byteAt_append_left [c] (by omega)
      have short := h.short (by omega)
      omega

/-! ### Requests -/

/-- SOFT RESET writes the phase of the reset alone. -/
theorem requestRule_line (k : ReqKind) (src : Station) (p : List Byte) (s : State) :
    (requestRule k src p s).1.lnk.buffer = s.lnk.buffer ∧ (requestRule k src p s).1.lnk.sending = s.lnk.sending := by
  by_cases soft : k = .softReset
  · subst soft
    exact ⟨rfl, rfl⟩
  · rw [requestRule_lnk soft]
    exact ⟨rfl, rfl⟩

@[simp] theorem refreshActivity_lnk (src : Station) (s : State) : (refreshActivity src s).lnk = s.lnk := by
  cases src <;> rfl

theorem sending_of_hears (h : hears s = true) : s.lnk.sending = none := by
  simp only [hears, Bool.and_eq_true] at h
  exact Option.isNone_iff_eq_none.mp h.1.1.2

theorem linkLaw_hearFrame (s : State) : LinkLaw (hearFrame s).lnk := .of_empty rfl nofun

/-- An answer waits on a receiver that holds no character, while none is sent. -/
theorem linkLaw_putAnswer (src : Station) (code : Byte) {r : State × Reply} (empty : r.1.lnk.buffer = [])
    (free : r.1.lnk.sending = none) : LinkLaw (putAnswer src code r).lnk := .of_empty empty fun _ => free

theorem linkLaw_takeRequest (k : ReqKind) (src : Station) (p : List Byte) (h : LinkLaw s.lnk) :
    LinkLaw (takeRequest k src p (requestRule k src p) s).lnk := by
  cases hearing : hears s with
  | false => rwa [takeRequest_unheard k src p _ hearing]
  | true =>
    have empty : (heard src s).lnk.buffer = [] := by rw [heard, refreshActivity_lnk]; rfl
    have free : (heard src s).lnk.sending = none := by
      rw [heard, refreshActivity_lnk, ← sending_of_hears hearing]
      rfl
    rcases takeRequest_cases k src p (requestRule k src p) s with e | e | ⟨code, r, e, rfl | how⟩ <;> rw [e]
    · exact h
    · exact linkLaw_hearFrame s
    · obtain ⟨buffer, sending⟩ := requestRule_line k src p (heard src s)
      exact linkLaw_putAnswer src code (buffer.trans empty) (sending.trans free)
    · exact linkLaw_putAnswer src code (how ▸ empty) (how ▸ free)

theorem linkLaw_takeUnknownKind (src : Station) (kind : Byte) (h : LinkLaw s.lnk) :
    LinkLaw (takeUnknownKind src kind s).lnk := by
  unfold takeUnknownKind
  dsimp only
  split
  · rename_i taken
    have free := sending_of_hears (Bool.and_eq_true_iff.mp taken).1
    split
    · exact linkLaw_hearFrame s
    · refine linkLaw_putAnswer src kind ?_ ?_ <;> rw [refuse_lnk, refreshActivity_lnk]
      · rfl
      · exact free
  · exact h

/-! ### Frames and characters (R190, R191) -/

/-- The checks of a frame leave the link as the frame's end left it. -/
theorem discardFate_lnk {f : List Byte} (e : discardFate f s = some t) : t.lnk = s.lnk := by
  unfold discardFate at e
  split at e
  · cases e; exact offerPlain_lnk ..
  · split at e
    · cases e; rfl
    · split at e
      · cases e; exact offer_lnk ..
      · split at e <;> cases e
        rw [offerPlain_lnk, refreshActivity_lnk]

theorem linkLaw_frameFate (f : List Byte) (h : LinkLaw s.lnk) : LinkLaw (frameFate f s).lnk := by
  unfold frameFate
  cases e : discardFate f s with
  | some u => exact (discardFate_lnk e).symm ▸ h
  | none =>
    unfold dispatchFrame
    rw [Option.getD_none]
    split
    · exact h
    · split
      · rw [takeKind_eq]
        exact linkLaw_takeRequest _ _ _ h
      · exact linkLaw_takeUnknownKind _ _ h

theorem linkLaw_breakFrame (r : Receiver) (h : LinkLaw s.lnk) : LinkLaw (breakFrame r s).lnk := by
  rw [breakFrame, offerPlain_lnk]
  exact .of_empty rfl h.one

theorem linkLaw_receive (c : Byte) (stop : Bool) (h : LinkLaw s.lnk) : LinkLaw (receive c stop s).lnk := by
  unfold receive
  split
  · exact h
  · split
    · exact .of_empty rfl h.one
    · exact h
  · rename_i receiving
    dsimp only
    split
    · exact linkLaw_breakFrame _ h
    · rename_i fits
      split
      · exact linkLaw_frameFate _ (.of_empty rfl h.one)
      · rename_i more
        exact h.gather receiving (Bool.eq_false_iff.mpr fits) (Bool.eq_false_iff.mpr more)

theorem linkLaw_ite {p : Prop} [Decidable p] (ht : LinkLaw s.lnk) (he : LinkLaw t.lnk) :
    LinkLaw (if p then s else t).lnk := by
  split
  · exact ht
  · exact he

theorem linkLaw_charArrives (c : Byte) (stop : Bool) (h : LinkLaw s.lnk) : LinkLaw (charArrives c stop s).lnk :=
  have withdrawn : LinkLaw { s.lnk with waiting := none, soft := softWithdrawn s.lnk, quietMs := 0 } :=
    ⟨h.idle, nofun, h.short⟩
  linkLaw_ite h (linkLaw_ite withdrawn (linkLaw_receive c stop withdrawn))

theorem linkLaw_frameDiscarded (f : List Byte) (h : LinkLaw s.lnk) : LinkLaw (frameDiscarded f s).lnk := by
  have heard := linkLaw_hearFrame s
  refine linkLaw_ite (linkLaw_ite heard ?_) h
  cases e : discardFate f (hearFrame s) with
  | none => exact h
  | some u => exact (discardFate_lnk e).symm ▸ heard

/-! ### Answers (R193) -/

/-- The answer that waited is the one sent. -/
theorem linkLaw_answerSend (h : LinkLaw s.lnk) : LinkLaw (answerSend s).lnk := by
  unfold answerSend
  split
  · exact ⟨h.idle, nofun, h.short⟩
  · exact h

theorem linkLaw_answerEnd (h : LinkLaw s.lnk) : LinkLaw (answerEnd s).lnk :=
  linkLaw_ite (.of_empty rfl fun _ => rfl) h

/-- A silence ends with no character held. -/
theorem linkLaw_silenceEnd (h : LinkLaw s.lnk) : LinkLaw (silenceEnd s).lnk := by
  unfold silenceEnd
  split
  · rename_i silent
    exact .of_empty (h.idle (by rw [silent]; nofun)) h.one
  · exact h

/-! ### Commands and steps -/

/-- An event keeps the law when its effect does. -/
theorem linkLaw_event {f : State → State} (h : LinkLaw s.lnk) (hf : LinkLaw (f s).lnk) (e : event f s = .next t) :
    LinkLaw t.lnk := by
  obtain ⟨u, eu, ⟨-, rfl⟩ | ⟨-, rfl⟩⟩ := event_next f s <;> rw [eu] at e <;> cases e
  · exact h
  · rwa [settle_lnk]

/-- An effect that leaves the link alone keeps the law. -/
theorem linkLaw_apart {f : State → State} (h : LinkLaw s.lnk) (e : event f s = .next t) (apart : (f s).lnk = s.lnk) :
    LinkLaw t.lnk := linkLaw_event h (apart.symm ▸ h) e

theorem linkLaw_inputEvent {f : State → State} (h : LinkLaw s.lnk) (e : inputEvent f s = .next t)
    (apart : (f s).lnk = s.lnk) : LinkLaw t.lnk := by
  cases e
  rwa [settle_lnk, apart]

theorem linkLaw_resetRelease {straps : BitVec 5} (h : LinkLaw s.lnk) (e : exec (.resetRelease straps) s = .next t) :
    LinkLaw t.lnk := by
  change (if s.held then .next (settle s (releaseReset straps s)) else .next s) = Host.Outcome.next t at e
  split at e <;> cases e
  · rwa [settle_lnk, releaseReset_lnk]
  · exact h

theorem linkLaw_exec {c : Instr} (h : LinkLaw s.lnk) (e : exec c s = .next t) : LinkLaw t.lnk := by
  have request : ∀ k src p, exec (requestCmd k src p) s = .next t → LinkLaw t.lnk := fun k src p e => by
    rw [exec_requestCmd] at e
    exact linkLaw_event h (linkLaw_takeRequest k src p h) e
  cases c with
  | statusRead src p => exact request .statusRead src p e
  | cabTake src p => exact request .cabTake src p e
  | cabRelease src p => exact request .cabRelease src p e
  | cabPass src p => exact request .cabPass src p e
  | roofUp src p => exact request .roofUp src p e
  | roofDown src p => exact request .roofDown src p e
  | systemSelect src p => exact request .systemSelect src p e
  | breakerClose src p => exact request .breakerClose src p e
  | breakerOpen src p => exact request .breakerOpen src p e
  | position src p => exact request .position src p e
  | sectionLoad src p => exact request .sectionLoad src p e
  | sectionClear src p => exact request .sectionClear src p e
  | sectionRead src p => exact request .sectionRead src p e
  | converterReport src p => exact request .converterReport src p e
  | iceMode src p => exact request .iceMode src p e
  | parameterSet src p => exact request .parameterSet src p e
  | parameterRead src p => exact request .parameterRead src p e
  | faultRead src p => exact request .faultRead src p e
  | faultClear src p => exact request .faultClear src p e
  | thresholdSet src p => exact request .thresholdSet src p e
  | lockoutClear src p => exact request .lockoutClear src p e
  | outputTake src p => exact request .outputTake src p e
  | outputDrive src p => exact request .outputDrive src p e
  | outputReturn src p => exact request .outputReturn src p e
  | senseCheckStart src p => exact request .senseCheckStart src p e
  | senseCheckEnd src p => exact request .senseCheckEnd src p e
  | softReset src p => exact request .softReset src p e
  | unknownKind src kind => exact linkLaw_event h (linkLaw_takeUnknownKind src kind h) e
  | frameDiscarded f => exact linkLaw_event h (linkLaw_frameDiscarded f h) e
  | frameFormatAbort x stop => exact linkLaw_event h (linkLaw_ite (linkLaw_charArrives x stop h) h) e
  | frameGapTimeout => exact linkLaw_event h (linkLaw_ite (linkLaw_breakFrame _ h) h) e
  | silenceEnd => exact linkLaw_event h (linkLaw_silenceEnd h) e
  | answerSend => exact linkLaw_event h (linkLaw_answerSend h) e
  | answerWithdrawn x => exact linkLaw_event h (linkLaw_ite (linkLaw_charArrives x true h) h) e
  | characterReceived x => exact linkLaw_event h (linkLaw_charArrives x true h) e
  | answerEnd => exact linkLaw_event h (linkLaw_answerEnd h) e
  | softResetAction straps =>
    have acted : LinkLaw (releaseReset straps (holdReset s.flt s)).lnk := by
      rw [releaseReset_lnk]
      exact linkLaw_reset
    exact linkLaw_event h (linkLaw_ite acted h) e
  | powerOnReset => cases e; exact linkLaw_reset
  | pinReset => cases e; exact linkLaw_reset
  | resetRelease straps => exact linkLaw_resetRelease h e
  | profileHeaderRead r => exact linkLaw_apart h e (headerRead_lnk ..)
  | segmentRead a => exact linkLaw_apart h e (segmentRead_lnk ..)
  | loadEepromNoAnswer => exact linkLaw_apart h e (segmentRead_lnk ..)
  | winterReadEnd a => exact linkLaw_apart h e (winterRead_lnk ..)
  | winterReadFail => exact linkLaw_apart h e (winterRead_lnk ..)
  | windowPublication => exact linkLaw_apart h e (publishWindow_lnk s)
  | channelReading c x f y => exact linkLaw_apart h e (takeReading_lnk ..)
  | ambientReading x => exact linkLaw_apart h e (ambientReading_lnk ..)
  | heightSensor c => exact linkLaw_apart h e (heightSensor_lnk ..)
  | headokLost c => exact linkLaw_inputEvent h e (headokLost_lnk ..)
  | headokRestored c => exact linkLaw_inputEvent h e rfl
  | raiseTimeout c => exact linkLaw_apart h e (raiseTimeout_lnk ..)
  | contactLoss c => exact linkLaw_apart h e (contactLoss_lnk ..)
  | lowerTimeout c => exact linkLaw_apart h e (lowerTimeout_lnk ..)
  | forceControlPeriod => exact linkLaw_apart h e (forcePeriod_lnk s)
  | valvePeriodBoundary => exact linkLaw_apart (f := (mapValves · atBoundary)) h e rfl
  | heaterPeriodBoundary => exact linkLaw_apart (f := (mapZones · atBoundary)) h e rfl
  | safePeriodEnd o => exact linkLaw_apart h e (safePeriodEnd_lnk ..)
  | serviceLapse => exact linkLaw_apart h e (serviceLapse_lnk s)
  | auxokLost => exact linkLaw_inputEvent h e (auxokLost_lnk s)
  | auxokReturn => exact linkLaw_inputEvent h e (auxokReturn_lnk s)
  | cabLapse => exact linkLaw_apart h e (cabLapse_lnk s)
  | demandExpiry => exact linkLaw_apart h e (demandExpiry_lnk s)
  | converterStale => exact linkLaw_apart h e (converterStale_lnk s)
  | odometerPulse => exact linkLaw_apart h e (odometerPulse_lnk s)
  | positionLapse => exact linkLaw_apart h e (positionLapse_lnk s)
  | breakerFeedbackChange b x => exact linkLaw_inputEvent h e (feedbackChange_lnk ..)
  | closeTimeExpiry b x => exact linkLaw_apart h e (closeExpiry_lnk ..)
  | openTimeExpiry b x => exact linkLaw_apart h e (openExpiry_lnk ..)
  | shedTimeout => exact linkLaw_apart h e (shedExpiry_lnk s)
  | deadRun => exact linkLaw_apart h e (deadRunExpiry_lnk s)
  | identifyTimeout => exact linkLaw_apart h e (identifyExpiry_lnk s)
  | converterTimeout => exact linkLaw_apart h e (converterExpiry_lnk s)
  | settleIntervalEnd => exact linkLaw_apart h e (settleEnd_lnk s)
  | iceIndexUpdate => exact linkLaw_apart h e (iceUpdate_lnk s)
  | slotExpiry => exact linkLaw_apart h e (slotExpiry_lnk s)
  | roofVoltageSample x => exact linkLaw_apart h e (takeSample_lnk ..)

/-- A millisecond moves the time of silence alone. -/
theorem linkLaw_idle (h : LinkLaw s.lnk) : LinkLaw (idle s).lnk := by
  have passed : (tickTime s).lnk = { s.lnk with quietMs := s.lnk.quietMs + 1 } := by
    unfold tickTime
    dsimp only
    split <;> rfl
  have law : LinkLaw (tickTime s).lnk := by
    rw [passed]
    exact ⟨h.idle, h.one, h.short⟩
  exact linkLaw_ite h law

/-- Settles O60: a millisecond and every command keep the law of the link record (`linkLaw_exec`). -/
theorem receiverStaysWithinItsFrame : Obligations.ReceiverStaysWithinItsFrame := by
  intro s t h e
  rw [linkHolds_iff] at h ⊢
  unfold step at e
  split at e
  · cases e
    exact linkLaw_idle h
  · exact linkLaw_exec (by exact h) e

end Sys2Proof.Machine
end

section
/-!
PROOFS. STATUS READ (O6), and the checks of a complete frame (R191, O25).
-/

namespace Sys2Proof.Machine

/-! ### STATUS READ (R195) -/

variable {s : State}

/-- A page part that two bytes name is reported after them. -/
theorem statusRead_done {page part : Byte} {bs : List Byte} (named : pagePart s page.toNat part.toNat = some bs) :
    statusRead [page, part] s = (s, ⟨.done, page :: part :: bs⟩) := by
  have read : pagePart s (byteAt [page, part] 0) (byteAt [page, part] 1) = some bs := named
  unfold statusRead
  dsimp only
  rw [read]
  simp [byteAt, codeByte]

theorem statusRead_range {page part : Byte} (unnamed : pagePart s page.toNat part.toNat = none) :
    statusRead [page, part] s = refuse .range s := by
  have read : pagePart s (byteAt [page, part] 0) (byteAt [page, part] 1) = none := unnamed
  unfold statusRead
  dsimp only
  rw [read]

/-- The nine pairs that name a page part. -/
theorem pagePart_isSome (s : State) (page part : Nat) : (pagePart s page part).isSome = true ↔
    (page, part) ∈ [(0, 0), (0, 1), (1, 0), (1, 1), (1, 2), (1, 3), (2, 0), (3, 0), (3, 1)] := by
  unfold pagePart
  split
  case h_10 => simp_all
  all_goals simp

/-- Settles O6: the rule of a pair by the page part it names, and the nine pairs that name one. -/
theorem statusReadReportsAPagePart : Obligations.StatusReadReportsAPagePart := by
  intro src page part s h
  refine ⟨?_, pagePart_isSome ..⟩
  cases e : pagePart (heard src s) page.toNat part.toNat with
  | some bs => exact exec_accepted_of_rule (k := .statusRead) h rfl _ .done (page :: part :: bs) (statusRead_done e)
  | none => exact exec_accepted_of_rule (k := .statusRead) h rfl _ .range [] (statusRead_range e)

/-! ### The checks of a frame (R191) -/

variable {f : List Byte}

theorem stationOf_address (src : Station) : stationOf (BitVec.ofNat 8 (stationAddress src)) = some src := by
  cases src <;> rfl

/-- The four known stations. -/
theorem stationOf_eq_some {a : Byte} {src : Station} : stationOf a = some src ↔ a.toNat = stationAddress src := by
  refine ⟨fun h => ?_, fun h => ?_⟩
  · unfold stationOf at h
    split at h <;> cases h <;> assumption
  · have named : a = BitVec.ofNat 8 (stationAddress src) := by rw [← h, BitVec.ofNat_toNat, BitVec.setWidth_eq]
    rw [named, stationOf_address]

theorem stationOf_eq_none {a : Byte} : stationOf a = none ↔ a.toNat = 0 ∨ 4 < a.toNat := by
  unfold stationOf
  split
  case h_5 not1 not2 not3 not4 =>
    rw [imp_false] at not1 not2 not3 not4
    exact iff_of_true rfl (by omega)
  all_goals exact iff_of_false nofun (by rename_i known; rw [known]; decide)

theorem discardFate_badCrc (bad : crcGood f = false) : discardFate f s = some (offer s ⟨.frameCrc, none, false⟩) :=
  if_pos bad

section Good
variable (good : crcGood f = true)
include good

theorem discardFate_elsewhere (elsewhere : byteAt f 0 ≠ stationAddr s.pst) : discardFate f s = some s := by
  unfold discardFate
  rw [if_neg (by rw [good]; nofun), if_pos elsewhere]

variable (here : byteAt f 0 = stationAddr s.pst)
include here

theorem discardFate_unknown (unknown : byteAt f 1 = 0 ∨ 4 < byteAt f 1) :
    discardFate f s = some (offer s ⟨.unknownSource, some (.station (byteAt f 1)), false⟩) := by
  unfold discardFate
  rw [if_neg (by rw [good]; nofun), if_neg (not_not.mpr here), stationOf_eq_none.mpr unknown]

/-- A frame of a known station that has passed the checks before: an answer is discarded, and a request goes on. -/
theorem discardFate_known {src : Station} (known : byteAt f 1 = stationAddress src) : discardFate f s =
    if 0x80 ≤ byteAt f 2 then some (offer (refreshActivity src s) ⟨.frameFormat, none, false⟩) else none := by
  unfold discardFate
  rw [if_neg (by rw [good]; nofun), if_neg (not_not.mpr here), stationOf_eq_some.mpr known]
  rfl

end Good

/-- A complete frame that fails a check does what the check says, once it is heard. -/
theorem exec_frameDiscarded {t : State} (h : Listening s) (complete : frameComplete f = true)
    (fate : discardFate f (hearFrame s) = some t) : exec (.frameDiscarded f) s = .next (settle s t) := by
  have soft : ¬ (hearFrame s).lnk.soft = .due := by rw [soft_of_listening h]; nofun
  have effect : frameDiscarded f s = t := by
    unfold frameDiscarded
    rw [hears_of_listening h, complete]
    exact (if_neg soft).trans (by rw [fate]; rfl)
  exact (event_live h.held).trans (by rw [effect])

/-- Settles O25, check by check in the order of R191. -/
theorem frameChecksInOrder : Obligations.FrameChecksInOrder := by
  intro f s h complete
  have becomes := fun t => exec_frameDiscarded (t := t) h complete
  refine ⟨fun bad => ?_, fun good => ⟨fun elsewhere => ?_, fun here => ⟨fun unknown => ?_,
    fun src known answer => ?_⟩⟩⟩
  · exact becomes _ (discardFate_badCrc bad)
  · exact becomes _ (discardFate_elsewhere good elsewhere)
  · exact becomes _ (discardFate_unknown good here unknown)
  · exact becomes _ ((discardFate_known (s := hearFrame s) good here known).trans (if_pos answer))

end Sys2Proof.Machine
end

section
/-!
PROOFS. The CRC-16 (R191) tells characters apart. Each step shows in its last bit whether it has added the polynomial,
so that the registers of two runs that end alike are found alike again, a bit fewer with each step back.
-/

namespace Sys2Proof.Machine

/-! ### A step and its last bit -/

/-- The low `n` bits of two registers are the same. -/
def LowAgree (n : Nat) (r q : BitVec 16) : Prop := ∀ i, i < n → r.getLsbD i = q.getLsbD i

theorem crcBit_getLsbD_zero (r : BitVec 16) (a : Bool) : (crcBit r a).getLsbD 0 = (r.msb != a) := by
  unfold crcBit
  cases r.msb != a <;> simp

theorem crcBit_getLsbD_succ (r : BitVec 16) (a : Bool) {i : Nat} (h : i < 15) :
    (crcBit r a).getLsbD (i + 1) = (r.getLsbD i ^^ ((r.msb != a) && (0x1021#16).getLsbD (i + 1))) := by
  have inside : i + 1 < 16 := by omega
  have held : r[i] = r.getLsbD i := (BitVec.getLsbD_eq_getElem (by omega)).symm
  unfold crcBit
  cases r.msb != a <;> simp [inside, held]

/-- Two steps that end alike in `n + 1` low bits have both added the polynomial, or neither, and began alike in `n`. -/
theorem LowAgree.of_crcBit {n : Nat} {r q : BitVec 16} {a b : Bool} (short : n ≤ 15)
    (h : LowAgree (n + 1) (crcBit r a) (crcBit q b)) : (r.msb != a) = (q.msb != b) ∧ LowAgree n r q := by
  have last : (r.msb != a) = (q.msb != b) := by
    have first := h 0 (Nat.succ_pos n)
    rwa [crcBit_getLsbD_zero, crcBit_getLsbD_zero] at first
  refine ⟨last, fun i low => ?_⟩
  have shifted := h (i + 1) (Nat.succ_lt_succ low)
  rw [crcBit_getLsbD_succ r a (by omega), crcBit_getLsbD_succ q b (by omega), last] at shifted
  exact Bool.xor_left_inj.mp shifted

/-- With the same bit coming in, a step loses nothing of the register. -/
theorem crcBit_injective (a : Bool) : Function.Injective (crcBit · a) := fun r q (h : crcBit r a = crcBit q a) => by
  have ends : LowAgree 16 (crcBit r a) (crcBit q a) := fun i _ => by rw [h]
  obtain ⟨added, low⟩ := ends.of_crcBit (Nat.le_refl 15)
  have top : r.msb = q.msb := by simpa using added
  refine BitVec.eq_of_getLsbD_eq fun i inside => ?_
  by_cases last : i = 15
  · subst last
    simpa [BitVec.msb_eq_getLsbD_last] using top
  · exact low i (by omega)

/-! ### Characters -/

/-- The bits of a character at places, run through the CRC. -/
def crcBits (x : Byte) (places : List Nat) (r : BitVec 16) : BitVec 16 :=
  places.foldl (fun r i => crcBit r (x.getLsbD i)) r

theorem crcByte_eq (r : BitVec 16) (x : Byte) : crcByte r x = crcBits x [7, 6, 5, 4, 3, 2, 1, 0] r := rfl

theorem crcBits_injective (x : Byte) (places : List Nat) : Function.Injective (crcBits x places) := by
  induction places with
  | nil => exact Function.injective_id
  | cons i rest ih => exact ih.comp (crcBit_injective _)

/-- Two runs that end alike began alike, in as many bits less. -/
theorem LowAgree.of_crcBits {x y : Byte} {n : Nat} (places : List Nat) {r q : BitVec 16}
    (short : n + places.length ≤ 16) (h : LowAgree (n + places.length) (crcBits x places r) (crcBits y places q)) :
    LowAgree n r q := by
  induction places generalizing n r q with
  | nil => exact h
  | cons i rest ih =>
    rw [List.length_cons] at short h
    have stepped : LowAgree (n + 1) (crcBit r (x.getLsbD i)) (crcBit q (y.getLsbD i)) :=
      ih (by omega) (by rwa [Nat.add_right_comm])
    exact (LowAgree.of_crcBit (by omega) stepped).2

/-- From one register, two runs that end alike had the same bits. -/
theorem crcBits_bits {x y : Byte} {places : List Nat} {r : BitVec 16} (short : places.length ≤ 16)
    (h : crcBits x places r = crcBits y places r) : ∀ i ∈ places, x.getLsbD i = y.getLsbD i := by
  induction places generalizing r with
  | nil => nofun
  | cons i rest ih =>
    rw [List.length_cons] at short
    have stepped : LowAgree 1 (crcBit r (x.getLsbD i)) (crcBit r (y.getLsbD i)) :=
      LowAgree.of_crcBits rest (by omega) fun j _ => congrArg (BitVec.getLsbD · j) h
    have same : x.getLsbD i = y.getLsbD i := by simpa using (LowAgree.of_crcBit (Nat.zero_le 15) stepped).1
    refine List.forall_mem_cons.mpr ⟨same, ih (r := crcBit r (x.getLsbD i)) (by omega) ?_⟩
    exact h.trans (by rw [same]; rfl)

/-- From one register, two characters give two registers. -/
theorem crcByte_injective (r : BitVec 16) : Function.Injective (crcByte r) := fun x y h => by
  rw [crcByte_eq, crcByte_eq] at h
  exact BitVec.eq_of_getLsbD_eq fun i inside => crcBits_bits (by decide) h i (by simp; omega)

/-- From two registers, the same characters give two registers. -/
theorem crcBytes_injective (bs : List Byte) : Function.Injective (bs.foldl crcByte) := by
  induction bs with
  | nil => exact Function.injective_id
  | cons b rest ih => exact ih.comp (crcBits_injective b _)

/-- One character changed changes the CRC. -/
theorem crc16_changed (a b : List Byte) {x y : Byte} (h : crc16 (a ++ x :: b) = crc16 (a ++ y :: b)) : x = y := by
  simp only [crc16, List.foldl_append, List.foldl_cons] at h
  exact crcByte_injective _ (crcBytes_injective b h)

/-- The two CRC characters carry the whole CRC. -/
theorem crc16_of_crcChars {a b : List Byte} (h : crcChars a = crcChars b) : crc16 a = crc16 b := by
  simp only [crcChars, List.cons.injEq, and_true] at h
  obtain ⟨high, low⟩ := h
  have high := congrArg BitVec.toNat high
  have low := congrArg BitVec.toNat low
  rw [BitVec.toNat_ofNat, BitVec.toNat_ofNat] at high low
  have := (crc16 a).isLt
  have := (crc16 b).isLt
  exact BitVec.eq_of_toNat_eq (by omega)

theorem crcGood_crcChars (body : List Byte) : crcGood (body ++ crcChars body) = true := by
  have length : (body ++ crcChars body).length - 2 = body.length := by simp [crcChars]
  rw [crcGood, length, List.drop_left, List.take_left]
  exact beq_self_eq_true _

end Sys2Proof.Machine
end

section
/-!
PROOFS. A frame that crosses the line character by character (R189, R190) comes to its fate (R191, R192) as a frame
received whole does, and a request's frame to the taking of the request (O27).
-/

namespace Sys2Proof.Machine

variable {s : State} {f : List Byte}

/-! ### A complete frame -/

theorem frameComplete_iff (f : List Byte) :
    frameComplete f = true ↔ 4 ≤ f.length ∧ byteAt f 3 ≤ 48 ∧ f.length = 6 + byteAt f 3 := by
  unfold frameComplete
  split
  · rename_i l fourth
    obtain ⟨inside, -⟩ := List.getElem?_eq_some_iff.mp fourth
    have announced : byteAt f 3 = l.toNat := by rw [byteAt, List.getD_eq_getElem?_getD, fourth]; rfl
    rw [announced, Bool.and_eq_true, decide_eq_true_eq, beq_iff_eq]
    exact (and_iff_right inside).symm
  · rename_i fourth
    have missing : f.length ≤ 3 := List.getElem?_eq_none_iff.mp fourth
    exact iff_of_false nofun fun h => by omega

theorem byteAt_getElem {i : Nat} (h : i < f.length) : byteAt f i = f[i].toNat := by
  rw [byteAt, List.getD_eq_getElem _ _ h]

theorem byteAt_take {i n : Nat} (h : i < n) : byteAt (f.take n) i = byteAt f i := by
  simp [byteAt, List.getD_eq_getElem?_getD, h]

/-- No character of a complete frame breaks it: the length that it announces is at most 48. -/
theorem frameComplete_fits (complete : frameComplete f = true) {i : Nat} (h : i < f.length) :
    breaksFrame (f.take i) f[i] true = false := by
  obtain ⟨-, announced, -⟩ := (frameComplete_iff f).mp complete
  rw [Bool.eq_false_iff, ne_eq, breaksFrame_stopped, List.length_take, ← byteAt_getElem h]
  rintro ⟨third, long⟩
  obtain rfl : i = 3 := by omega
  omega

/-- The receiver finds a complete frame complete at its last character and not before. -/
theorem frameComplete_whole (complete : frameComplete f = true) {n : Nat} (h : n ≤ f.length) :
    bufferComplete (f.take n) = true ↔ n = f.length := by
  obtain ⟨long, -, length⟩ := (frameComplete_iff f).mp complete
  simp only [bufferComplete, Bool.and_eq_true, decide_eq_true_eq, beq_iff_eq, List.length_take, Nat.min_eq_left h]
  constructor
  · rintro ⟨header, whole⟩
    rw [byteAt_take (by omega)] at whole
    omega
  · rintro rfl
    rw [List.take_length]
    exact ⟨long, length⟩

/-! ### Its characters -/

section Quiet
variable (sending : s.lnk.sending = none) (waiting : s.lnk.waiting = none) (soft : s.lnk.soft ≠ .due)
include sending waiting soft

theorem charArrives_receiving (c : Byte) (buf : List Byte) :
    charArrives c true (lineAt s .receiving buf) = receive c true (lineAt s .receiving buf) :=
  charArrives_quiet (s := lineAt s .receiving buf) true sending waiting soft

/-- Up to its last, the characters of a complete frame are gathered. -/
theorem chars_gather (complete : frameComplete f = true) {n : Nat} (h : n < f.length) :
    (f.take n).foldl (fun u c => charArrives c true u) (lineAt s .receiving []) = lineAt s .receiving (f.take n) := by
  induction n with
  | zero => rfl
  | succ n ih =>
    have inside : n < f.length := by omega
    have short : bufferComplete (f.take n ++ [f[n]]) = false := by
      rw [← List.take_succ_eq_append_getElem inside, Bool.eq_false_iff, ne_eq, frameComplete_whole complete h.le]
      omega
    rw [List.take_succ_eq_append_getElem inside, List.foldl_append, ih inside, List.foldl_cons, List.foldl_nil,
      charArrives_receiving sending waiting soft, receive_gathers (frameComplete_fits complete inside) short]

/-- With its last character a complete frame comes to its fate. -/
theorem chars_complete (complete : frameComplete f = true) :
    f.foldl (fun u c => charArrives c true u) (lineAt s .receiving []) = frameFate f (lineAt s .idle []) := by
  obtain ⟨long, -, -⟩ := (frameComplete_iff f).mp complete
  have inside : f.length - 1 < f.length := by omega
  have split : f.take (f.length - 1) ++ [f[f.length - 1]] = f := by
    rw [← List.take_succ_eq_append_getElem inside, Nat.sub_add_cancel (by omega), List.take_length]
  have whole : bufferComplete (f.take (f.length - 1) ++ [f[f.length - 1]]) = true := by
    have last := (frameComplete_whole complete le_rfl).mpr rfl
    rw [List.take_length] at last
    rw [split, last]
  calc f.foldl (fun u c => charArrives c true u) (lineAt s .receiving [])
      = charArrives f[f.length - 1] true (lineAt s .receiving (f.take (f.length - 1))) := by
        conv_lhs => rw [← split]
        rw [List.foldl_append, chars_gather sending waiting soft complete inside]
        rfl
    _ = frameFate (f.take (f.length - 1) ++ [f[f.length - 1]]) (lineAt s .idle []) := by
        rw [charArrives_receiving sending waiting soft, receive_completes (frameComplete_fits complete inside) whole]
    _ = frameFate f (lineAt s .idle []) := by rw [split]

end Quiet

/-- A complete frame that crosses the line to a listening part is heard, and comes to its fate. -/
theorem frame_crosses (h : Listening s) (idle : s.lnk.receiver = .idle) (complete : frameComplete f = true) :
    (0xC5#8 :: f).foldl (fun u c => charArrives c true u) s = frameFate f (hearFrame s) := by
  have soft : softWithdrawn s.lnk = s.lnk.soft := by simp [softWithdrawn, h.soft]
  have marked : charArrives 0xC5#8 true s = lineAt (hearFrame s) .receiving [] := by
    have quiet : s.withLnk { s.lnk with waiting := none, quietMs := 0 } = lineAt (hearFrame s) .idle s.lnk.buffer := by
      rw [hearFrame, soft, lineAt, ← idle]
      rfl
    rw [charArrives_withdraws true h.sending h.soft, quiet, receive_marker]
  rw [List.foldl_cons, marked, chars_complete (s := hearFrame s) h.sending rfl ?_ complete]
  · rfl
  · rw [soft_of_listening h]; nofun

/-! ### A request's frame -/

theorem reqOfCode_reqCode (k : ReqKind) : reqOfCode (reqCode k) = some k := by cases k <;> rfl

theorem reqCode_lt (k : ReqKind) : reqCode k < 0x80 := by cases k <;> decide

/-- What a frame carries before its CRC (R189). -/
def frameBody (dest : Byte) (src : Station) (kind : Byte) (payload : List Byte) : List Byte :=
  [dest, BitVec.ofNat 8 (stationAddress src), kind, BitVec.ofNat 8 payload.length] ++ payload

/-- The frame as the receiver holds it, without its marker. -/
def heldFrame (dest : Byte) (src : Station) (kind : Byte) (payload : List Byte) : List Byte :=
  frameBody dest src kind payload ++ crcChars (frameBody dest src kind payload)

theorem frameChars_eq (dest : Byte) (src : Station) (kind : Byte) (p : List Byte) :
    frameChars dest src kind p = 0xC5#8 :: heldFrame dest src kind p := rfl

section Held
variable (dest : Byte) (src : Station) (kind : Byte) {p : List Byte}

theorem heldFrame_good (p : List Byte) : crcGood (heldFrame dest src kind p) = true := crcGood_crcChars _

theorem heldFrame_announces (short : p.length ≤ 48) : byteAt (heldFrame dest src kind p) 3 = p.length :=
  (BitVec.toNat_ofNat ..).trans (Nat.mod_eq_of_lt (by omega))

theorem heldFrame_complete (short : p.length ≤ 48) : frameComplete (heldFrame dest src kind p) = true := by
  have length : (heldFrame dest src kind p).length = 6 + p.length := by
    simp [heldFrame, frameBody, crcChars]
    omega
  rw [frameComplete_iff, heldFrame_announces dest src kind short, length]
  omega

theorem heldFrame_payload (short : p.length ≤ 48) :
    bytesAt (heldFrame dest src kind p) 4 (byteAt (heldFrame dest src kind p) 3) = p := by
  rw [heldFrame_announces dest src kind short]
  exact List.take_left ..

end Held

theorem hearFrame_hearFrame (s : State) : hearFrame (hearFrame s) = hearFrame s := by
  have soft : softWithdrawn (hearFrame s).lnk = (hearFrame s).lnk.soft := by simp [softWithdrawn, hearFrame]
  rw [hearFrame, soft]
  rfl

theorem takeKind_hearFrame (k : ReqKind) (src : Station) (p : List Byte) (h : Listening s) :
    takeKind k src p (hearFrame s) = takeKind k src p s := by
  have again : Listening (hearFrame s) := ⟨h.held, h.sending, nofun, soft_of_listening h⟩
  rw [takeKind_eq, takeKind_eq, takeRequest, takeRequest, hears_of_listening again, hears_of_listening h,
    hearFrame_hearFrame]
  rfl

/-- A frame that passes every check of R191 goes to dispatch. -/
theorem frameFate_passed {src : Station} (good : crcGood f = true) (here : byteAt f 0 = stationAddr s.pst)
    (known : byteAt f 1 = stationAddress src) (request : byteAt f 2 < 0x80) : frameFate f s = dispatchFrame f s := by
  rw [frameFate, discardFate_known good here known, if_neg (Nat.not_le.mpr request), Option.getD_none]

theorem dispatchFrame_request {k : ReqKind} {src : Station} {p : List Byte}
    (station : stationOf (f.getD 1 0#8) = some src) (code : byteAt f 2 = reqCode k)
    (payload : bytesAt f 4 (byteAt f 3) = p) : dispatchFrame f s = takeKind k src p s := by
  rw [dispatchFrame, station, code, payload, reqOfCode_reqCode]

/-- A request's frame to this part passes every check, and is taken. -/
theorem frameFate_request (k : ReqKind) (src : Station) {p : List Byte} (short : p.length ≤ 48) (s : State) :
    frameFate (heldFrame (BitVec.ofNat 8 (stationAddr s.pst)) src (BitVec.ofNat 8 (reqCode k)) p) s =
      takeKind k src p s := by
  have here : (BitVec.ofNat 8 (stationAddr s.pst)).toNat = stationAddr s.pst :=
    (BitVec.toNat_ofNat ..).trans (Nat.mod_eq_of_lt (by unfold stationAddr; omega))
  have code : (BitVec.ofNat 8 (reqCode k)).toNat = reqCode k :=
    (BitVec.toNat_ofNat ..).trans (Nat.mod_eq_of_lt (by have := reqCode_lt k; omega))
  have known := stationOf_address src
  have passed := frameFate_passed (heldFrame_good _ src _ p) here (stationOf_eq_some.mp known)
    (code.trans_lt (reqCode_lt k))
  exact passed.trans (dispatchFrame_request known code (heldFrame_payload _ src _ short))

/-- Settles O27: the request's frame crosses the line to its taking, and the CRC tells two characters apart. -/
theorem framesCarryTheirRequests : Obligations.FramesCarryTheirRequests := by
  refine ⟨fun k src p s h idle short => ?_, fun a b x y differ same => ?_⟩
  · rw [frameChars_eq, frame_crosses h idle (heldFrame_complete _ src _ short)]
    exact (frameFate_request k src short (hearFrame s)).trans (takeKind_hearFrame k src p h)
  · exact differ (crc16_changed a b (crc16_of_crcChars same))

end Sys2Proof.Machine
end

section
/-!
PROOFS. No effect touches the commands that wait (R171, log entry 35): frames of `State.pending` for the shared
operations, for every effect and for every request's rule, and with them the completing of every command.
-/

namespace Sys2Proof.Machine

/-! ### Shared operations -/

section Operations
variable (s : State)

theorem calm_pending {s t : State} (h : calm t = calm s) : t.pending = s.pending := kept_pending (calm_kept h)

theorem pending_ite {q : List Instr} {p : Prop} [Decidable p] {t e : State} (ht : t.pending = q) (he : e.pending = q) :
    (if p then t else e).pending = q := by
  split
  · exact ht
  · exact he

theorem pending_answerIte {q : List Instr} {p : Prop} [Decidable p] {t e : State × Reply} (ht : t.1.pending = q)
    (he : e.1.pending = q) : (if p then t else e).1.pending = q := by
  split
  · exact ht
  · exact he

@[simp] theorem putChan_pending (c : Chan) (r : Channel) : (putChan s c r).pending = s.pending := rfl
@[simp] theorem putSeq_pending (q : Sequence) : (putSeq s q).pending = s.pending := rfl
@[simp] theorem setShed_pending : (setShed s).pending = s.pending := rfl
@[simp] theorem mapValves_pending (f : Out → Out) : (mapValves s f).pending = s.pending := rfl
@[simp] theorem mapZones_pending (f : Out → Out) : (mapZones s f).pending = s.pending := rfl
@[simp] theorem putBrk_pending (b : Brk) (r : Breaker) : (putBrk s b r).pending = s.pending := by cases b <;> rfl
@[simp] theorem putOut_pending (x : Output) (o : Out) : (putOut s x o).pending = s.pending := by cases x <;> rfl
@[simp] theorem setActive_pending (v : Option Vcu) : (setActive s v).pending = s.pending := rfl
@[simp] theorem hearFrame_pending : (hearFrame s).pending = s.pending := rfl
@[simp] theorem refreshActivity_pending (st : Station) : (refreshActivity st s).pending = s.pending := by
  cases st <;> rfl
@[simp] theorem putAnswer_pending (st : Station) (c : Byte) (r : State × Reply) :
    (putAnswer st c r).pending = r.1.pending := rfl
@[simp] theorem writeValve_pending (c : Chan) (d : Nat) : (writeValve s c d).pending = s.pending :=
  calm_pending (calm_writeValve s c d)
@[simp] theorem openBrk_pending (b : Brk) : (openBrk s b).pending = s.pending := calm_pending (calm_openBrk s b)
@[simp] theorem recordEnd_pending (r : Result) (n : Nat) : (recordEnd s r n).pending = s.pending :=
  calm_pending (calm_recordEnd s r n)
@[simp] theorem abortSeq_pending (r : Reason) : (abortSeq s r).pending = s.pending := calm_pending (calm_abortSeq s r)
@[simp] theorem startSeq_pending (k : SeqKind) (o : Origin) (t : Option Sys) (a : Option Awaited) (st : Stage) :
    (startSeq s k o t a st).pending = s.pending := calm_pending (calm_startSeq s k o t a st)
@[simp] theorem automaticStart_pending : (automaticStart s).pending = s.pending := calm_pending (calm_automaticStart s)
@[simp] theorem forceChanged_pending (b : Option Sys) : (forceChanged b s).pending = s.pending :=
  calm_pending (calm_forceChanged b s)
@[simp] theorem roofDownSeq_pending (r : Reason) (o : Origin) : (roofDownSeq s r o).pending = s.pending :=
  calm_pending (calm_roofDownSeq s r o)
@[simp] theorem newOutlook_pending : (newOutlook s).pending = s.pending := calm_pending (calm_newOutlook s)
@[simp] theorem progress_pending : (progress s).pending = s.pending := calm_pending (calm_progress s)
@[simp] theorem failed_pending (r : Role) : (failed s r).pending = s.pending := calm_pending (calm_failed s r)
@[simp] theorem failInto_pending (c : Chan) (x : ChanState) : (failInto s c x).pending = s.pending :=
  calm_pending (calm_failInto s c x)
@[simp] theorem dumpInService_pending (c : Chan) : (dumpInService s c).pending = s.pending :=
  calm_pending (calm_dumpInService s c)
@[simp] theorem leaveService_pending (c : Chan) : (leaveService s c).pending = s.pending :=
  calm_pending (calm_leaveService s c)
@[simp] theorem retargetAll_pending : (retargetAll s).pending = s.pending := calm_pending (calm_retargetAll s)
@[simp] theorem testStrip_pending (c : Chan) : (testStrip s c).pending = s.pending := calm_pending (calm_testStrip s c)
@[simp] theorem slotStart_pending : (slotStart s).pending = s.pending := calm_pending (calm_slotStart s)
@[simp] theorem settle_pending (b : State) : (settle b s).pending = s.pending := calm_pending (calm_settle b s)
@[simp] theorem endDemand_pending : (endDemand s).pending = s.pending := kept_pending (kept_endDemand s)
@[simp] theorem offer_pending (o : Offer) : (offer s o).pending = s.pending := kept_pending (kept_offer s o)
@[simp] theorem offerPlain_pending (k : FaultKind) : (offerPlain s k).pending = s.pending := offer_pending s _
@[simp] theorem offerChan_pending (k : FaultKind) (c : Chan) : (offerChan s k c).pending = s.pending :=
  offer_pending s _
@[simp] theorem offerBrk_pending (k : FaultKind) (b : Brk) : (offerBrk s k b).pending = s.pending := offer_pending s _
@[simp] theorem offerParam_pending (k : FaultKind) (n : Nat) : (offerParam s k n).pending = s.pending :=
  offer_pending s _
@[simp] theorem haltThenOffer_pending (r : Reason) (k : FaultKind) (b : Brk) :
    (haltThenOffer s r k b).pending = s.pending := kept_pending (kept_haltThenOffer s r k b)
@[simp] theorem applyChange_pending (b : State) : (applyChange b s).pending = s.pending :=
  kept_pending (kept_applyChange b s)
@[simp] theorem examineConverter_pending : (examineConverter s).pending = s.pending :=
  kept_pending (kept_examineConverter s)

end Operations

section Effects
variable (s : State)

/-! ### The identifier -/

theorem takeSample_pending (x : Int) : (takeSample x s).pending = s.pending :=
  pending_ite rfl (pending_ite rfl rfl)

@[simp] theorem decideCheck_keeps_pending (k : LineClass) : (decideCheck k s).pending = s.pending := by
  unfold decideCheck
  split
  · exact pending_ite (pending_ite rfl (by simp)) rfl
  · rfl

@[simp] theorem examineLine_pending (k : LineClass) : (examineLine k s).pending = s.pending := by
  unfold examineLine
  split
  · rfl
  · split
    · exact offerBrk_pending ..
    · exact offerBrk_pending ..
    · exact pending_ite rfl (offerBrk_pending ..)

@[simp] theorem identifyResult_pending (k : LineClass) : (identifyResult k s).pending = s.pending := by
  unfold identifyResult
  split
  · rfl
  · split
    · split
      · rfl
      · exact haltThenOffer_pending ..
      · exact pending_ite rfl (offerBrk_pending ..)
    · rfl

theorem publishWindow_pending : (publishWindow s).pending = s.pending := by
  unfold publishWindow
  split
  · rfl
  · have warned : ∀ (n : Nat) (x : Lsi), (if 0 < n then offerPlain (s.withLsi x) .saturation
        else s.withLsi x).pending = s.pending := fun _ _ => pending_ite (by simp) rfl
    exact pending_ite (by simp [handResult, warned]) (warned _ _)

/-! ### The cab and the converter -/

@[simp] theorem roofDownRequest_pending (r : Reason) (o : Origin) : (roofDownRequest s r o).pending = s.pending := by
  simp [roofDownRequest]

theorem cabLapse_pending : (cabLapse s).pending = s.pending := by
  unfold cabLapse
  split
  · simp
  · rfl

theorem demandExpiry_pending : (demandExpiry s).pending = s.pending := by
  unfold demandExpiry
  split
  · simp
  · rfl

theorem converterStale_pending : (converterStale s).pending = s.pending := pending_ite (by simp) rfl

theorem converterRetest_pending : (converterRetest s).pending = s.pending :=
  pending_ite rfl (converterStale_pending s)

@[simp] theorem shedReport_pending (c : ConvState) : (shedReport c s).pending = s.pending := by
  unfold shedReport
  split
  · exact pending_ite rfl rfl
  · rfl

theorem takeReport_pending (c : ConvState) (t : Option Sys) : (takeReport c t s).pending = s.pending := by
  simp [takeReport]

/-! ### The breakers and the stage timers -/

@[simp] theorem feedbackTaken_pending (b : Brk) (closed : Bool) : (feedbackTaken s b closed).pending = s.pending := by
  unfold feedbackTaken
  split
  · simp [closeCompletes]
  · simp [trips]
  · simp [closesUncommanded]
  all_goals simp

theorem feedbackChange_pending (b : Brk) (closed : Bool) : (feedbackChange b closed s).pending = s.pending :=
  pending_ite rfl (pending_ite (by simp) (by simp))

theorem closeExpiry_pending (b : Brk) (closed : Bool) : (closeExpiry b closed s).pending = s.pending :=
  pending_ite (by simp) rfl

theorem openExpiry_pending (b : Brk) (closed : Bool) : (openExpiry b closed s).pending = s.pending :=
  pending_ite (pending_ite (by simp) (by simp)) rfl

theorem shedExpiry_pending : (shedExpiry s).pending = s.pending := by
  unfold shedExpiry
  split
  · exact pending_ite (by simp) rfl
  · rfl

theorem deadRunExpiry_pending : (deadRunExpiry s).pending = s.pending := by
  unfold deadRunExpiry
  split
  · exact pending_ite (by simp) rfl
  · rfl

theorem identifyExpiry_pending : (identifyExpiry s).pending = s.pending := by
  unfold identifyExpiry
  split
  · exact pending_ite (by simp) rfl
  · rfl

theorem converterExpiry_pending : (converterExpiry s).pending = s.pending := by
  unfold converterExpiry
  split
  · exact pending_ite (by simp) rfl
  · rfl

/-! ### Channels and outputs -/

@[simp] theorem reachRest_pending (c : Chan) : (reachRest s c).pending = s.pending := by
  unfold reachRest
  dsimp only
  split
  · rfl
  · rfl
  · exact pending_ite rfl rfl
  all_goals rfl

theorem forceLoop_pending (c : Chan) : (forceLoop s c).pending = s.pending := by
  unfold forceLoop
  dsimp only
  split <;> simp

@[simp] theorem storeForce_pending (c : Chan) (f : Int) : (storeForce c f s).pending = s.pending :=
  pending_ite (by simp) rfl

@[simp] theorem storeHeight_pending (c : Chan) (h : Int) : (storeHeight c h s).pending = s.pending :=
  pending_ite (t := putChan ..) (e := putChan ..) rfl rfl

@[simp] theorem storeStrip_pending (c : Chan) (t : Int) : (storeStrip c t s).pending = s.pending := by
  simp [storeStrip]

@[simp] theorem failLower_pending (c : Chan) : (failLower s c).pending = s.pending := by simp [failLower]

@[simp] theorem noWire_pending (c : Chan) : (noWire s c).pending = s.pending := by simp [noWire]

theorem readRaising_pending (c : Chan) (h : Int) : (readRaising c h s).pending = s.pending :=
  pending_ite rfl (pending_ite (by simp) rfl)

theorem arcEvent_pending (c : Chan) : (arcEvent c s).pending = s.pending := by
  have offered : (offerChan (putChan s c { chan s c with arcArmed := false }) .arc c).pending = s.pending := by simp
  exact pending_ite offered offered

theorem readContact_pending (c : Chan) : (readContact c s).pending = s.pending := by
  have read : ∀ low, (if (low && (chan s c).arcArmed) = true then arcEvent c (countLowForce c low s)
      else if eff s Par.contactForce ≤ (chan s c).forceN
        then putChan (countLowForce c low s) c { chan (countLowForce c low s) c with arcArmed := true }
        else countLowForce c low s).pending = s.pending :=
    fun _ => pending_ite (arcEvent_pending ..) (pending_ite rfl rfl)
  exact pending_ite ((noWire_pending ..).trans (read _)) (read _)

@[simp] theorem readTransitions_pending (c : Chan) (h : Int) : (readTransitions c h s).pending = s.pending := by
  have rested : (if (heightOk h && atRest s c) = true then reachRest s c else s).pending = s.pending :=
    pending_ite (by simp) rfl
  unfold readTransitions
  split
  · exact readRaising_pending ..
  · exact readContact_pending ..
  · exact rested
  · exact rested
  · exact rested
  all_goals rfl

theorem takeReading_pending (c : Chan) (h f t : Int) : (takeReading c h f t s).pending = s.pending :=
  pending_ite (by simp) (by simp)

@[simp] theorem heightFails_pending (c : Chan) : (heightFails s c).pending = s.pending := by
  unfold heightFails
  dsimp only
  split <;> simp

theorem heightSensor_pending (c : Chan) : (heightSensor c s).pending = s.pending :=
  pending_ite (pending_ite (by simp) rfl) rfl

theorem headLost_pending {s t : State} {c : Chan} (h : headLost s c = some t) : t.pending = s.pending := by
  unfold headLost at h
  dsimp only at h
  split at h <;> cases h <;> simp

theorem headokLost_pending (c : Chan) : (headokLost c s).pending = s.pending := by
  refine pending_ite (pending_ite rfl ?_) rfl
  split
  · rename_i lost
    exact (offer_pending ..).trans ((headLost_pending lost).trans (putChan_pending ..))
  · rfl

theorem raiseTimeout_pending (c : Chan) : (raiseTimeout c s).pending = s.pending := pending_ite (by simp) rfl
theorem contactLoss_pending (c : Chan) : (contactLoss c s).pending = s.pending := pending_ite (by simp) rfl
theorem lowerTimeout_pending (c : Chan) : (lowerTimeout c s).pending = s.pending := pending_ite (by simp) rfl

theorem takeEnds_pending (o : Output) : (takeEnds o s).pending = s.pending := by
  refine pending_ite (by simp) ?_
  split
  · simp
  · exact pending_ite (by simp) (by simp)

theorem returnEnds_pending (o : Output) : (returnEnds o s).pending = s.pending := by
  cases o <;> simp [returnEnds]

theorem safePeriodEnd_pending (o : Output) : (safePeriodEnd o s).pending = s.pending := by
  refine pending_ite ?_ rfl
  split
  · rfl
  · exact takeEnds_pending ..
  · exact returnEnds_pending ..

theorem serviceLapse_pending : (serviceLapse s).pending = s.pending := pending_ite (by simp [returnAll]) rfl

/-! ### The position -/

theorem takePosition_pending (p track : Nat) (minus : Bool) (v : Nat) :
    (takePosition p track minus v s).pending = s.pending :=
  (newOutlook_pending _).trans (pending_ite (offer_pending ..) rfl)

theorem odometerPulse_pending : (odometerPulse s).pending = s.pending :=
  pending_ite (pending_ite (by simp) rfl) rfl

theorem positionLapse_pending : (positionLapse s).pending = s.pending := pending_ite (by simp) rfl

/-! ### Ice clearing and the winter overlay -/

theorem ambientReading_pending (t : Int) : (ambientReading t s).pending = s.pending :=
  pending_ite rfl (pending_ite (by simp) rfl)

theorem auxokLost_pending : (auxokLost s).pending = s.pending :=
  pending_ite (pending_ite rfl (by simp)) rfl

theorem auxokReturn_pending : (auxokReturn s).pending = s.pending := pending_ite rfl rfl

theorem slotExpiry_pending : (slotExpiry s).pending = s.pending := pending_ite (by simp) rfl

theorem winterApply_pending : (winterApply s).pending = s.pending := by
  unfold winterApply
  split
  · refine pending_ite ?_ rfl
    split
    · simp
    · rfl
  all_goals rfl

theorem winterRemove_pending : (winterRemove s).pending = s.pending := by
  unfold winterRemove
  split <;> rfl

theorem iceUpdate_pending : (iceUpdate s).pending = s.pending := by
  refine pending_ite rfl (pending_ite rfl ?_)
  split
  · exact winterApply_pending _
  · exact winterRemove_pending _
  · rfl

theorem takeRecords_pending (carries : Nat → Bool) (l : Layer) (rs : List (List Byte)) :
    (takeRecords carries s l rs).1.pending = s.pending := by
  induction rs generalizing s l with
  | nil => rfl
  | cons r rs ih =>
    unfold takeRecords
    split
    · exact ih ..
    · exact (ih ..).trans (offerParam_pending ..)

theorem winterTake_pending (bs : List Byte) : (winterTake bs s).1.pending = s.pending :=
  (takeRecords_pending ..).trans (pending_ite (by simp) rfl)

theorem winterRead_pending (r : ReadResult) : (winterRead r s).pending = s.pending := by
  unfold winterRead
  split
  · rfl
  · refine pending_ite ?_ rfl
    split
    · exact winterTake_pending ..
    · exact winterTake_pending ..
    all_goals rfl
  · unfold winterReadFail
    split
    · simp
    all_goals rfl

@[simp] theorem winterCheck_pending (g : Group) : (winterCheck s g).pending = s.pending := by
  unfold winterCheck
  split
  · rfl
  · simp

theorem winterPeriod_pending : (winterPeriod s).pending = s.pending := by
  unfold winterPeriod
  split
  · simp
  · simp
  all_goals rfl

theorem forcePeriod_pending : (forcePeriod s).pending = s.pending := by
  refine pending_ite rfl ?_
  rw [winterPeriod_pending, foldl_frame State.pending _ forceLoop_pending, retargetAll_pending]

/-! ### The profile load and the parameters -/

theorem startBlocks_pending : (startBlocks s).pending = s.pending := (kept_pending (kept_startBlocks s)).trans rfl

theorem startEnds_pending : (startEnds s).pending = s.pending := rfl

theorem endStarting_pending : (endStarting s).pending = s.pending := by
  rw [endStarting_eq, startEnds_pending, startBlocks_pending]

@[simp] theorem fallBack_pending (r : DefaultsReason) : (fallBack s r).pending = s.pending := endStarting_pending _

theorem revertGroup_pending (g : Group) : (revertGroup s g).pending = s.pending := by
  unfold revertGroup
  split
  · rfl
  · simp

theorem finishLoad_pending : (finishLoad s).pending = s.pending := by
  rw [finishLoad, endStarting_pending, foldl_frame State.pending _ revertGroup_pending]

@[simp] theorem advanceLoad_pending (gs : List Segment) : (advanceLoad s gs).pending = s.pending := by
  induction gs generalizing s with
  | nil => exact finishLoad_pending s
  | cons g rest ih =>
    unfold advanceLoad
    split
    · exact (ih _).trans (offerPlain_pending ..)
    · rfl

theorem headerRead_pending (r : ReadResult) : (headerRead r s).pending = s.pending := by
  refine pending_ite ?_ rfl
  split
  · rfl
  · simp
  · exact pending_ite (advanceLoad_pending ..) (by simp)

theorem takeFixed_pending (bs : List Byte) : (takeFixed s bs).pending = s.pending := by
  unfold takeFixed
  dsimp only
  split
  · exact offer_pending ..
  · exact pending_ite (offer_pending ..) (pending_ite (offer_pending ..) rfl)

@[simp] theorem takeSegment_pending (g : Segment) (bs : List Byte) : (takeSegment g bs s).pending = s.pending := by
  have marked : ∀ x, (if x = SegLoad.part then offerPlain (s.withPst (setSeg s.pst g x)) .segmentInvalid
      else s.withPst (setSeg s.pst g x)).pending = s.pending := fun _ => pending_ite (by simp) rfl
  exact pending_ite ((foldl_frame State.pending _ takeFixed_pending ..).trans (marked _))
    ((takeRecords_pending ..).trans (marked _))

theorem segmentRead_pending (r : ReadResult) : (segmentRead r s).pending = s.pending := by
  unfold segmentRead
  split
  · exact pending_ite (by simp) rfl
  · simp [loadNoAnswer]
  all_goals rfl

theorem settleEnd_pending : (settleEnd s).pending = s.pending := pending_ite rfl rfl

@[simp] theorem generalEffects_pending (n : Nat) : (generalEffects n s).pending = s.pending :=
  pending_ite (demandExpiry_pending s) (pending_ite (cabLapse_pending s) (pending_ite (converterRetest_pending s)
    (pending_ite (positionLapse_pending s) (pending_ite (newOutlook_pending s) rfl))))

theorem takeSet_pending (n : Nat) (v : Int) : (takeSet n v s).pending = s.pending := by
  have written : ∀ p, (if groupOf n = .line then restartIdent (s.withPst p) else s.withPst p).pending = s.pending :=
    fun _ => pending_ite rfl rfl
  exact pending_ite (by simp [written]) (written _)

/-! ### Resets -/

theorem releaseReset_pending (straps : BitVec 5) : (releaseReset straps s).pending = s.pending :=
  pending_ite rfl (fallBack_pending ..)

theorem softResetAct_pending (straps : BitVec 5) : (softResetAct straps s).pending = s.pending :=
  pending_ite (releaseReset_pending ..) rfl

/-! ### Requests -/

theorem statusRead_pending (p : List Byte) : (statusRead p s).1.pending = s.pending := by
  unfold statusRead
  dsimp only
  split <;> rfl

theorem cabTake_pending (src : Station) : (cabTake src s).1.pending = s.pending := by
  unfold cabTake
  split
  · rfl
  · exact pending_answerIte rfl rfl

theorem cabPass_pending : (cabPass s).1.pending = s.pending := by
  unfold cabPass
  split <;> rfl

theorem refreshDemand_pending : (refreshDemand s).pending = s.pending := by
  unfold refreshDemand
  split <;> rfl

theorem roofUpChoice_pending (t : Sys) (p : Option Chan) : (roofUpChoice s t p).1.pending = s.pending := by
  have refreshed := refreshDemand_pending s
  refine pending_answerIte refreshed ?_
  split
  · exact pending_answerIte rfl (pending_answerIte rfl (pending_answerIte rfl refreshed))
  · exact pending_answerIte rfl refreshed

theorem roofUp_pending (p : List Byte) : (roofUp p s).1.pending = s.pending := by
  refine pending_answerIte rfl (pending_answerIte rfl (pending_answerIte rfl ?_))
  split
  · rfl
  · exact pending_answerIte rfl (roofUpChoice_pending ..)

theorem selectSystem_pending (src : Station) (t : Sys) : (selectSystem src t s).1.pending = s.pending := by
  have retargeted : ∀ q, (retargetSeq s q t).pending = s.pending := fun _ => pending_ite rfl rfl
  unfold selectSystem
  split
  · exact pending_answerIte rfl (pending_answerIte (retargeted _) rfl)
  · exact pending_answerIte rfl (pending_answerIte rfl (startSeq_pending ..))

theorem systemSelect_pending (src : Station) (p : List Byte) : (systemSelect src p s).1.pending = s.pending := by
  unfold systemSelect
  split
  · rfl
  · exact pending_answerIte rfl (selectSystem_pending ..)

theorem breakerClose_pending (src : Station) : (breakerClose src s).1.pending = s.pending := by
  refine pending_answerIte rfl (pending_answerIte rfl (pending_answerIte rfl ?_))
  split
  · rfl
  · refine pending_answerIte rfl ?_
    split
    · rfl
    · exact startSeq_pending ..

theorem breakerOpen_pending (src : Station) : (breakerOpen src s).1.pending = s.pending :=
  pending_answerIte rfl (by simp [done])

theorem sectionLoad_pending (p : List Byte) : (sectionLoad p s).1.pending = s.pending := by
  refine pending_answerIte rfl ?_
  split
  · rfl
  · dsimp only
    split
    · rfl
    · exact pending_answerIte rfl (newOutlook_pending _)

theorem sectionClear_pending (p : List Byte) : (sectionClear p s).1.pending = s.pending := by
  have cleared : ∀ gone, (clearRoutes gone s).1.pending = s.pending := fun _ => newOutlook_pending _
  unfold sectionClear
  split
  · exact cleared _
  · exact pending_answerIte (cleared _) rfl
  · rfl

theorem converterReport_pending (p : List Byte) : (converterReport p s).1.pending = s.pending := by
  unfold converterReport
  split
  · exact takeReport_pending ..
  · rfl

theorem iceModeReq_pending (p : List Byte) : (iceModeReq p s).1.pending = s.pending := by
  unfold iceModeReq
  split <;> rfl

theorem parameterSet_pending (p : List Byte) : (parameterSet p s).1.pending = s.pending :=
  pending_answerIte rfl (pending_answerIte rfl (pending_answerIte rfl (pending_answerIte rfl (takeSet_pending ..))))

theorem parameterRead_pending (p : List Byte) : (parameterRead p s).1.pending = s.pending := by
  unfold parameterRead
  split <;> rfl

theorem faultRead_pending (p : List Byte) : (faultRead p s).1.pending = s.pending := by
  unfold faultRead
  dsimp only
  split <;> rfl

theorem faultClear_pending (p : List Byte) : (faultClear p s).1.pending = s.pending := by
  unfold faultClear
  split
  · rfl
  · exact pending_answerIte rfl (pending_ite rfl rfl)

theorem thresholdSet_pending (p : List Byte) : (thresholdSet p s).1.pending = s.pending := by
  unfold thresholdSet
  dsimp only
  split
  · rfl
  · exact pending_answerIte rfl rfl

theorem lockoutClear_pending (p : List Byte) : (lockoutClear p s).1.pending = s.pending := by
  unfold lockoutClear
  split
  · rfl
  · exact pending_answerIte rfl (pending_answerIte rfl (pending_answerIte rfl rfl))

theorem outputTake_pending (p : List Byte) : (outputTake p s).1.pending = s.pending := by
  refine pending_answerIte rfl (pending_answerIte rfl ?_)
  split
  · rfl
  · refine pending_answerIte rfl (pending_answerIte rfl (pending_answerIte rfl ?_))
    split
    · rfl
    · exact putOut_pending ..

theorem outputDrive_pending (p : List Byte) : (outputDrive p s).1.pending = s.pending := by
  unfold outputDrive
  dsimp only
  split
  · rfl
  · refine pending_answerIte rfl (pending_answerIte rfl (pending_answerIte rfl ?_))
    split
    · rfl
    · exact putOut_pending ..

theorem outputReturn_pending (p : List Byte) : (outputReturn p s).1.pending = s.pending := by
  refine pending_answerIte rfl ?_
  split
  · rfl
  · exact putOut_pending ..

theorem senseCheckStart_pending (p : List Byte) : (senseCheckStart p s).1.pending = s.pending := by
  refine pending_answerIte rfl (pending_answerIte rfl (pending_answerIte rfl ?_))
  split
  · exact endDemand_pending (s.withRoof .check)
  · rfl

/-- No request's rule touches the queue. -/
theorem requestRule_pending (k : ReqKind) (src : Station) (p : List Byte) :
    (requestRule k src p s).1.pending = s.pending := by
  cases k with
  | statusRead => exact statusRead_pending s p
  | cabTake => exact cabTake_pending s src
  | cabRelease => exact roofDownRequest_pending ..
  | cabPass => exact cabPass_pending s
  | roofUp => exact roofUp_pending s p
  | roofDown => exact roofDownRequest_pending ..
  | systemSelect => exact systemSelect_pending s src p
  | breakerClose => exact breakerClose_pending s src
  | breakerOpen => exact breakerOpen_pending s src
  | position => exact pending_answerIte rfl (takePosition_pending ..)
  | sectionLoad => exact sectionLoad_pending s p
  | sectionClear => exact sectionClear_pending s p
  | sectionRead => exact pending_answerIte rfl rfl
  | converterReport => exact converterReport_pending s p
  | iceMode => exact iceModeReq_pending s p
  | parameterSet => exact parameterSet_pending s p
  | parameterRead => exact parameterRead_pending s p
  | faultRead => exact faultRead_pending s p
  | faultClear => exact faultClear_pending s p
  | thresholdSet => exact thresholdSet_pending s p
  | lockoutClear => exact lockoutClear_pending s p
  | outputTake => exact outputTake_pending s p
  | outputDrive => exact outputDrive_pending s p
  | outputReturn => exact outputReturn_pending s p
  | senseCheckStart => exact senseCheckStart_pending s p
  | senseCheckEnd => exact pending_answerIte rfl rfl
  | softReset => rfl

theorem takeRequest_pending (k : ReqKind) (src : Station) (p : List Byte) :
    (takeRequest k src p (requestRule k src p) s).pending = s.pending := by
  rcases takeRequest_cases k src p (requestRule k src p) s with e | e | ⟨c, r, e, rfl | admitted⟩ <;> rw [e]
  · rfl
  · exact (requestRule_pending ..).trans (heard_pending src s)
  · rw [putAnswer_pending, admitted, heard_pending]

/-! ### The link -/

theorem takeUnknownKind_pending (src : Station) (k : Byte) : (takeUnknownKind src k s).pending = s.pending :=
  pending_ite (pending_ite rfl (heard_pending src s)) rfl

theorem discardFate_pending {f : List Byte} {s t : State} (e : discardFate f s = some t) : t.pending = s.pending := by
  unfold discardFate at e
  split at e
  · cases e; simp
  split at e
  · cases e; rfl
  split at e
  · cases e; simp
  split at e
  · cases e; simp
  · cases e

theorem dispatchFrame_pending (f : List Byte) : (dispatchFrame f s).pending = s.pending := by
  unfold dispatchFrame
  split
  · rfl
  · split
    · rw [takeKind_eq, takeRequest_pending]
    · exact takeUnknownKind_pending ..

theorem frameFate_pending (f : List Byte) : (frameFate f s).pending = s.pending := by
  unfold frameFate
  cases fate : discardFate f s with
  | none => exact dispatchFrame_pending s f
  | some t => exact discardFate_pending fate

theorem breakFrame_pending (r : Receiver) : (breakFrame r s).pending = s.pending := offerPlain_pending ..

theorem receive_pending (c : Byte) (stop : Bool) : (receive c stop s).pending = s.pending := by
  unfold receive
  split
  · rfl
  · exact pending_ite rfl rfl
  · exact pending_ite (breakFrame_pending ..) (pending_ite (frameFate_pending ..) rfl)

theorem charArrives_pending (c : Byte) (stop : Bool) : (charArrives c stop s).pending = s.pending :=
  pending_ite rfl (pending_ite rfl (receive_pending ..))

theorem frameDiscarded_pending (f : List Byte) : (frameDiscarded f s).pending = s.pending := by
  refine pending_ite (pending_ite rfl ?_) rfl
  cases fate : discardFate f (hearFrame s) with
  | none => rfl
  | some t => exact (discardFate_pending (t := t) fate).trans (hearFrame_pending s)

theorem frameFormatAbort_pending (c : Byte) (stop : Bool) : (frameFormatAbort c stop s).pending = s.pending :=
  pending_ite (charArrives_pending ..) rfl

theorem frameGap_pending : (frameGap s).pending = s.pending := pending_ite (breakFrame_pending ..) rfl
theorem silenceEnd_pending : (silenceEnd s).pending = s.pending := pending_ite rfl rfl
theorem answerEnd_pending : (answerEnd s).pending = s.pending := pending_ite rfl rfl

theorem answerWithdrawn_pending (c : Byte) : (answerWithdrawn c s).pending = s.pending :=
  pending_ite (charArrives_pending ..) rfl

theorem answerSend_pending : (answerSend s).pending = s.pending := by
  unfold answerSend
  split <;> rfl

end Effects

/-! ### The commands -/

/-- A command answers a next state, on which the commands that wait stand as they did. -/
def Completes (s : State) (o : Host.Outcome State Fault Refusal) : Prop := ∃ t, o = .next t ∧ t.pending = s.pending

theorem Completes.event {f : State → State} {s : State} (same : (f s).pending = s.pending) :
    Completes s (event f s) := by
  obtain ⟨t, answer, ⟨-, rfl⟩ | ⟨-, rfl⟩⟩ := event_next f s
  · exact ⟨_, answer, rfl⟩
  · exact ⟨_, answer, (settle_pending ..).trans same⟩

theorem Completes.inputEvent {f : State → State} {s : State} (same : (f s).pending = s.pending) :
    Completes s (inputEvent f s) := ⟨_, rfl, (settle_pending ..).trans same⟩

theorem completes_resetRelease (straps : BitVec 5) (s : State) : Completes s (execResetRelease straps s) := by
  unfold execResetRelease
  split
  · exact ⟨_, rfl, (settle_pending ..).trans (releaseReset_pending ..)⟩
  · exact ⟨_, rfl, rfl⟩

theorem completes_request (k : ReqKind) (src : Station) (p : List Byte) (s : State) :
    Completes s (exec (requestCmd k src p) s) := by
  rw [exec_requestCmd]
  exact .event (takeRequest_pending s k src p)

theorem completes_exec (c : Instr) (s : State) : Completes s (exec c s) := by
  cases c with
  | statusRead src p => exact completes_request .statusRead src p s
  | cabTake src p => exact completes_request .cabTake src p s
  | cabRelease src p => exact completes_request .cabRelease src p s
  | cabPass src p => exact completes_request .cabPass src p s
  | roofUp src p => exact completes_request .roofUp src p s
  | roofDown src p => exact completes_request .roofDown src p s
  | systemSelect src p => exact completes_request .systemSelect src p s
  | breakerClose src p => exact completes_request .breakerClose src p s
  | breakerOpen src p => exact completes_request .breakerOpen src p s
  | position src p => exact completes_request .position src p s
  | sectionLoad src p => exact completes_request .sectionLoad src p s
  | sectionClear src p => exact completes_request .sectionClear src p s
  | sectionRead src p => exact completes_request .sectionRead src p s
  | converterReport src p => exact completes_request .converterReport src p s
  | iceMode src p => exact completes_request .iceMode src p s
  | parameterSet src p => exact completes_request .parameterSet src p s
  | parameterRead src p => exact completes_request .parameterRead src p s
  | faultRead src p => exact completes_request .faultRead src p s
  | faultClear src p => exact completes_request .faultClear src p s
  | thresholdSet src p => exact completes_request .thresholdSet src p s
  | lockoutClear src p => exact completes_request .lockoutClear src p s
  | outputTake src p => exact completes_request .outputTake src p s
  | outputDrive src p => exact completes_request .outputDrive src p s
  | outputReturn src p => exact completes_request .outputReturn src p s
  | senseCheckStart src p => exact completes_request .senseCheckStart src p s
  | senseCheckEnd src p => exact completes_request .senseCheckEnd src p s
  | softReset src p => exact completes_request .softReset src p s
  | unknownKind src x => exact .event (takeUnknownKind_pending s src x)
  | frameDiscarded f => exact .event (frameDiscarded_pending s f)
  | frameFormatAbort x stop => exact .event (frameFormatAbort_pending s x stop)
  | frameGapTimeout => exact .event (frameGap_pending s)
  | silenceEnd => exact .event (silenceEnd_pending s)
  | answerSend => exact .event (answerSend_pending s)
  | answerWithdrawn x => exact .event (answerWithdrawn_pending s x)
  | softResetAction straps => exact .event (softResetAct_pending s straps)
  | powerOnReset => exact ⟨_, rfl, rfl⟩
  | pinReset => exact ⟨_, rfl, rfl⟩
  | resetRelease straps => exact completes_resetRelease straps s
  | profileHeaderRead r => exact .event (headerRead_pending s _)
  | segmentRead a => exact .event (segmentRead_pending s _)
  | loadEepromNoAnswer => exact .event (segmentRead_pending s _)
  | winterReadEnd a => exact .event (winterRead_pending s _)
  | winterReadFail => exact .event (winterRead_pending s _)
  | windowPublication => exact .event (publishWindow_pending s)
  | channelReading c h f x => exact .event (takeReading_pending s c h f x)
  | ambientReading x => exact .event (ambientReading_pending s x)
  | heightSensor c => exact .event (heightSensor_pending s c)
  | headokLost c => exact .inputEvent (headokLost_pending s c)
  | headokRestored c => exact .inputEvent (f := headokRestored c) (putChan_pending ..)
  | raiseTimeout c => exact .event (raiseTimeout_pending s c)
  | contactLoss c => exact .event (contactLoss_pending s c)
  | lowerTimeout c => exact .event (lowerTimeout_pending s c)
  | forceControlPeriod => exact .event (forcePeriod_pending s)
  | valvePeriodBoundary => exact .event (f := (mapValves · atBoundary)) (mapValves_pending ..)
  | heaterPeriodBoundary => exact .event (f := (mapZones · atBoundary)) (mapZones_pending ..)
  | safePeriodEnd o => exact .event (safePeriodEnd_pending s o)
  | serviceLapse => exact .event (serviceLapse_pending s)
  | auxokLost => exact .inputEvent (auxokLost_pending s)
  | auxokReturn => exact .inputEvent (auxokReturn_pending s)
  | cabLapse => exact .event (cabLapse_pending s)
  | demandExpiry => exact .event (demandExpiry_pending s)
  | converterStale => exact .event (converterStale_pending s)
  | odometerPulse => exact .event (odometerPulse_pending s)
  | positionLapse => exact .event (positionLapse_pending s)
  | breakerFeedbackChange b x => exact .inputEvent (feedbackChange_pending s b x)
  | closeTimeExpiry b x => exact .event (closeExpiry_pending s b x)
  | openTimeExpiry b x => exact .event (openExpiry_pending s b x)
  | shedTimeout => exact .event (shedExpiry_pending s)
  | deadRun => exact .event (deadRunExpiry_pending s)
  | identifyTimeout => exact .event (identifyExpiry_pending s)
  | converterTimeout => exact .event (converterExpiry_pending s)
  | settleIntervalEnd => exact .event (settleEnd_pending s)
  | iceIndexUpdate => exact .event (iceUpdate_pending s)
  | slotExpiry => exact .event (slotExpiry_pending s)
  | roofVoltageSample x => exact .event (takeSample_pending s _)
  | characterReceived x => exact .event (charArrives_pending s x true)
  | answerEnd => exact .event (answerEnd_pending s)

/-- Settles O3: every command is an event whose effect leaves the queue, or a reset, which keeps it. -/
theorem everyCommandCompletes : Obligations.EveryCommandCompletes := completes_exec

/-- Settles O1: `step` takes the command from the front of the queue. -/
theorem stepRunsTheFrontCommand : Obligations.StepRunsTheFrontCommand := fun _ _ _ => rfl

end Sys2Proof.Machine
end
